-- ==== Sys2Proof/Word.lean ====
section
/-! DEFINITION. The byte, and the two fixed-size groups the part is full of: six axles or six input
lines, three demand sources.  Quantities of the manual (speeds, efforts, pressures, times) are plain
`Nat`; only what travels on the link as bytes, and what wraps, is a bit vector. -/

namespace Sys2Proof

/-- One byte of a frame (chapter 11: a frame is a sequence of bytes). -/
abbrev Byte := BitVec 8

/-- A 32-bit word that wraps: the local millisecond counter and every stamp taken from it (R180). -/
abbrev Word32 := BitVec 32

/-- Six like things: axles 1 to 6, or input lines 1 to 6. -/
structure Six (α : Type) where
  a1 : α
  a2 : α
  a3 : α
  a4 : α
  a5 : α
  a6 : α
deriving DecidableEq, Repr

/-- The same value six times. -/
def Six.all {α : Type} (x : α) : Six α := ⟨x, x, x, x, x, x⟩

/-- The member of an axle or line; index 0 is number 1. -/
def Six.get {α : Type} (x : Six α) : Fin 6 → α
  | 0 => x.a1
  | 1 => x.a2
  | 2 => x.a3
  | 3 => x.a4
  | 4 => x.a5
  | 5 => x.a6

/-- Replace the member of one axle or line. -/
def Six.set {α : Type} (x : Six α) (i : Fin 6) (v : α) : Six α :=
  match i with
  | 0 => { x with a1 := v }
  | 1 => { x with a2 := v }
  | 2 => { x with a3 := v }
  | 3 => { x with a4 := v }
  | 4 => { x with a5 := v }
  | 5 => { x with a6 := v }

/-- Apply a function to each of the six. -/
def Six.map {α β : Type} (f : α → β) (x : Six α) : Six β :=
  ⟨f x.a1, f x.a2, f x.a3, f x.a4, f x.a5, f x.a6⟩

/-- Combine two groups of six, member by member. -/
def Six.zipWith {α β γ : Type} (f : α → β → γ) (x : Six α) (y : Six β) : Six γ :=
  ⟨f x.a1 y.a1, f x.a2 y.a2, f x.a3 y.a3, f x.a4 y.a4, f x.a5 y.a5, f x.a6 y.a6⟩

/-- The group whose member `i` is `f i`. -/
def Six.ofFn {α : Type} (f : Fin 6 → α) : Six α := ⟨f 0, f 1, f 2, f 3, f 4, f 5⟩

/-- The six in ascending number. -/
def Six.toList {α : Type} (x : Six α) : List α := [x.a1, x.a2, x.a3, x.a4, x.a5, x.a6]

/-- The sum of six quantities. -/
def Six.sum (x : Six Nat) : Nat := x.a1 + x.a2 + x.a3 + x.a4 + x.a5 + x.a6

/-- The sixfold index list, ascending. -/
def six : List (Fin 6) := [0, 1, 2, 3, 4, 5]

end Sys2Proof
end

