-- ==== Sys2Proof/Syntax.lean ====
section
/-! DEFINITION. The commands of the part: one constructor of `Instr` for each row of the table of
operations and events (`spec/opcode_table.json`), with the operands the row's rule gives it.

Two kinds of rows stand side by side.  Events from outside (a frame, a pin, a request, the passing of a
timer's limit) carry what arrives.  Rows that name one consequence inside a larger event (a consumed
frame's delivery, the completion of a pending switch, the entry of a held response) carry what the owning
unit is delivered, and are the same operation that the larger event performs. -/

namespace Sys2Proof

/-- The two link ports (chapter 0, Connections). -/
inductive Port where
  | c
  | e
deriving DecidableEq, Repr

/-- The three demand sources that may command the brakes (chapter 1). -/
inductive Source where
  | cabA
  | cabB
  | dp
deriving DecidableEq, Repr

/-- The two trucks; truck 1 carries axles 1 to 3, truck 2 axles 4 to 6. -/
inductive Truck where
  | t1
  | t2
deriving DecidableEq, Repr

/-- A frame without its check bytes: the five header bytes (the length byte follows from the payload)
and the payload (chapter 11). -/
structure Frame where
  dst : Byte
  src : Byte
  cls : Byte
  seq : Byte
  payload : List Byte
deriving DecidableEq, Repr

/-- What puts the part into power-on reset (R182): the supply coming up, or RESETn driven low for a
number of whole microseconds. -/
inductive ResetCause where
  | powerUp
  | pinLow (micros : Nat)
deriving DecidableEq, Repr

/-- What ends a hold of the part in power-on reset (R182), with the level of the three ADDR straps then: the rising
edge of RESETn, or the supply coming within its range, which is the end of the power-up hold. -/
inductive ResetRelease where
  | risingEdge (straps : BitVec 3)
  | supplyInRange (straps : BitVec 3)
deriving DecidableEq, Repr

/-- The commands.  `src` and `tag` of a management command are the source byte and the tag of its
MGMT_REQUEST frame; an argument is the argument field of chapter 11, as received. -/
inductive Instr where
  /-- RESET_ASSERT (R182). -/
  | resetAssert (cause : ResetCause)
  /-- POWER_ON_RESET (R182): a release, with the level of the three ADDR straps. -/
  | powerOnReset (release : ResetRelease)
  /-- FRAME_ARRIVAL (R127): every byte received, check bytes included. -/
  | frameArrival (port : Port) (bytes : List Byte)
  /-- DEMAND_FRAME (R1): a consumed DEMAND frame's delivery to a monitor, with the gap mark. -/
  | demandFrame (source : Source) (gap : Bool) (frame : Frame)
  /-- SOURCE_SWITCH_COMPLETE (R8): a VALID source is delivered to the pending-switch completion. -/
  | sourceSwitchComplete (source : Source)
  /-- AUTO_SWITCH (R16): a source's VALID transition is delivered to the start-up auto-switch. -/
  | autoSwitch (source : Source)
  /-- EMERGENCY_LATCH_CLEAR (R21): the clearing test on a delivered frame's fields as received. -/
  | emergencyLatchClear (source : Source) (emergency : Bool) (reduction : Byte)
  /-- TIME_FRAME (R134). -/
  | timeFrame (payload : List Byte)
  /-- AXLE_SAMPLE (R24). -/
  | axleSample (payload : List Byte)
  /-- RADAR_SAMPLE (R31). -/
  | radarSample (payload : List Byte)
  /-- TRACTION_STATUS (R49). -/
  | tractionStatus (payload : List Byte)
  /-- VALVE_STATUS (R89), with the truck of the sending node's role. -/
  | valveStatus (truck : Truck) (payload : List Byte)
  /-- MGMT_REQUEST (R158): a request handed over by the Link Unit. -/
  | mgmtRequest (src : Byte) (payload : List Byte)
  /-- HELD_RESPONSE_ENTRY (R160). -/
  | heldResponseEntry
  /-- STATUS_GET (R166). -/
  | statusGet (src tag sect : Byte)
  /-- NODE_STATUS_GET (R167). -/
  | nodeStatusGet (src tag first count : Byte)
  /-- FLAGS_CLEAR (R153). -/
  | flagsClear (src tag : Byte) (mask : Word32)
  /-- MODE_SET (R174). -/
  | modeSet (src tag target : Byte)
  /-- VALIDATION_COMPLETE (R176). -/
  | validationComplete
  /-- TABLE_WRITE (R171). -/
  | tableWrite (src tag table : Byte) (first : BitVec 16) (count : Byte) (values : List Byte)
  /-- TABLE_READ (R173). -/
  | tableRead (src tag table : Byte) (first : BitVec 16) (count : Byte)
  /-- RESTART (R179). -/
  | restart (src tag : Byte)
  /-- SOURCE_SELECT (R7). -/
  | sourceSelect (src tag target : Byte)
  /-- SOURCE_ABORT (R9). -/
  | sourceAbort (src tag : Byte)
  /-- SOURCE_LOCK (R11). -/
  | sourceLock (src tag : Byte)
  /-- DB_TRIP_CLEAR (R56). -/
  | dbTripClear (src tag : Byte)
  /-- AXLE_ISOLATE (R43). -/
  | axleIsolate (src tag axle : Byte)
  /-- AXLE_RESTORE (R44). -/
  | axleRestore (src tag axle : Byte)
  /-- INCIDENT_LIST (R120). -/
  | incidentList (src tag : Byte)
  /-- INCIDENT_READ (R121). -/
  | incidentRead (src tag slot : Byte) (sequence : Word32) (chunk : Byte)
  /-- INCIDENT_RELEASE (R122). -/
  | incidentRelease (src tag slot : Byte) (sequence : Word32)
  /-- INCIDENT_MARK (R123). -/
  | incidentMark (src tag : Byte)
  /-- TRANSMIT_COMPLETE (R140). -/
  | transmitComplete (port : Port)
  /-- NOTICE_REFORM (R155). -/
  | noticeReform
  /-- LIVENESS_EXPIRY (R143) of one node table entry. -/
  | livenessExpiry (node : Fin 32)
  /-- HOLD_TIMER_EXPIRY (R13). -/
  | holdTimerExpiry
  /-- EMERGENCY_RESET_EXPIRY (R20). -/
  | emergencyResetExpiry
  /-- STALE_TIMER_EXPIRY (R28). -/
  | staleTimerExpiry
  /-- EPISODE_TIMER_EXPIRY (R39) of one axle. -/
  | episodeTimerExpiry (axle : Fin 6)
  /-- LOCKED_TIMEOUT (R41) of one axle. -/
  | lockedTimeout (axle : Fin 6)
  /-- SAND_HOLD_EXPIRY (R46). -/
  | sandHoldExpiry
  /-- SETUP_TIMER_EXPIRY (R52). -/
  | setupTimerExpiry
  /-- IDLE_TIMER_EXPIRY (R53). -/
  | idleTimerExpiry
  /-- HEAT_PERIOD (R61). -/
  | heatPeriod
  /-- BLEND_PERIOD (R65). -/
  | blendPeriod
  /-- DISCRETE_PIN_CHANGE (R147): the pin of one input is now at this electrical level. -/
  | discretePinChange (input : Fin 6) (high : Bool)
  /-- DEBOUNCE_EXPIRY (R148) of one input. -/
  | debounceExpiry (input : Fin 6)
deriving DecidableEq, Repr

end Sys2Proof
end

