-- ==== Sys2Proof/Decode.lean ====
section
/-! DEFINITION. Reading a command from a table word.  The part has no instruction words: no row of the
table of operations and events gives bits (`spec/98_reader.md`, n_rows_with_fixed 0), so no word spells a
command.  The bytes of frames and requests are decoded where their chapters say, in `Machine/Layout.lean`,
`Machine/Operands.lean`, `Machine/Frames.lean` and `Machine/Management.lean`. -/

namespace Sys2Proof

/-- The command a table word spells: none, since no row of the table gives bits. -/
def decodeTableWord (_nbits _w : Nat) : Option Instr := none

end Sys2Proof
end

