-- ==== Sys2Proof/Config.lean ====
section
/-! DEFINITION. What is fixed for the part: capacities, periods and code numbers of the manual, and the
one value the manual leaves free. -/

namespace Sys2Proof.Config

/-- A frame's payload holds 0 to 240 bytes (chapter 11). -/
def maxPayload : Nat := 240

/-- Header and check bytes of every frame (R127: byte count is 7 plus the length byte). -/
def frameOverhead : Nat := 7

/-- The longest frame (R127). -/
def maxFrame : Nat := 247

/-- Frames an originated queue holds (R138). -/
def originatedCapacity : Nat := 8

/-- Frames a forward queue holds (R137). -/
def forwardCapacity : Nat := 16

/-- Snapshots the ring holds (R101). -/
def ringCapacity : Nat := 256

/-- Entries of an incident's trigger list (R111). -/
def triggerCapacity : Nat := 8

/-- The blend period and the heat period, in ms (R61, R65). -/
def periodMs : Nat := 20

/-- A validation completes within this many ms of its start (R176). -/
def validationMs : Nat := 2

/-- Line time of one byte, in microseconds (R140). -/
def byteMicros : Nat := 5

/-- The inter-frame interval, in microseconds (R140). -/
def interFrameMicros : Nat := 20

/-- A shorter low pulse on RESETn is ignored, in microseconds (R182). -/
def resetMicros : Nat := 10

/-- The largest value of a 32-bit counter, of the heat and of an elapsed time (R94, R145). -/
def maxU32 : Nat := 4294967295

/-- The own node address is this base plus the strap value (R132). -/
def addressBase : Nat := 240

/-- Class codes (chapter 11, Codes). -/
def clsDemand : Byte := 0x21
def clsTime : Byte := 0x28
def clsMgmtRequest : Byte := 0x40
def clsMgmtResponse : Byte := 0x41
def clsNotice : Byte := 0x44
def clsBrakeReport : Byte := 0x48
def clsAxleSample : Byte := 0x61
def clsRadarSample : Byte := 0x62
def clsTractionStatus : Byte := 0x68
def clsValveStatus : Byte := 0x6C
def clsDbSetpoint : Byte := 0x70
def clsBcSetpoint : Byte := 0x74

/-- FREE VALUE.  When two or more expiries are due at the same moment the manual leaves their order open
("either may be taken first"); this constant, applied to a counter in the state, picks the next one.  It
has no body: no proof can see which one it picks. -/
opaque dueChoice : Nat → Nat

end Sys2Proof.Config
end

