-- ==== Sys2Proof/Machine/State.lean ====
section
/-! DEFINITION. The state of the part, block by block (chapter 0, Functional blocks), as plain data, and
its value right after power-on reset. -/

namespace Sys2Proof.Machine

/-! ## Shared shapes -/

/-- A timer (chapter 0, Time and timers): stopped, running with its elapsed ms, or, for the emergency
reset timer alone (R20), expired. -/
inductive Timer where
  | stopped
  | running (elapsed : Nat)
  | expired
deriving DecidableEq, Repr

/-- One member per demand source. -/
structure PerSource (α : Type) where
  cabA : α
  cabB : α
  dp : α
deriving DecidableEq, Repr

/-- Device mode (chapter 10). -/
inductive Mode where
  | init
  | maintenance
  | service
deriving DecidableEq, Repr

/-! ## Demand Authority Unit (chapter 1) -/

/-- State of a source monitor (R2). -/
inductive MonitorState where
  | silent
  | acquiring
  | valid
deriving DecidableEq, Repr

/-- A source monitor: its state and acquisition count. -/
structure Monitor where
  state : MonitorState
  count : Nat
deriving DecidableEq, Repr

/-- The fields of one DEMAND frame, as received and unclamped (R4). -/
structure DemandRecord where
  reduction : Nat
  independent : Nat
  handle : Nat
  emergency : Bool
  bailOff : Bool
  sand : Bool
  direction : Byte
deriving DecidableEq, Repr

/-- A last good demand record with the image of its frame (R4). -/
structure GoodDemand where
  record : DemandRecord
  image : Frame
deriving DecidableEq, Repr

/-- The source that commands the brakes (R6). -/
inductive ActiveSource where
  | fallback
  | source (s : Source)
deriving DecidableEq, Repr

/-- Fallback phase (R6). -/
inductive Phase where
  | none
  | start
  | hold
  | penalty
deriving DecidableEq, Repr

/-- The Demand Authority Unit's state (chapter 1, first table). -/
structure Authority where
  monitors : PerSource Monitor
  good : PerSource (Option GoodDemand)
  active : ActiveSource
  phase : Phase
  lost : Option Source
  holdTimer : Timer
  pendingSwitch : Option Source
  lock : Option Source
  autoMark : Bool
  latch : Bool
  resetTimer : Timer
deriving DecidableEq, Repr

/-! ## Slide Control Unit (chapter 2) -/

/-- Slide protection state of an axle. -/
inductive AxleState where
  | rolling
  | suspect
  | relief
  | hold
  | reapply
  | locked
  | sensorFault
  | isolated
deriving DecidableEq, Repr

/-- Why an axle is ISOLATED. -/
inductive IsolationCause where
  | command
  | lockTimeout
deriving DecidableEq, Repr

/-- An axle record (chapter 2, second table).  `slip` is the slip of R33, `lastValid` the validity bit of
the axle's preceding handled sample, which R26 reads. -/
structure AxleRecord where
  circumference : Option Nat
  v : Nat
  vPrev : Option Nat
  decel : Int
  slip : Nat
  state : AxleState
  f : Nat
  stateTimer : Timer
  confirm : Nat
  episode : Timer
  prolonged : Bool
  lockTimer : Timer
  slideCount : Nat
  faultCount : Nat
  isolation : Option IsolationCause
  lastValid : Bool
deriving DecidableEq, Repr

/-- Where v_ref came from. -/
inductive RefSource where
  | axles
  | radar
deriving DecidableEq, Repr

/-- Standing of the axle speed data. -/
inductive SpeedState where
  | noData
  | valid
  | lost
deriving DecidableEq, Repr

/-- The last radar sample (R31). -/
structure RadarRecord where
  speed : Nat
  valid : Bool
  arrival : Word32
deriving DecidableEq, Repr

/-- The Slide Control Unit's state (chapter 2, first table), with the thresholds T1 and T2 that R33 keeps
from one sample to the next. -/
structure Slide where
  axles : Six AxleRecord
  vRef : Nat
  refSource : RefSource
  speedState : SpeedState
  prevArrival : Option Word32
  staleTimer : Timer
  radar : Option RadarRecord
  sandRequest : Bool
  sandTimer : Timer
  t1 : Nat
  t2 : Nat
deriving DecidableEq, Repr

/-! ## Dynamic Brake Channel (chapter 3) -/

/-- DB state. -/
inductive DbState where
  | off
  | setup
  | active
  | tripped
  | cutout
deriving DecidableEq, Repr

/-- Why the channel is TRIPPED. -/
inductive TripCause where
  | setupTimeout
  | converter
  | link
deriving DecidableEq, Repr

/-- The latest traction status (R49). -/
structure TractionRecord where
  effort : Six Nat
  ready : Bool
  fault : Bool
  blowerOk : Bool
deriving DecidableEq, Repr

/-- The Dynamic Brake Channel's state (chapter 3, first table).  `heatElapsed` is the heat timer, which
always runs. -/
structure Brake where
  state : DbState
  cause : Option TripCause
  setupTimer : Timer
  idleTimer : Timer
  status : Option TractionRecord
  aLast : Nat
  shortfall : Bool
  shortSet : Timer
  shortClear : Timer
  heat : Nat
  g : Nat
  heatElapsed : Nat
deriving DecidableEq, Repr

/-! ## Blend Engine (chapter 4) -/

/-- The period record (chapter 4, after the first table). -/
structure PeriodRecord where
  at_ : Word32
  latch : Bool
  fDyn : Nat
  fAuto : Nat
  fTarget : Nat
  capability : Nat
  capabilitySum : Nat
  caps : Six Nat
  goal : Nat
  goals : Six Nat
  fBack : Nat
  f1 : Nat
  f2 : Nat
  fT1 : Nat
  fT2 : Nat
  sanded : Bool
deriving DecidableEq, Repr

/-- The Blend Engine's state (chapter 4, first table). -/
structure Blend where
  timer : Timer
  e : Six Nat
  p1 : Nat
  p2 : Nat
  record : Option PeriodRecord
  divider : Nat
deriving DecidableEq, Repr

/-! ## Air Channel (chapter 5) -/

/-- A truck's VALVE_LOST condition with its cause (R90). -/
inductive ValveCondition where
  | clear
  | fault
  | link
deriving DecidableEq, Repr

/-- A truck record (chapter 5). -/
structure TruckRecord where
  held : Bool
  pressure : Nat
  fault : Bool
  condition : ValveCondition
deriving DecidableEq, Repr

/-- The Air Channel's state. -/
structure Air where
  truck1 : TruckRecord
  truck2 : TruckRecord
  standstill : Timer
deriving DecidableEq, Repr

/-! ## Incident Recorder (chapter 6) -/

/-- What a snapshot holds of one axle (R84). -/
structure SnapshotAxle where
  v : Nat
  state : AxleState
  f : Nat
  e : Nat
  achieved : Nat
deriving DecidableEq, Repr

/-- One snapshot (R84), each field already limited to its width in the 64-byte layout. -/
structure Snapshot where
  at_ : Word32
  active : ActiveSource
  phase : Phase
  reduction : Nat
  independent : Nat
  handle : Nat
  emergency : Bool
  bailOff : Bool
  sandFlag : Bool
  direction : Byte
  fTarget : Nat
  goal : Nat
  fBack : Nat
  vRef : Nat
  refSource : RefSource
  speedState : SpeedState
  dbState : DbState
  latch : Bool
  sandRequest : Bool
  g : Nat
  axles : Six SnapshotAxle
  p1 : Nat
  achieved1 : Nat
  p2 : Nat
  achieved2 : Nat
  saturated : Bool
deriving DecidableEq, Repr

/-- The 23 trigger kinds (chapter 6, Triggers). -/
inductive TriggerKind where
  | emergency
  | sourceLoss
  | slideProlonged
  | axleLocked
  | speedLost
  | dbTrip
  | dbShortfall
  | valveLost
  | discreteEdge (input : Fin 6)
  | frameMatch (pattern : Fin 8)
  | manual
deriving DecidableEq, Repr

/-- A trigger list entry; `capture` is the capture position it refers to, 1 to 4. -/
structure TriggerEntry where
  kind : TriggerKind
  at_ : Word32
  capture : Option Nat
deriving DecidableEq, Repr

/-- Where a capture came from: the demand frame, or a pattern. -/
inductive CaptureSource where
  | demand
  | pattern (p : Fin 8)
deriving DecidableEq, Repr

/-- A captured frame (R114): captured length, TRUNCATED mark and the 37 image bytes. -/
structure Capture where
  source : CaptureSource
  port : Port
  length : Nat
  truncated : Bool
  image : List Byte
deriving DecidableEq, Repr

/-- State of an incident slot (R104). -/
inductive SlotState where
  | free
  | filling
  | sealed
  | read
deriving DecidableEq, Repr

/-- Why an incident was sealed. -/
inductive EndCause where
  | complete
  | modeChange
deriving DecidableEq, Repr

/-- An incident slot (chapter 6, second table). -/
structure Slot where
  state : SlotState
  seq : Option Nat
  openTime : Word32
  timeOfDay : Option Word32
  triggers : List TriggerEntry
  dropped : Nat
  preCount : Nat
  snapshots : List Snapshot
  capture1 : Option Capture
  capture2 : Option Capture
  capture3 : Option Capture
  capture4 : Option Capture
  protected_ : Bool
  endCause : Option EndCause
deriving DecidableEq, Repr

/-- The Incident Recorder's state (chapter 6, first table); `slots` are slots 0 to 7. -/
structure Recorder where
  ring : List Snapshot
  divider : Nat
  slots : List Slot
  nextSeq : Nat
  overwrites : Nat
  lostCount : Nat
deriving DecidableEq, Repr

/-! ## Link Unit (chapter 7) -/

/-- Liveness state of a node (R142). -/
inductive Liveness where
  | unseen
  | live
  | lost
deriving DecidableEq, Repr

/-- The fields of a node table entry that the Link Unit keeps; address, port, role and timeout are the
entry of the NODES table. -/
structure NodeRuntime where
  liveness : Liveness
  timer : Timer
  lastSeq : Option Byte
  good : Nat
  duplicate : Nat
  gap : Nat
  error : Nat
deriving DecidableEq, Repr

/-- An originated frame waiting in a queue: source, sequence and check are taken when it is sent (R141). -/
structure OriginatedFrame where
  dst : Byte
  cls : Byte
  payload : List Byte
deriving DecidableEq, Repr

/-- A port's transmitter: IDLE, or SENDING the bytes of a frame, with the line time already spent on it
in microseconds. -/
inductive Transmitter where
  | idle
  | sending (originated : Bool) (bytes : List Byte) (micros : Nat)
deriving DecidableEq, Repr

/-- The port counters (R145), in the order of that rule's table. -/
structure PortCounters where
  rxGood : Nat
  runt : Nat
  long : Nat
  lengthMismatch : Nat
  checkError : Nat
  unknown : Nat
  ownDropped : Nat
  notPassed : Nat
  forwardDrop : Nat
  originatedDrop : Nat
  txOriginated : Nat
  txForwarded : Nat
deriving DecidableEq, Repr

/-- One port: the forward queue of frames waiting for this port's transmitter (whole frames, check bytes
included), its originated queue, transmitter, own sequence counter and counters. -/
structure PortState where
  forward : List (List Byte)
  originated : List OriginatedFrame
  transmitter : Transmitter
  sequence : Byte
  counters : PortCounters
deriving DecidableEq, Repr

/-- The Link Unit's state (chapter 7, first table).  The pass sets and the written node fields are the
CLASS_SETS and NODES tables. -/
structure Link where
  own : Byte
  nodes : List NodeRuntime
  cPort : PortState
  ePort : PortState
deriving DecidableEq, Repr

/-! ## Line and Flag Unit (chapter 8) -/

/-- An input record (chapter 8), with the electrical level of its pin.  `true` is a high pin, an ACTIVE
level, a set flag. -/
structure InputRecord where
  pin : Bool
  present : Bool
  accepted : Bool
  debounce : Timer
  edge : Bool
deriving DecidableEq, Repr

/-- The nineteen event flags, in the order of the flag table of chapter 8. -/
inductive Flag where
  | emergency
  | penalty
  | sourceLoss
  | sourceSwitched
  | speedLost
  | sensorFault
  | slideProlonged
  | axleLocked
  | dbTrip
  | dbShortfall
  | thermalDerate
  | valveLost
  | nodeLost
  | queueOverflow
  | frameError
  | incidentSealed
  | incidentLost
  | discreteEdge
  | configChanged
deriving DecidableEq, Repr

/-- The three discrete outputs; `true` is asserted (R151). -/
structure Outputs where
  sand : Bool
  emergActive : Bool
  fault : Bool
deriving DecidableEq, Repr

/-- The Line and Flag Unit's state.  `flags` holds the event flags at the bit numbers of chapter 11. -/
structure Lines where
  inputs : Six InputRecord
  outputs : Outputs
  flags : BitVec 19
  noticePending : Bool
deriving DecidableEq, Repr

/-! ## Management Unit (chapter 9) -/

/-- State of a request buffer (R159). -/
inductive BufferState where
  | free
  | waiting
  | inFlight
  | held
deriving DecidableEq, Repr

/-- A request buffer; `response` is present in HELD alone. -/
structure Buffer where
  state : BufferState
  src : Byte
  tag : Option Byte
  command : Option Byte
  args : List Byte
  response : Option OriginatedFrame
deriving DecidableEq, Repr

/-- The two request buffers.  `bFirst` holds the arrival marks: it is set when the request in buffer B
arrived before the one in buffer A. -/
structure Management where
  bufA : Buffer
  bufB : Buffer
  bFirst : Bool
deriving DecidableEq, Repr

/-! ## Table Store and Mode Control (chapter 10) -/

/-- One table: its entries, each the values of its fields as chapter 11 codes them, and its LOADED mark. -/
structure Table where
  entries : List (List Nat)
  loaded : Bool
deriving DecidableEq, Repr

/-- The seventeen tables (R170), in the order of their ids. -/
structure Tables where
  nodes : Table
  classSets : Table
  handle : Table
  auto : Table
  dbCurve : Table
  adhPlain : Table
  adhSanded : Table
  axle : Table
  blend : Table
  heat : Table
  db : Table
  slide : Table
  source : Table
  recorder : Table
  patterns : Table
  discrete : Table
  reporting : Table
deriving DecidableEq, Repr

/-- The time-of-day base (R134). -/
structure TimeBase where
  seconds : Word32
  at_ : Word32
deriving DecidableEq, Repr

/-- Mode control: the device mode, the validation in flight with the ms since its start, the local
millisecond counter and the time-of-day base. -/
structure Control where
  mode : Mode
  validation : Option Nat
  localMs : Word32
  timeBase : Option TimeBase
deriving DecidableEq, Repr

/-! ## The whole part -/

/-- What holds the part in power-on reset (R182): RESETn held low, and the time from power-up until the supply is
within range.  The two may overlap. -/
structure Hold where
  pinLow : Bool
  powerUp : Bool
deriving DecidableEq, Repr

/-- The part.  `hold` says what holds it in power-on reset (R182).  The last three fields are the
model's own: the commands that wait, first in first out; the notices formed inside the event of a taken
request, which R172 hands over only after the response (absent between events); and the counter that the
free order of simultaneous expiries reads. -/
structure State where
  hold : Hold
  authority : Authority
  slide : Slide
  brake : Brake
  blend : Blend
  air : Air
  recorder : Recorder
  link : Link
  lines : Lines
  management : Management
  tables : Tables
  control : Control
  pending : List Instr
  deferred : Option (List OriginatedFrame)
  choice : Nat
deriving DecidableEq, Repr

/-- Reasons for a fault.  There is none: the manual gives every command an effect, and no rule of it
stops the part. -/
inductive Fault where
deriving DecidableEq, Repr

/-- Reasons for a refusal. -/
inductive Refusal where
  /-- A command that has no meaning yet, by its mnemonic.  Raised by an arm of `exec` alone; safe, since
  the model then claims nothing.  No arm raises it now. -/
  | notModelled (mnemonic : String)
deriving DecidableEq, Repr

/-! ## The state after power-on reset -/

/-- R23. -/
def Authority.reset : Authority where
  monitors := ⟨⟨.silent, 0⟩, ⟨.silent, 0⟩, ⟨.silent, 0⟩⟩
  good := ⟨none, none, none⟩
  active := .fallback
  phase := .start
  lost := none
  holdTimer := .stopped
  pendingSwitch := none
  lock := none
  autoMark := true
  latch := false
  resetTimer := .stopped

/-- R48, one axle. -/
def AxleRecord.reset : AxleRecord where
  circumference := none
  v := 0
  vPrev := none
  decel := 0
  slip := 0
  state := .rolling
  f := 1000
  stateTimer := .stopped
  confirm := 0
  episode := .stopped
  prolonged := false
  lockTimer := .stopped
  slideCount := 0
  faultCount := 0
  isolation := none
  lastValid := false

/-- R48. -/
def Slide.reset : Slide where
  axles := Six.all AxleRecord.reset
  vRef := 0
  refSource := .axles
  speedState := .noData
  prevArrival := none
  staleTimer := .stopped
  radar := none
  sandRequest := false
  sandTimer := .stopped
  t1 := 0
  t2 := 0

/-- R64. -/
def Brake.reset : Brake where
  state := .off
  cause := none
  setupTimer := .stopped
  idleTimer := .stopped
  status := none
  aLast := 0
  shortfall := false
  shortSet := .stopped
  shortClear := .stopped
  heat := 0
  g := 1000
  heatElapsed := 0

/-- R88. -/
def Blend.reset : Blend where
  timer := .stopped
  e := Six.all 0
  p1 := 0
  p2 := 0
  record := none
  divider := 0

/-- R99, one truck. -/
def TruckRecord.reset : TruckRecord where
  held := false
  pressure := 0
  fault := false
  condition := .clear

/-- R99. -/
def Air.reset : Air where
  truck1 := TruckRecord.reset
  truck2 := TruckRecord.reset
  standstill := .stopped

/-- A FREE slot, its fields discarded (R126). -/
def Slot.free : Slot where
  state := .free
  seq := none
  openTime := 0
  timeOfDay := none
  triggers := []
  dropped := 0
  preCount := 0
  snapshots := []
  capture1 := none
  capture2 := none
  capture3 := none
  capture4 := none
  protected_ := false
  endCause := none

/-- R126. -/
def Recorder.reset : Recorder where
  ring := []
  divider := 0
  slots := List.replicate 8 Slot.free
  nextSeq := 1
  overwrites := 0
  lostCount := 0

/-- A node table entry that starts anew (R144, R146). -/
def NodeRuntime.fresh : NodeRuntime where
  liveness := .unseen
  timer := .stopped
  lastSeq := none
  good := 0
  duplicate := 0
  gap := 0
  error := 0

/-- Every port counter 0 (R146). -/
def PortCounters.zero : PortCounters where
  rxGood := 0
  runt := 0
  long := 0
  lengthMismatch := 0
  checkError := 0
  unknown := 0
  ownDropped := 0
  notPassed := 0
  forwardDrop := 0
  originatedDrop := 0
  txOriginated := 0
  txForwarded := 0

/-- R146, one port. -/
def PortState.reset : PortState where
  forward := []
  originated := []
  transmitter := .idle
  sequence := 0
  counters := PortCounters.zero

/-- R146, with the ADDR straps all low (log entry 2: the manual gives the straps no level). -/
def Link.reset : Link where
  own := 240
  nodes := List.replicate 32 NodeRuntime.fresh
  cPort := PortState.reset
  ePort := PortState.reset

/-- R157, one line, with its pin low (log entry 3: the manual gives the pins no level). -/
def InputRecord.reset : InputRecord where
  pin := false
  present := false
  accepted := false
  debounce := .stopped
  edge := false

/-- R157. -/
def Lines.reset : Lines where
  inputs := Six.all InputRecord.reset
  outputs := ⟨false, false, false⟩
  flags := 0
  noticePending := false

/-- A FREE buffer, its fields discarded (R169). -/
def Buffer.free : Buffer where
  state := .free
  src := 0
  tag := none
  command := none
  args := []
  response := none

/-- R169. -/
def Management.reset : Management where
  bufA := Buffer.free
  bufB := Buffer.free
  bFirst := false

/-- A table of `n` entries of `k` zero fields, not LOADED (R170). -/
def Table.zero (n k : Nat) : Table where
  entries := List.replicate n (List.replicate k 0)
  loaded := false

/-- R170: every field of every table holds 0. -/
def Tables.reset : Tables where
  nodes := Table.zero 32 5
  classSets := Table.zero 512 1
  handle := Table.zero 256 1
  auto := Table.zero 17 2
  dbCurve := Table.zero 17 2
  adhPlain := Table.zero 17 2
  adhSanded := Table.zero 17 2
  axle := Table.zero 18 1
  blend := Table.zero 10 1
  heat := Table.zero 4 1
  db := Table.zero 5 1
  slide := Table.zero 20 1
  source := Table.zero 4 1
  recorder := Table.zero 5 1
  patterns := Table.zero 8 5
  discrete := Table.zero 6 3
  reporting := Table.zero 3 1

/-- R180. -/
def Control.reset : Control where
  mode := .init
  validation := none
  localMs := 0
  timeBase := none

/-- R182: after power-on reset neither hold stands. -/
def Hold.reset : Hold where
  pinLow := false
  powerUp := false

/-- The part right after power-on reset (R23, R48, R64, R88, R99, R126, R146, R157, R169, R170, R180), with
low straps and low input pins, and no command waiting. -/
def State.reset : State where
  hold := Hold.reset
  authority := Authority.reset
  slide := Slide.reset
  brake := Brake.reset
  blend := Blend.reset
  air := Air.reset
  recorder := Recorder.reset
  link := Link.reset
  lines := Lines.reset
  management := Management.reset
  tables := Tables.reset
  control := Control.reset
  pending := []
  deferred := none
  choice := 0

end Sys2Proof.Machine
end

