-- ==== Sys2Proof/Machine/Layout.lean ====
section
/-! DEFINITION. Bytes and codes (chapter 11): byte order, the CRC-16, the codes of enumerated fields, the
encodings that the responses are built from, and the layouts that need no more than the record they lay
out. -/

namespace Sys2Proof.Machine

/-! ## Byte order and the check -/

/-- A quantity in `k` bytes, most significant byte first (chapter 11). -/
def be : Nat → Nat → List Byte
  | 0, _ => []
  | k + 1, v => be k (v / 256) ++ [BitVec.ofNat 8 v]

/-- The number a run of bytes spells, most significant byte first. -/
def beValue (bytes : List Byte) : Nat := bytes.foldl (fun acc b => acc * 256 + b.toNat) 0

/-- The field of `size` bytes at payload offset `off`. -/
def fieldAt (payload : List Byte) (off size : Nat) : Nat := beValue ((payload.drop off).take size)

/-- The byte at payload offset `off`. -/
def byteAt (payload : List Byte) (off : Nat) : Byte := payload.getD off 0

/-- One bit of the flags byte at payload offset `off`. -/
def bitAt (payload : List Byte) (off bit : Nat) : Bool := (byteAt payload off).getLsbD bit

/-- One data bit of the CRC-16 of R117: the register's top bit against the data bit, the shift, and the
terms x^12, x^5 and 1. -/
def crcBit (reg : BitVec 16) (bit : Bool) : BitVec 16 :=
  let shifted := reg <<< 1
  if (reg.getLsbD 15 ^^ bit) then shifted ^^^ 0x1021#16 else shifted

/-- One byte of the CRC-16, its bits from the most significant to the least (R117). -/
def crcByte (reg : BitVec 16) (b : Byte) : BitVec 16 :=
  [7, 6, 5, 4, 3, 2, 1, 0].foldl (fun r k => crcBit r (b.getLsbD k)) reg

/-- The CRC-16 of R117: from all ones, unreflected, with no final inversion. -/
def crc16 (bytes : List Byte) : BitVec 16 := bytes.foldl crcByte 0xFFFF#16

/-- Header and payload of a frame: the positions R115 numbers from 0 (chapter 11). -/
def frameBytes (f : Frame) : List Byte :=
  [f.dst, f.src, f.cls, f.seq, BitVec.ofNat 8 f.payload.length] ++ f.payload

/-- A whole frame: header, payload and the check bytes, high byte first. -/
def wholeFrame (f : Frame) : List Byte :=
  let hp := frameBytes f
  hp ++ be 2 (crc16 hp).toNat

/-! ## Codes of enumerated fields (chapter 11) -/

/-- 01h CAB_A, 02h CAB_B, 03h DP. -/
def sourceCode : Source → Nat
  | .cabA => 1
  | .cabB => 2
  | .dp => 3

/-- The source a code names; 00h and every other code name none. -/
def sourceOfCode : Nat → Option Source
  | 1 => some .cabA
  | 2 => some .cabB
  | 3 => some .dp
  | _ => none

/-- 00h FALLBACK, otherwise the source's code. -/
def activeCode : ActiveSource → Nat
  | .fallback => 0
  | .source s => sourceCode s

/-- Fallback phase. -/
def phaseCode : Phase → Nat
  | .none => 0
  | .start => 1
  | .hold => 2
  | .penalty => 3

/-- Device mode. -/
def modeCode : Mode → Nat
  | .init => 0
  | .maintenance => 1
  | .service => 2

/-- Port. -/
def portCode : Port → Nat
  | .c => 0
  | .e => 1

/-- Axle state. -/
def axleStateCode : AxleState → Nat
  | .rolling => 0
  | .suspect => 1
  | .relief => 2
  | .hold => 3
  | .reapply => 4
  | .locked => 5
  | .sensorFault => 6
  | .isolated => 7

/-- DB state. -/
def dbStateCode : DbState → Nat
  | .off => 0
  | .setup => 1
  | .active => 2
  | .tripped => 3
  | .cutout => 4

/-- Speed state. -/
def speedStateCode : SpeedState → Nat
  | .noData => 0
  | .valid => 1
  | .lost => 2

/-- Reference source. -/
def refSourceCode : RefSource → Nat
  | .axles => 0
  | .radar => 1

/-- Slot state. -/
def slotStateCode : SlotState → Nat
  | .free => 0
  | .filling => 1
  | .sealed => 2
  | .read => 3

/-- End cause, 00h absent. -/
def endCauseCode : Option EndCause → Nat
  | none => 0
  | some .complete => 1
  | some .modeChange => 2

/-- Trigger kind; also its bit in the trigger-enable and protected sets. -/
def triggerCode : TriggerKind → Nat
  | .emergency => 0
  | .sourceLoss => 1
  | .slideProlonged => 2
  | .axleLocked => 3
  | .speedLost => 4
  | .dbTrip => 5
  | .dbShortfall => 6
  | .valveLost => 7
  | .discreteEdge n => 8 + n.val
  | .frameMatch p => 14 + p.val
  | .manual => 22

/-- Bit number of an event flag in the flag word. -/
def flagBit : Flag → Nat
  | .emergency => 0
  | .penalty => 1
  | .sourceLoss => 2
  | .sourceSwitched => 3
  | .speedLost => 4
  | .sensorFault => 5
  | .slideProlonged => 6
  | .axleLocked => 7
  | .dbTrip => 8
  | .dbShortfall => 9
  | .thermalDerate => 10
  | .valveLost => 11
  | .nodeLost => 12
  | .queueOverflow => 13
  | .frameError => 14
  | .incidentSealed => 15
  | .incidentLost => 16
  | .discreteEdge => 17
  | .configChanged => 18

/-- Monitor state. -/
def monitorCode : MonitorState → Nat
  | .silent => 0
  | .acquiring => 1
  | .valid => 2

/-- Liveness state. -/
def livenessCode : Liveness → Nat
  | .unseen => 0
  | .live => 1
  | .lost => 2

/-- Trip cause, 00h absent. -/
def tripCauseCode : Option TripCause → Nat
  | none => 0
  | some .setupTimeout => 1
  | some .converter => 2
  | some .link => 3

/-- Isolation cause, 00h absent. -/
def isolationCode : Option IsolationCause → Nat
  | none => 0
  | some .command => 1
  | some .lockTimeout => 2

/-- VALVE_LOST condition. -/
def conditionCode : ValveCondition → Nat
  | .clear => 0
  | .fault => 1
  | .link => 2

/-- Request buffer state. -/
def bufferCode : BufferState → Nat
  | .free => 0
  | .waiting => 1
  | .inFlight => 2
  | .held => 3

/-- Transmitter state. -/
def transmitterCode : Transmitter → Nat
  | .idle => 0
  | .sending _ _ _ => 1

/-- Capture source: 00h to 07h pattern number, 08h DEMAND. -/
def captureSourceCode : CaptureSource → Nat
  | .pattern p => p.val
  | .demand => 8

/-! ## The encodings responses are built from (chapter 11, Management frames) -/

/-- A mark or flag as one byte. -/
def mark (b : Bool) : List Byte := [if b then 1 else 0]

/-- A quantity in one byte. -/
def q1 (v : Nat) : List Byte := be 1 v

/-- A quantity in two bytes. -/
def q2 (v : Nat) : List Byte := be 2 v

/-- A quantity in four bytes. -/
def q4 (v : Nat) : List Byte := be 4 v

/-- A 32-bit word in four bytes. -/
def w4 (v : Word32) : List Byte := be 4 v.toNat

/-- An optional quantity of `k` bytes: a presence byte, then the value or zeros. -/
def optQ (k : Nat) : Option Nat → List Byte
  | some v => 1 :: be k v
  | none => 0 :: be k 0

/-- A timer: a state byte and four bytes of elapsed ms, 0 when stopped or expired. -/
def timerBytes : Timer → List Byte
  | .stopped => q1 0 ++ q4 0
  | .running n => q1 1 ++ q4 n
  | .expired => q1 2 ++ q4 0

/-- A signed quantity: two's complement in four bytes. -/
def signed4 (v : Int) : List Byte := be 4 (BitVec.ofInt 32 v).toNat

/-! ## Setpoints, captures and the snapshot -/

/-- DB_SETPOINT payload (7 bytes). -/
def dbSetpointPayload (excitation : Bool) (e : Six Nat) : List Byte :=
  mark excitation ++ e.toList.flatMap q1

/-- BC_SETPOINT payload (4 bytes). -/
def bcSetpointPayload (truck pressure : Nat) (emergency : Bool) : List Byte :=
  q1 truck ++ q2 pressure ++ mark emergency

/-- A capture of a frame (R114): header and the first 32 payload bytes, filled up with zeros. -/
def captureOf (source : CaptureSource) (port : Port) (f : Frame) : Capture where
  source := source
  port := port
  length := min f.payload.length 32
  truncated := 32 < f.payload.length
  image := [f.dst, f.src, f.cls, f.seq, BitVec.ofNat 8 f.payload.length] ++ f.payload.take 32
    ++ List.replicate (32 - f.payload.length) 0

/-- The 64 bytes of a snapshot (chapter 11, The snapshot). -/
def snapshotBytes (n : Snapshot) : List Byte :=
  w4 n.at_
  ++ q1 (16 * activeCode n.active + phaseCode n.phase)
  ++ q1 n.reduction ++ q2 n.independent ++ q1 n.handle
  ++ q1 (n.emergency.toNat + 2 * n.bailOff.toNat + 4 * n.sandFlag.toNat + 8 * n.direction.toNat)
  ++ q1 n.fTarget ++ q1 n.goal ++ q1 n.fBack ++ q2 n.vRef
  ++ q1 (refSourceCode n.refSource + 2 * speedStateCode n.speedState + 8 * dbStateCode n.dbState
    + 64 * n.latch.toNat + 128 * n.sandRequest.toNat)
  ++ q2 n.g
  ++ n.axles.toList.flatMap (fun a =>
    q2 a.v ++ q2 (8192 * axleStateCode a.state + a.f) ++ q1 a.e ++ q1 a.achieved)
  ++ q2 n.p1 ++ q2 n.achieved1 ++ q2 n.p2 ++ q2 n.achieved2
  ++ mark n.saturated ++ q1 0

/-- A trigger list entry (6 bytes): kind, local ms, capture position, 0 for none. -/
def triggerBytes (t : TriggerEntry) : List Byte :=
  q1 (triggerCode t.kind) ++ w4 t.at_ ++ q1 (t.capture.getD 0)

/-- A capture of chunk 0 (41 bytes): flags byte, source, port, captured length, image; zeros when empty. -/
def captureBytes : Option Capture → List Byte
  | none => List.replicate 41 0
  | some c => q1 (1 + 2 * c.truncated.toNat) ++ q1 (captureSourceCode c.source) ++ q1 (portCode c.port)
      ++ q1 c.length ++ c.image

end Sys2Proof.Machine
end

