-- ==== Sys2Proof/Machine/Operands.lean ====
section
/-! DEFINITION. Reading operands: the configuration tables by the names the manual gives their parameters
(R170), the curves (R67), and the payloads of the consumed frames (chapter 11). -/

namespace Sys2Proof.Machine

/-! ## Tables by id -/

/-- The seventeen tables (R170). -/
inductive TableId where
  | nodes
  | classSets
  | handle
  | auto
  | dbCurve
  | adhPlain
  | adhSanded
  | axle
  | blend
  | heat
  | db
  | slide
  | source
  | recorder
  | patterns
  | discrete
  | reporting
deriving DecidableEq, Repr

/-- The tables in id order, 0 to 16. -/
def tableIds : List TableId :=
  [.nodes, .classSets, .handle, .auto, .dbCurve, .adhPlain, .adhSanded, .axle, .blend, .heat, .db,
    .slide, .source, .recorder, .patterns, .discrete, .reporting]

/-- The table of an id; none above 16. -/
def tableOfId (n : Nat) : Option TableId := tableIds[n]?

/-- The id of a table. -/
def tableCode : TableId → Nat
  | .nodes => 0
  | .classSets => 1
  | .handle => 2
  | .auto => 3
  | .dbCurve => 4
  | .adhPlain => 5
  | .adhSanded => 6
  | .axle => 7
  | .blend => 8
  | .heat => 9
  | .db => 10
  | .slide => 11
  | .source => 12
  | .recorder => 13
  | .patterns => 14
  | .discrete => 15
  | .reporting => 16

/-- The table of an id. -/
def getTable (ts : Tables) : TableId → Table
  | .nodes => ts.nodes
  | .classSets => ts.classSets
  | .handle => ts.handle
  | .auto => ts.auto
  | .dbCurve => ts.dbCurve
  | .adhPlain => ts.adhPlain
  | .adhSanded => ts.adhSanded
  | .axle => ts.axle
  | .blend => ts.blend
  | .heat => ts.heat
  | .db => ts.db
  | .slide => ts.slide
  | .source => ts.source
  | .recorder => ts.recorder
  | .patterns => ts.patterns
  | .discrete => ts.discrete
  | .reporting => ts.reporting

/-- Replace the table of an id. -/
def setTable (ts : Tables) (id : TableId) (t : Table) : Tables :=
  match id with
  | .nodes => { ts with nodes := t }
  | .classSets => { ts with classSets := t }
  | .handle => { ts with handle := t }
  | .auto => { ts with auto := t }
  | .dbCurve => { ts with dbCurve := t }
  | .adhPlain => { ts with adhPlain := t }
  | .adhSanded => { ts with adhSanded := t }
  | .axle => { ts with axle := t }
  | .blend => { ts with blend := t }
  | .heat => { ts with heat := t }
  | .db => { ts with db := t }
  | .slide => { ts with slide := t }
  | .source => { ts with source := t }
  | .recorder => { ts with recorder := t }
  | .patterns => { ts with patterns := t }
  | .discrete => { ts with discrete := t }
  | .reporting => { ts with reporting := t }

/-- One field of one entry. -/
def tableField (t : Table) (entry fld : Nat) : Nat := (t.entries.getD entry []).getD fld 0

/-- The value of a one-field entry. -/
def param (t : Table) (entry : Nat) : Nat := tableField t entry 0

/-! ## Parameters by name -/

/-- BLEND table, in the order of R170. -/
def dbTotalMax (ts : Tables) : Nat := param ts.blend 0
def rampUp (ts : Tables) : Nat := param ts.blend 1
def rampDown (ts : Tables) : Nat := param ts.blend 2
def rampEmerg (ts : Tables) : Nat := param ts.blend 3
def kBc (ts : Tables) : Nat := param ts.blend 4
def bcMax (ts : Tables) : Nat := param ts.blend 5
def bcEmerg (ts : Tables) : Nat := param ts.blend 6
def autoFull (ts : Tables) : Nat := param ts.blend 7
def wStatic (ts : Tables) : Nat := param ts.blend 8
def secureKpa (ts : Tables) : Nat := param ts.blend 9

/-- AUTO_FULL, which has no value while the BLEND table is not LOADED (R5). -/
def autoFull? (ts : Tables) : Option Nat := if ts.blend.loaded then some (autoFull ts) else none

/-- BC_MAX, which has no value while the BLEND table is not LOADED (R5). -/
def bcMax? (ts : Tables) : Option Nat := if ts.blend.loaded then some (bcMax ts) else none

/-- HEAT table. -/
def hWarn (ts : Tables) : Nat := param ts.heat 0
def hMax (ts : Tables) : Nat := param ts.heat 1
def kCool (ts : Tables) : Nat := param ts.heat 2
def kCoolFail (ts : Tables) : Nat := param ts.heat 3

/-- DB table. -/
def setupMs (ts : Tables) : Nat := param ts.db 0
def idleMs (ts : Tables) : Nat := param ts.db 1
def shortPermille (ts : Tables) : Nat := param ts.db 2
def shortClearPermille (ts : Tables) : Nat := param ts.db 3
def shortMs (ts : Tables) : Nat := param ts.db 4

/-- SLIDE table, in the order of the parameter table of chapter 2. -/
def speedStaleMs (ts : Tables) : Nat := param ts.slide 0
def aMax (ts : Tables) : Nat := param ts.slide 1
def aRise (ts : Tables) : Nat := param ts.slide 2
def radarEnable (ts : Tables) : Nat := param ts.slide 3
def slipAbs1 (ts : Tables) : Nat := param ts.slide 4
def slipAbs2 (ts : Tables) : Nat := param ts.slide 5
def slipRel1 (ts : Tables) : Nat := param ts.slide 6
def slipRel2 (ts : Tables) : Nat := param ts.slide 7
def decel1 (ts : Tables) : Nat := param ts.slide 8
def confirmCount (ts : Tables) : Nat := param ts.slide 9
def reliefStep (ts : Tables) : Nat := param ts.slide 10
def reapplyStep (ts : Tables) : Nat := param ts.slide 11
def prolongMs (ts : Tables) : Nat := param ts.slide 12
def vInhibit (ts : Tables) : Nat := param ts.slide 13
def lockV (ts : Tables) : Nat := param ts.slide 14
def lockRef (ts : Tables) : Nat := param ts.slide 15
def lockMs (ts : Tables) : Nat := param ts.slide 16
def lockFaultMs (ts : Tables) : Nat := param ts.slide 17
def sandAxles (ts : Tables) : Nat := param ts.slide 18
def sandHoldMs (ts : Tables) : Nat := param ts.slide 19

/-- SOURCE table. -/
def preferred (ts : Tables) : Option Source := sourceOfCode (param ts.source 0)
def acquireCount (ts : Tables) : Nat := param ts.source 1
def holdMs (ts : Tables) : Nat := param ts.source 2
def emergResetMs (ts : Tables) : Nat := param ts.source 3

/-- RECORDER table. -/
def preLimit (ts : Tables) : Nat := param ts.recorder 0
def recordDiv (ts : Tables) : Nat := param ts.recorder 1
def triggerEnabled (ts : Tables) (k : TriggerKind) : Bool := (param ts.recorder 2).testBit (triggerCode k)
def triggerProtected (ts : Tables) (k : TriggerKind) : Bool := (param ts.recorder 3).testBit (triggerCode k)
def longPairs (ts : Tables) : Bool := param ts.recorder 4 = 1

/-- REPORTING table; the power-on zeros are the values R154 gives for a table that is not LOADED. -/
def noticeNode (ts : Tables) : Nat := param ts.reporting 0
def noticeEnabled (ts : Tables) (f : Flag) : Bool := (param ts.reporting 1).testBit (flagBit f)
def reportNode (ts : Tables) : Nat := param ts.reporting 2

/-- DISCRETE table; the power-on zeros are HIGH, 0 ms, NONE, the values R147 gives for a table that is not
LOADED. -/
def lineActiveLow (ts : Tables) (n : Fin 6) : Bool := tableField ts.discrete n.val 0 = 1
def lineDebounce (ts : Tables) (n : Fin 6) : Nat := tableField ts.discrete n.val 1
def lineEdgeMode (ts : Tables) (n : Fin 6) : Nat := tableField ts.discrete n.val 2

/-- HANDLE entry of a handle code. -/
def handlePermille (ts : Tables) (code : Nat) : Nat := param ts.handle code

/-- Wheel diameter of an axle (AXLE entries 0 to 5). -/
def diameter (ts : Tables) (i : Fin 6) : Nat := param ts.axle i.val

/-- Pass set membership of a class for frames arriving at a port (CLASS_SETS; empty while not LOADED). -/
def inPassSet (ts : Tables) (arrival : Port) (cls : Byte) : Bool :=
  match arrival with
  | .c => param ts.classSets cls.toNat = 1
  | .e => param ts.classSets (256 + cls.toNat) = 1

/-! ## The node table -/

/-- The twelve roles. -/
inductive Role where
  | cabA
  | cabB
  | dp
  | locoComputer
  | recorder
  | tool
  | axleConc
  | valveT1
  | valveT2
  | traction
  | radar
  | other
deriving DecidableEq, Repr

/-- Role codes 01h to 0Ch (chapter 11). -/
def roleOfCode : Nat → Option Role
  | 1 => some .cabA
  | 2 => some .cabB
  | 3 => some .dp
  | 4 => some .locoComputer
  | 5 => some .recorder
  | 6 => some .tool
  | 7 => some .axleConc
  | 8 => some .valveT1
  | 9 => some .valveT2
  | 10 => some .traction
  | 11 => some .radar
  | 12 => some .other
  | _ => none

/-- The roles that may appear at most once (R177): all but OTHER, TOOL, RECORDER and LOCO_COMPUTER. -/
def Role.singleton : Role → Bool
  | .locoComputer | .recorder | .tool | .other => false
  | .cabA | .cabB | .dp | .axleConc | .valveT1 | .valveT2 | .traction | .radar => true

/-- The role a source's monitor is bound to. -/
def sourceRole : Source → Role
  | .cabA => .cabA
  | .cabB => .cabB
  | .dp => .dp

/-- The source of a role, if it is a demand source. -/
def roleSource : Role → Option Source
  | .cabA => some .cabA
  | .cabB => some .cabB
  | .dp => some .dp
  | _ => none

/-- The written fields of node table entry `i`. -/
def nodeUsed (ts : Tables) (i : Nat) : Bool := tableField ts.nodes i 0 = 1
def nodeAddress (ts : Tables) (i : Nat) : Nat := tableField ts.nodes i 1
def nodePort (ts : Tables) (i : Nat) : Port := if tableField ts.nodes i 2 = 1 then .e else .c
def nodeRole (ts : Tables) (i : Nat) : Option Role := roleOfCode (tableField ts.nodes i 3)
def nodeTimeout (ts : Tables) (i : Nat) : Nat := tableField ts.nodes i 4

/-- R130: the used entry of lowest index on this port with this address; 0 and 255 match no entry. -/
def lookupNode (ts : Tables) (p : Port) (addr : Byte) : Option Nat :=
  if addr = 0 ∨ addr = 255 then none
  else
    (List.range 32).find? (fun i => nodeUsed ts i && nodePort ts i = p && nodeAddress ts i = addr.toNat)

/-- R130: a role is held by the used entry of lowest index that carries it. -/
def binding (ts : Tables) (r : Role) : Option Nat :=
  (List.range 32).find? (fun i => nodeUsed ts i && nodeRole ts i = some r)

/-- The address of the node that holds a role. -/
def roleAddress (ts : Tables) (r : Role) : Option Byte :=
  (binding ts r).map (fun i => BitVec.ofNat 8 (nodeAddress ts i))

/-! ## Curves (R67) -/

/-- The points of a curve table: entry 0 is the point count. -/
def curvePoints (t : Table) : List (Nat × Nat) :=
  ((t.entries.drop 1).take (param t 0)).map (fun p => (p.getD 0 0, p.getD 1 0))

/-- Along one segment from `(x1, y1)` to `(x2, y2)`, truncated toward `y1` on a rising and on a falling
segment alike (the signed quotient of R67 truncates toward zero). -/
def segmentValue (x1 y1 x2 y2 x : Nat) : Nat :=
  if y1 ≤ y2 then y1 + (y2 - y1) * (x - x1) / (x2 - x1) else y1 - (y1 - y2) * (x - x1) / (x2 - x1)

/-- The value beyond the point `(x1, y1)`, with `x1 ≤ x`. -/
def interpFrom (x1 y1 : Nat) (rest : List (Nat × Nat)) (x : Nat) : Nat :=
  match rest with
  | [] => y1
  | (x2, y2) :: more => if x2 ≤ x then interpFrom x2 y2 more x else segmentValue x1 y1 x2 y2 x

/-- interp(curve, x) of R67; a curve without points, which validation excludes, gives 0. -/
def interp (points : List (Nat × Nat)) (x : Nat) : Nat :=
  match points with
  | [] => 0
  | (x1, y1) :: rest => if x ≤ x1 then y1 else interpFrom x1 y1 rest x

/-! ## Payloads of consumed frames (chapter 11); a payload shorter than its layout gives none -/

/-- DEMAND (6 bytes). -/
def readDemand (p : List Byte) : Option DemandRecord :=
  if p.length < 6 then none
  else some
    { reduction := fieldAt p 0 1
      independent := fieldAt p 1 2
      handle := fieldAt p 3 1
      emergency := bitAt p 4 0
      bailOff := bitAt p 4 1
      sand := bitAt p 4 2
      direction := byteAt p 5 }

/-- TIME (4 bytes). -/
def readTime (p : List Byte) : Option Word32 :=
  if p.length < 4 then none else some (BitVec.ofNat 32 (fieldAt p 0 4))

/-- One axle's share of an AXLE_SAMPLE: its rate and its validity bit. -/
structure AxleReading where
  rate : Nat
  valid : Bool
deriving DecidableEq, Repr

/-- AXLE_SAMPLE (13 bytes). -/
def readAxleSample (p : List Byte) : Option (Six AxleReading) :=
  if p.length < 13 then none
  else some (Six.ofFn (fun i => ⟨fieldAt p (2 * i.val) 2, bitAt p 12 i.val⟩))

/-- RADAR_SAMPLE (3 bytes): speed and validity. -/
def readRadar (p : List Byte) : Option (Nat × Bool) :=
  if p.length < 3 then none else some (fieldAt p 0 2, bitAt p 2 0)

/-- TRACTION_STATUS (8 bytes), each effort clamped to 120 kN and every blower code but 01h FAILED (R49). -/
def readTraction (p : List Byte) : Option TractionRecord :=
  if p.length < 8 then none
  else some
    { effort := Six.ofFn (fun i => min (fieldAt p i.val 1) 120)
      ready := bitAt p 6 0
      fault := bitAt p 6 1
      blowerOk := byteAt p 7 = 1 }

/-- VALVE_STATUS (3 bytes): the pressure clamped to 1000 kPa (R89) and the fault bit. -/
def readValve (p : List Byte) : Option (Nat × Bool) :=
  if p.length < 3 then none else some (min (fieldAt p 0 2) 1000, bitAt p 2 0)

end Sys2Proof.Machine
end

