-- ==== Sys2Proof/Machine/Ops.lean ====
section
/-! DEFINITION. The operations every unit shares: the frame of an event, timers, saturating counters, and
the queues and transmitters of the two ports (chapter 7, Queues and Transmission). -/

namespace Sys2Proof.Machine

/-- What a command answers. -/
abbrev Result := Host.Outcome State Fault Refusal

/-! ## Events -/

/-- FAULT is asserted while one of its seven flags is set (R151): SOURCE_LOSS, SPEED_LOST, SENSOR_FAULT,
AXLE_LOCKED, DB_TRIP, VALVE_LOST, NODE_LOST. -/
def faultFlags : BitVec 19 := 0b0000001100110110100#19

/-- The levels that the owners' conditions ask for (R151). -/
def drivenOutputs (s : State) : Outputs where
  sand := s.slide.sandRequest
  emergActive := s.authority.latch
  fault := (s.lines.flags &&& faultFlags) ≠ 0

/-- Drive the three outputs from their conditions (R151: in the event that changes the condition). -/
def syncOutputs (s : State) : State := { s with lines := { s.lines with outputs := drivenOutputs s } }

/-- The part is held in power-on reset: while RESETn is held low, and from power-up until the supply is within range
(R182). -/
def State.inReset (s : State) : Bool := s.hold.pinLow || s.hold.powerUp

/-- An event of the part: nothing while it is held in power-on reset (R182), otherwise the units' effects,
and then the outputs as their conditions now ask. -/
def event (s : State) (effect : State → State) : Result :=
  if s.inReset then .next s else .next (syncOutputs (effect s))

/-! ## Timers and counters -/

/-- The elapsed ms of a running timer. -/
def Timer.elapsed : Timer → Option Nat
  | .running n => some n
  | .stopped | .expired => none

/-- The timer runs and its elapsed time has reached the limit. -/
def Timer.reached (t : Timer) (limit : Nat) : Bool :=
  match t with
  | .running n => limit ≤ n
  | .stopped | .expired => false

/-- The timer runs and its elapsed time exceeds the limit. -/
def Timer.exceeded (t : Timer) (limit : Nat) : Bool :=
  match t with
  | .running n => limit < n
  | .stopped | .expired => false

/-- Is the timer running? -/
def Timer.runs : Timer → Bool
  | .running _ => true
  | .stopped | .expired => false

/-- One more millisecond; the elapsed time holds at 4,294,967,295 (R94, and log entry 6 for the others). -/
def Timer.tick : Timer → Timer
  | .running n => .running (min (n + 1) Config.maxU32)
  | .stopped => .stopped
  | .expired => .expired

/-- Start the timer from zero unless it runs. -/
def Timer.startIfStopped : Timer → Timer
  | .running n => .running n
  | .stopped | .expired => .running 0

/-- A 32-bit counter increased by 1, saturating (R145). -/
def bump (n : Nat) : Nat := min (n + 1) Config.maxU32

/-- An 8-bit counter increased by 1, saturating (R35, R111). -/
def bump8 (n : Nat) : Nat := min (n + 1) 255

/-- A 16-bit counter increased by 1, saturating (R105). -/
def bump16 (n : Nat) : Nat := min (n + 1) 65535

/-- A later stamp minus an earlier one, modulo 2^32 (R180). -/
def msBetween (later earlier : Word32) : Nat := (later - earlier).toNat

/-- The member of a source. -/
def PerSource.get {α : Type} (x : PerSource α) : Source → α
  | .cabA => x.cabA
  | .cabB => x.cabB
  | .dp => x.dp

/-- Replace the member of a source. -/
def PerSource.set {α : Type} (x : PerSource α) (k : Source) (v : α) : PerSource α :=
  match k with
  | .cabA => { x with cabA := v }
  | .cabB => { x with cabB := v }
  | .dp => { x with dp := v }

/-! ## Ports -/

/-- The other port. -/
def Port.other : Port → Port
  | .c => .e
  | .e => .c

/-- The state of a port. -/
def getPort (s : State) : Port → PortState
  | .c => s.link.cPort
  | .e => s.link.ePort

/-- Replace the state of a port. -/
def setPort (s : State) (p : Port) (ps : PortState) : State :=
  match p with
  | .c => { s with link := { s.link with cPort := ps } }
  | .e => { s with link := { s.link with ePort := ps } }

/-- Change the counters of a port. -/
def countAt (s : State) (p : Port) (f : PortCounters → PortCounters) : State :=
  setPort s p { getPort s p with counters := f (getPort s p).counters }

/-- The bytes of an originated frame as it is taken: own address, own sequence, check (R141). -/
def sentBytes (own seq : Byte) (f : OriginatedFrame) : List Byte :=
  wholeFrame ⟨f.dst, own, f.cls, seq, f.payload⟩

/-- What a transmitter does at a transmit opportunity (R140, R141): it takes the head of the originated
queue, otherwise of the forward queue, otherwise it is IDLE.  `carry` is line time already spent. -/
def takeNext (own : Byte) (carry : Nat) (ps : PortState) : PortState :=
  match ps.originated with
  | f :: rest =>
    { ps with
      originated := rest
      transmitter := .sending true (sentBytes own ps.sequence f) carry
      sequence := ps.sequence + 1 }
  | [] =>
    match ps.forward with
    | raw :: rest => { ps with forward := rest, transmitter := .sending false raw carry }
    | [] => { ps with transmitter := .idle }

/-- A transmit opportunity at a port (R140). -/
def opportunity (s : State) (p : Port) (carry : Nat) : State :=
  setPort s p (takeNext s.link.own carry (getPort s p))

/-- The opportunity of an IDLE transmitter when a frame enters one of its queues (R140). -/
def opportunityIfIdle (s : State) (p : Port) : State :=
  match (getPort s p).transmitter with
  | .idle => opportunity s p 0
  | .sending _ _ _ => s

/-- Does a frame of this class replace a waiting one on this port (R139)? -/
def supersedes (p : Port) (cls : Byte) : Bool :=
  match p with
  | .c => cls = Config.clsNotice || cls = Config.clsBrakeReport
  | .e => cls = Config.clsDbSetpoint || cls = Config.clsBcSetpoint

/-- Do two originated frames have the same class and the same destination? -/
def sameKind (f g : OriginatedFrame) : Bool := f.cls = g.cls && f.dst = g.dst

/-- Replace the first waiting frame of the same kind, in place. -/
def replaceFirst (f : OriginatedFrame) : List OriginatedFrame → List OriginatedFrame
  | [] => []
  | g :: rest => if sameKind f g then f :: rest else g :: replaceFirst f rest

/-- The queue of a port after an originated frame is handed over: superseded in place, added at the tail,
or none when it finds no room (R138, R139). -/
def queueOriginated (p : Port) (q : List OriginatedFrame) (f : OriginatedFrame) :
    Option (List OriginatedFrame) :=
  if supersedes p f.cls && q.any (sameKind f) then some (replaceFirst f q)
  else if q.length < Config.originatedCapacity then some (q ++ [f])
  else none

/-- Has the C-port originated queue room for one frame (R160)? -/
def cRoom (s : State) : Bool := s.link.cPort.originated.length < Config.originatedCapacity

/-- An originated frame enters the queue of a port, with the opportunity this gives an IDLE transmitter;
none when it finds no room (R138, R139, R140). -/
def enterOriginated (s : State) (p : Port) (f : OriginatedFrame) : Option State :=
  (queueOriginated p (getPort s p).originated f).map (fun q =>
    opportunityIfIdle (setPort s p { getPort s p with originated := q }) p)

/-- Hand over an originated frame that is discarded and counted when it finds no room (R138): setpoints,
notices, reports and BUSY answers. -/
def handOver (s : State) (p : Port) (f : OriginatedFrame) : State :=
  match enterOriginated s p f with
  | some s' => s'
  | none => countAt s p (fun k => { k with originatedDrop := bump k.originatedDrop })

end Sys2Proof.Machine
end

