-- ==== Sys2Proof/Machine/Flags.lean ====
section
/-! DEFINITION. The event flags and the notices they cause (chapter 8, Event flags and Notices). -/

namespace Sys2Proof.Machine

/-- The word with one event flag's bit set. -/
def flagMask (f : Flag) : BitVec 19 := BitVec.ofNat 19 (2 ^ flagBit f)

/-- Is an event flag set? -/
def flagSet (s : State) (f : Flag) : Bool := s.lines.flags.getLsbD (flagBit f)

/-- The six edge flags as bits 0 to 5. -/
def edgeBits (s : State) : Nat :=
  (six.map (fun n => ((s.lines.inputs.get n).edge).toNat * 2 ^ n.val)).sum

/-- The flag word of chapter 11: event flags in bits 0 to 18, edge flags in bits 19 to 24. -/
def flagWord (s : State) : Nat := s.lines.flags.toNat + 2 ^ 19 * edgeBits s

/-- The NOTICE formed now (R154): local ms, flag word, state of the eight slots. -/
def formNotice (s : State) : OriginatedFrame where
  dst := BitVec.ofNat 8 (noticeNode s.tables)
  cls := Config.clsNotice
  payload := w4 s.control.localMs ++ q4 (flagWord s)
    ++ s.recorder.slots.flatMap (fun k => q1 (slotStateCode k.state))

/-- Hand a NOTICE to the C-port originated queue: the notice-pending mark is cleared when it enters or
supersedes, and stays when it is discarded and counted (R154, R155). -/
def handNotice (s : State) (f : OriginatedFrame) : State :=
  match enterOriginated s .c f with
  | some s' => { s' with lines := { s'.lines with noticePending := false } }
  | none => countAt s .c (fun k => { k with originatedDrop := bump k.originatedDrop })

/-- Form a NOTICE for NOTICE_NODE, if it names one, and hand it over; inside the event of a taken request
or of a completion of a validation it is kept until the response stands (R172). -/
def notify (s : State) : State :=
  if noticeNode s.tables = 0 then s
  else match s.deferred with
    | none => handNotice s (formNotice s)
    | some held => { s with deferred := some (held ++ [formNotice s]) }

/-- Hand over notices that were kept, in the order of their forming. -/
def handNotices (held : List OriginatedFrame) (s : State) : State := held.foldl handNotice s

/-- Hand over the notices kept during a taken request (R172). -/
def flushNotices (s : State) : State :=
  match s.deferred with
  | none => s
  | some held => handNotices held { s with deferred := none }

/-- Set an event flag (R152).  A rise of a flag in NOTICE_ENABLE sets the notice-pending mark and forms a
notice (R154); setting a set flag changes nothing. -/
def raise (f : Flag) (s : State) : State :=
  if flagSet s f then s
  else
    let s1 : State := { s with lines := { s.lines with flags := s.lines.flags ||| flagMask f } }
    if noticeEnabled s.tables f then
      notify { s1 with lines := { s1.lines with noticePending := true } }
    else s1

/-- Clear the event flags and edge flags a mask names (R153). -/
def clearFlags (mask : Word32) (s : State) : State :=
  { s with lines := { s.lines with
      flags := s.lines.flags &&& ~~~(mask.setWidth 19)
      inputs := Six.ofFn (fun n =>
        let r := s.lines.inputs.get n
        { r with edge := r.edge && !mask.getLsbD (19 + n.val) }) } }

/-- What follows a full C-port originated queue gaining room, once the held requests have been served: a
pending notice is formed anew (R155). -/
def reformNotice (s : State) : State := if s.lines.noticePending then notify s else s

end Sys2Proof.Machine
end

