-- ==== Sys2Proof/Machine/Recorder.lean ====
section
/-! DEFINITION. Incident Recorder (chapter 6): the ring, triggers, incident slots, captures and the
frame-match patterns. -/

namespace Sys2Proof.Machine

/-! ## Opening and joining -/

/-- What became of a delivered trigger; INCIDENT_MARK reports it (R123). -/
inductive TriggerOutcome where
  | ignored
  | opened (slot seq : Nat)
  | overwritten (slot seq old : Nat)
  | appended (slot seq : Nat) (entered : Bool)
  | lost
deriving DecidableEq, Repr

/-- The number of the FILLING slot. -/
def fillingSlot (r : Recorder) : Option Nat := r.slots.findIdx? (fun k => k.state = .filling)

/-- The lowest-numbered FREE slot (R105, step 1). -/
def freeSlot (r : Recorder) : Option Nat := r.slots.findIdx? (fun k => k.state = .free)

/-- May a slot be overwritten: SEALED or READ, and not protected (R105, step 2)? -/
def overwritable (k : Slot) : Bool := (k.state = .sealed || k.state = .read) && !k.protected_

/-- The lowest sequence number among the slots that may be overwritten. -/
def oldestSeq (r : Recorder) : Option Nat :=
  ((r.slots.filter overwritable).map (fun k => k.seq.getD 0)).min?

/-- The slot to overwrite (R105, step 2). -/
def victimSlot (r : Recorder) : Option Nat :=
  match oldestSeq r with
  | none => none
  | some q => r.slots.findIdx? (fun k => overwritable k && k.seq.getD 0 = q)

/-- A slot of the Recorder. -/
def getSlot (r : Recorder) (i : Nat) : Slot := r.slots.getD i Slot.free

/-- Replace a slot. -/
def setSlot (r : Recorder) (i : Nat) (k : Slot) : Recorder := { r with slots := r.slots.set i k }

/-- The time-of-day of a stamp (R108); absent without a base. -/
def timeOfDayAt (s : State) (now : Word32) : Option Word32 :=
  s.control.timeBase.map (fun b => b.seconds + BitVec.ofNat 32 (msBetween now b.at_ / 1000))

/-- The demand frame image for capture 1 (R18, R109). -/
def demandCapture (s : State) : Option Capture :=
  let image : Option GoodDemand :=
    match s.authority.active, s.authority.phase with
    | .source k, _ => s.authority.good.get k
    | .fallback, .hold | .fallback, .penalty => s.authority.lost.bind s.authority.good.get
    | .fallback, _ => none
  image.map (fun d => captureOf .demand .c d.image)

/-- The slot that an opening sets (R107), before a matched frame takes capture 2. -/
def openedSlot (s : State) (kind : TriggerKind) : Slot :=
  let r := s.recorder
  let n := min (preLimit s.tables) r.ring.length
  { state := .filling
    seq := some r.nextSeq
    openTime := s.control.localMs
    timeOfDay := timeOfDayAt s s.control.localMs
    triggers := [⟨kind, s.control.localMs, none⟩]
    dropped := 0
    preCount := n
    snapshots := r.ring.drop (r.ring.length - n)
    capture1 := demandCapture s
    capture2 := none
    capture3 := none
    capture4 := none
    protected_ := triggerProtected s.tables kind
    endCause := none }

/-- Put a matched frame into the lowest empty position among 2, 3 and 4 (R114); the position taken, if
any. -/
def placeCapture (k : Slot) (c : Capture) : Slot × Option Nat :=
  if k.capture2.isNone then ({ k with capture2 := some c }, some 2)
  else if k.capture3.isNone then ({ k with capture3 := some c }, some 3)
  else if k.capture4.isNone then ({ k with capture4 := some c }, some 4)
  else (k, none)

/-- The capture of a frame-match trigger in a slot: none for another trigger, the position its frame
already has (R114: a frame is captured once), or the lowest empty one. -/
def captureFor (k : Slot) (frame : Option Capture) (have_ : Option Nat) : Slot × Option Nat :=
  match frame, have_ with
  | none, _ => (k, none)
  | some _, some pos => (k, some pos)
  | some c, none => placeCapture k c

/-- Note the capture position in the opening entry. -/
def withOpeningCapture (k : Slot) (pos : Option Nat) : Slot :=
  { k with triggers := k.triggers.map (fun t => { t with capture := pos }) }

/-- The overwrite counter and INCIDENT_LOST (R105, step 2). -/
def countOverwrite (s : State) : State :=
  raise .incidentLost { s with recorder := { s.recorder with overwrites := bump16 s.recorder.overwrites } }

/-- The lost counter and INCIDENT_LOST (R105, step 3). -/
def loseIncident (s : State) : State :=
  raise .incidentLost { s with recorder := { s.recorder with lostCount := bump16 s.recorder.lostCount } }

/-- After the number 4,294,967,295 the numbering is used up: 0 (R106). -/
def nextSequence (n : Nat) : Nat := if n = Config.maxU32 then 0 else n + 1

/-- Open an incident in a slot (R106, R107). -/
def openIn (s : State) (i : Nat) (kind : TriggerKind) (frame : Option Capture) (have_ : Option Nat) :
    State × Option Nat :=
  let (k, pos) := captureFor (openedSlot s kind) frame have_
  let r := setSlot s.recorder i (withOpeningCapture k pos)
  ({ s with recorder := { r with nextSeq := nextSequence r.nextSeq } }, pos)

/-- A taken trigger that finds no slot FILLING (R105). -/
def openIncident (s : State) (kind : TriggerKind) (frame : Option Capture) (have_ : Option Nat) :
    State × TriggerOutcome × Option Nat :=
  let seq := s.recorder.nextSeq
  if seq = 0 then (loseIncident s, .lost, have_)
  else match freeSlot s.recorder with
    | some i =>
      let (s1, pos) := openIn s i kind frame have_
      (s1, .opened i seq, pos)
    | none => match victimSlot s.recorder with
      | some i =>
        let old := (getSlot s.recorder i).seq.getD 0
        let (s1, pos) := openIn (countOverwrite s) i kind frame have_
        (s1, .overwritten i seq old, pos)
      | none => (loseIncident s, .lost, have_)

/-- A taken trigger that finds slot `i` FILLING (R111). -/
def joinIncident (s : State) (i : Nat) (kind : TriggerKind) (frame : Option Capture) (have_ : Option Nat) :
    State × TriggerOutcome × Option Nat :=
  let (k, pos) := captureFor (getSlot s.recorder i) frame have_
  let entered : Bool := k.triggers.length < Config.triggerCapacity
  let k1 :=
    if entered then { k with triggers := k.triggers ++ [⟨kind, s.control.localMs, pos⟩] }
    else { k with dropped := bump8 k.dropped }
  let k2 := { k1 with protected_ := k1.protected_ || triggerProtected s.tables kind }
  ({ s with recorder := setSlot s.recorder i k2 }, .appended i (k.seq.getD 0) entered, pos)

/-- Deliver a trigger to the Recorder (R102): it is taken in SERVICE when its kind is enabled.  `frame` is
the matched frame of a FRAME_MATCH trigger and `have_` the position it was already captured at in this
event; the answer says what became of the trigger and the position its frame now has. -/
def deliverTrigger (s : State) (kind : TriggerKind) (frame : Option Capture) (have_ : Option Nat) :
    State × TriggerOutcome × Option Nat :=
  if s.control.mode = .service && triggerEnabled s.tables kind then
    match fillingSlot s.recorder with
    | none => openIncident s kind frame have_
    | some i => joinIncident s i kind frame have_
  else (s, .ignored, have_)

/-- Deliver a trigger that carries no frame. -/
def trigger (kind : TriggerKind) (s : State) : State := (deliverTrigger s kind none none).1

/-! ## Snapshots and sealing -/

/-- The ring with a snapshot entered as the newest (R101). -/
def ringPush (ring : List Snapshot) (n : Snapshot) : List Snapshot :=
  if ring.length < Config.ringCapacity then ring ++ [n] else ring.drop 1 ++ [n]

/-- Seal slot `i` and set INCIDENT_SEALED (R110, R112). -/
def sealSlot (s : State) (i : Nat) (cause : EndCause) : State :=
  let k := getSlot s.recorder i
  raise .incidentSealed
    { s with recorder := setSlot s.recorder i { k with state := .sealed, endCause := some cause } }

/-- Append a ring entry to the FILLING incident, and seal it when its span is complete (R110). -/
def appendToFilling (s : State) (n : Snapshot) : State :=
  match fillingSlot s.recorder with
  | none => s
  | some i =>
    let k := getSlot s.recorder i
    let k1 := { k with snapshots := k.snapshots ++ [n] }
    let s1 : State := { s with recorder := setSlot s.recorder i k1 }
    if k1.snapshots.length = k1.preCount + (Config.ringCapacity - preLimit s.tables) then
      sealSlot s1 i .complete
    else s1

/-- The Recorder is handed a snapshot (R100): one in RECORD_DIV enters the ring and the FILLING
incident. -/
def takeSnapshot (s : State) (n : Snapshot) : State :=
  let d := s.recorder.divider + 1
  if d = recordDiv s.tables then
    appendToFilling
      { s with recorder := { s.recorder with divider := 0, ring := ringPush s.recorder.ring n } } n
  else { s with recorder := { s.recorder with divider := d } }

/-- Leaving SERVICE seals a FILLING slot (R112). -/
def sealOnExit (s : State) : State :=
  match fillingSlot s.recorder with
  | none => s
  | some i => sealSlot s i .modeChange

/-- Entry into SERVICE empties the ring and sets the divider to 0 (R100, R101). -/
def clearRing (s : State) : State := { s with recorder := { s.recorder with ring := [], divider := 0 } }

/-! ## Frame-match patterns (R115 to R119) -/

/-- The selected positions of a mask, ascending from a base position. -/
def maskPositions (mask base : Nat) : List Nat :=
  ((List.range 32).filter (fun j => mask.testBit j)).map (fun j => base + j)

/-- Does a port selector (C, E, BOTH) name a port? -/
def portSelected (selector : Nat) (p : Port) : Bool := selector = 2 || selector = portCode p

/-- The bytes of a frame at the selected positions, if it is long enough to hold them all. -/
def selectedBytes (bytes : List Byte) (positions : List Nat) : Option (List Byte) :=
  positions.mapM (fun i => bytes[i]?)

/-- One pattern's test with given positions (R116, R118): `p` gives enabled, port, class and CRC. -/
def patternTest (ts : Tables) (p : Nat) (positions : List Nat) (port : Port) (f : Frame) : Bool :=
  tableField ts.patterns p 0 = 1
    && portSelected (tableField ts.patterns p 1) port
    && tableField ts.patterns p 2 = f.cls.toNat
    && match selectedBytes (frameBytes f) positions with
      | none => false
      | some sel => (crc16 sel).toNat = tableField ts.patterns p 4

/-- Does pattern `p` match, singly (R116) or, under LONG_PAIRS, as the first of its pair (R118)? -/
def patternMatches (ts : Tables) (p : Fin 8) (port : Port) (f : Frame) : Bool :=
  let own := maskPositions (tableField ts.patterns p.val 3) 0
  if longPairs ts then
    p.val % 2 = 0
      && patternTest ts p.val (own ++ maskPositions (tableField ts.patterns (p.val + 1) 3) 32) port f
  else patternTest ts p.val own port f

/-- The pattern numbers, ascending. -/
def patternNumbers : List (Fin 8) := [0, 1, 2, 3, 4, 5, 6, 7]

/-- One pattern's turn in the offer of a frame; `pos` is where the frame has been captured. -/
def offerToPattern (port : Port) (f : Frame) (acc : State × Option Nat) (p : Fin 8) : State × Option Nat :=
  let (s, pos) := acc
  if patternMatches s.tables p port f then
    let (s1, _, pos1) := deliverTrigger s (.frameMatch p) (some (captureOf (.pattern p) port f)) pos
    (s1, pos1)
  else (s, pos)

/-- The Link Unit's offer of an arriving frame (R115): tested in SERVICE while PATTERNS is LOADED. -/
def offerFrame (port : Port) (f : Frame) (s : State) : State :=
  if s.control.mode = .service && s.tables.patterns.loaded then
    (patternNumbers.foldl (offerToPattern port f) (s, none)).1
  else s

end Sys2Proof.Machine
end

