-- ==== Sys2Proof/Machine/Authority.lean ====
section
/-! DEFINITION. Demand Authority Unit (chapter 1), and the sand request of the Slide Control Unit (R46),
which the active demand record bears on. -/

namespace Sys2Proof.Machine

/-! ## The active demand record (R5, R6, R13, R15, R17, R18) -/

/-- The active demand record as formed for a reader.  The reduction and the independent demand are absent
where AUTO_FULL or BC_MAX, their only source, has no value (R5, R15). -/
structure ActiveDemand where
  reduction : Option Nat
  independent : Option Nat
  handle : Nat
  emergency : Bool
  bailOff : Bool
  sand : Bool
  direction : Byte
deriving DecidableEq, Repr

/-- A direction code other than END_A and END_B is formed as NEUTRAL (R4, R18). -/
def formDirection (d : Byte) : Byte := if d = 1 ∨ d = 2 then d else 0

/-- The direction of a stored record, NEUTRAL without one. -/
def recordDirection (d : Option GoodDemand) : Byte :=
  match d with
  | some g => formDirection g.record.direction
  | none => 0

/-- A stored record as presented (R6). -/
def presentRecord (d : Option GoodDemand) : ActiveDemand :=
  match d with
  | some g =>
    { reduction := some g.record.reduction
      independent := some g.record.independent
      handle := g.record.handle
      emergency := g.record.emergency
      bailOff := g.record.bailOff
      sand := g.record.sand
      direction := formDirection g.record.direction }
  | none => ⟨some 0, some 0, 0, false, false, false, 0⟩

/-- The demand presented in each combination of active source and phase (R6, R13, R15). -/
def presentedDemand (s : State) : ActiveDemand :=
  let a := s.authority
  match a.active, a.phase with
  | .source k, _ => presentRecord (a.good.get k)
  | .fallback, .hold => presentRecord (a.lost.bind a.good.get)
  | .fallback, .penalty =>
    ⟨autoFull? s.tables, some 0, 0, false, false, false, recordDirection (a.lost.bind a.good.get)⟩
  | .fallback, _ => ⟨some 0, bcMax? s.tables, 0, false, false, false, 0⟩

/-- The PENALTY line's accepted level is active (R17). -/
def penaltyActive (s : State) : Bool := (s.lines.inputs.get 1).accepted

/-- The PENALTY line raises the reduction to AUTO_FULL (R17).  DESIGN CHOICE (log entry 28): while BLEND is not
LOADED, AUTO_FULL has no value and the presented reduction stands as it is. -/
def applyPenalty (s : State) (d : ActiveDemand) : ActiveDemand :=
  if penaltyActive s then
    { d with reduction := match autoFull? s.tables with
      | some full => d.reduction.map (fun r => max r full)
      | none => d.reduction }
  else d

/-- The clamps of R5: to AUTO_FULL and to BC_MAX, where they have a value. -/
def clampDemand (s : State) (d : ActiveDemand) : ActiveDemand :=
  { d with
    reduction := match autoFull? s.tables with
      | some full => d.reduction.map (fun r => min r full)
      | none => d.reduction
    independent := match bcMax? s.tables with
      | some top => d.independent.map (fun r => min r top)
      | none => d.independent }

/-- The active demand record (R18). -/
def activeDemand (s : State) : ActiveDemand := clampDemand s (applyPenalty s (presentedDemand s))

/-! ## The sand request (R46) -/

/-- An axle calls for sand by its state. -/
def inReliefOrHold (a : AxleRecord) : Bool := a.state = .relief || a.state = .hold

/-- One of the three conditions of R46 holds. -/
def sandCalled (s : State) : Bool :=
  let axles := s.slide.axles.toList
  (sandAxles s.tables ≤ (axles.filter inReliefOrHold).length)
    || axles.any (fun a => a.prolonged)
    || (activeDemand s).sand

/-- Evaluate the sand conditions (R46); not while the SLIDE table is not LOADED. -/
def evalSand (s : State) : State :=
  if !s.tables.slide.loaded then s
  else if sandCalled s then
    { s with slide := { s.slide with sandRequest := true, sandTimer := .stopped } }
  else if !s.slide.sandRequest then s
  else if sandHoldMs s.tables = 0 then
    { s with slide := { s.slide with sandRequest := false, sandTimer := .stopped } }
  else
    { s with slide := { s.slide with sandTimer := s.slide.sandTimer.startIfStopped } }

/-! ## Emergency latch (R19 to R21) -/

/-- The EMERG line's accepted level is active. -/
def emergActive (s : State) : Bool := (s.lines.inputs.get 0).accepted

/-- A source whose monitor is VALID holds a record that carries the emergency flag. -/
def sourceCallsEmergency (a : Authority) (k : Source) : Bool :=
  (a.monitors.get k).state = .valid && match a.good.get k with
    | some g => g.record.emergency
    | none => false

/-- An emergency condition is present (R20). -/
def emergencyCondition (s : State) : Bool :=
  emergActive s || sourceCallsEmergency s.authority .cabA || sourceCallsEmergency s.authority .cabB
    || sourceCallsEmergency s.authority .dp

/-- Set the emergency latch (R19); setting a set latch changes nothing here. -/
def setLatch (s : State) : State :=
  if s.authority.latch then s
  else
    trigger .emergency (raise .emergency
      { s with authority := { s.authority with latch := true, resetTimer := .stopped } })

/-- Move the emergency reset timer at an event that may change the condition (R20): stopped while a
condition is present or the latch is clear; started from zero when the condition is absent and the SOURCE
table is LOADED; running and expired otherwise stay. -/
def evalEmergency (s : State) : State :=
  if !s.authority.latch || emergencyCondition s then
    { s with authority := { s.authority with resetTimer := .stopped } }
  else match s.authority.resetTimer with
    | .stopped =>
      if s.tables.source.loaded then
        { s with authority := { s.authority with resetTimer := .running 0 } }
      else s
    | .running _ | .expired => s

/-- The clearing test of R21 on a frame from a source, with its fields as received. -/
def clearsLatch (s : State) (k : Source) (emergency : Bool) (reduction : Nat) : Bool :=
  s.authority.latch && s.authority.resetTimer = .expired && s.authority.active = .source k
    && !emergency && s.tables.blend.loaded && autoFull s.tables ≤ reduction

/-- Clear the latch when the test passes (R21). -/
def tryClearLatch (k : Source) (emergency : Bool) (reduction : Nat) (s : State) : State :=
  if clearsLatch s k emergency reduction then
    { s with authority := { s.authority with latch := false, resetTimer := .stopped } }
  else s

/-! ## Switching the active source (R7, R8, R16) -/

/-- Is a source's monitor VALID? -/
def isValid (s : State) (k : Source) : Bool := (s.authority.monitors.get k).state = .valid

/-- Complete a switch to a target (R8). -/
def completeSwitch (k : Source) (s : State) : State :=
  raise .sourceSwitched
    { s with authority := { s.authority with
        active := .source k
        pendingSwitch := none
        phase := .none
        lost := none
        holdTimer := .stopped } }

/-- The pending switch completes when its target is VALID (R8). -/
def completePending (k : Source) (s : State) : State :=
  if s.authority.pendingSwitch = some k && isValid s k then completeSwitch k s else s

/-- The preferred source (R16): the locked source, otherwise PREFERRED. -/
def preferredSource (s : State) : Option Source :=
  match s.authority.lock with
  | some k => some k
  | none => preferred s.tables

/-- The start-up auto-switch acts on a source's VALID transition (R16). -/
def autoSwitchApplies (s : State) (k : Source) : Bool :=
  s.authority.autoMark && s.authority.pendingSwitch = none && preferredSource s = some k && isValid s k

/-- The start-up auto-switch (R16). -/
def autoSwitch (k : Source) (s : State) : State :=
  if autoSwitchApplies s k then
    completeSwitch k { s with authority := { s.authority with autoMark := false } }
  else s

/-- A VALID transition is delivered to the pending-switch completion and to the auto-switch (R2).  A
transition that completed a pending switch leaves nothing for the auto-switch: R16 asks that no switch be
pending when the transition comes. -/
def validTransition (k : Source) (s : State) : State :=
  if s.authority.pendingSwitch.isSome then completePending k s else autoSwitch k s

/-! ## Monitors (R1 to R4, R12) -/

/-- A monitor's move at a delivered frame (R2), with the count a frame brings it to compared with
ACQUIRE_COUNT. -/
def monitorMove (need : Nat) (gap : Bool) (m : Monitor) : Monitor :=
  match m.state with
  | .silent => if need ≤ 1 then ⟨.valid, 1⟩ else ⟨.acquiring, 1⟩
  | .acquiring =>
    if gap then ⟨.acquiring, 1⟩
    else if need ≤ m.count + 1 then ⟨.valid, m.count + 1⟩
    else ⟨.acquiring, m.count + 1⟩
  | .valid => m

/-- Store a delivered frame as its source's last good demand record (R4). -/
def storeDemand (k : Source) (d : GoodDemand) (s : State) : State :=
  { s with authority := { s.authority with good := s.authority.good.set k (some d) } }

/-- Move a source's monitor, while the SOURCE table is LOADED (R1, R2), with the VALID transition's
deliveries. -/
def moveMonitor (k : Source) (gap : Bool) (s : State) : State :=
  if !s.tables.source.loaded then s
  else
    let old := s.authority.monitors.get k
    let new := monitorMove (acquireCount s.tables) gap old
    let s1 : State :=
      { s with authority := { s.authority with monitors := s.authority.monitors.set k new } }
    if old.state ≠ .valid ∧ new.state = .valid then validTransition k s1 else s1

/-- A DEMAND frame's delivery to a monitor (R1): record, monitor, switches, latch, reset timer, clearing
test, sand flag. -/
def deliverDemand (k : Source) (gap : Bool) (f : Frame) (s : State) : State :=
  match readDemand f.payload with
  | none => s
  | some d =>
    let s1 := moveMonitor k gap (storeDemand k ⟨d, f⟩ s)
    let s2 := if d.emergency && isValid s1 k then setLatch s1 else s1
    evalSand (tryClearLatch k d.emergency d.reduction (evalEmergency s2))

/-- The fail-safe loss (R12). -/
def failSafeLoss (k : Source) (s : State) : State :=
  trigger .sourceLoss (raise .sourceLoss
    { s with authority := { s.authority with
        active := .fallback
        phase := .hold
        lost := some k
        holdTimer := .running 0
        pendingSwitch := none } })

/-- A source's monitor returns to SILENT (R3): fail-safe loss if its source is active, then the emergency
condition. -/
def silenceMonitor (k : Source) (s : State) : State :=
  let old := s.authority.monitors.get k
  let s1 : State :=
    { s with authority := { s.authority with monitors := s.authority.monitors.set k ⟨.silent, 0⟩ } }
  if old.state = .valid then
    let s2 := if s1.authority.active = .source k then failSafeLoss k s1 else s1
    evalSand (evalEmergency s2)
  else s1

/-! ## Expiries -/

/-- The HOLD timer's expiry (R13), if it is due. -/
def holdExpiry (s : State) : State :=
  if s.authority.holdTimer.reached (holdMs s.tables) then
    evalSand { s with authority := { s.authority with phase := .penalty, holdTimer := .stopped } }
  else s

/-- The emergency reset timer's expiry (R20), if it is due. -/
def emergencyExpiry (s : State) : State :=
  if s.authority.resetTimer.reached (emergResetMs s.tables) then
    { s with authority := { s.authority with resetTimer := .expired } }
  else s

/-! ## The commands of this unit -/

/-- DEMAND_FRAME (R1, R2, R4, R19 to R21). -/
def execDemandFrame (k : Source) (gap : Bool) (f : Frame) (s : State) : Result :=
  event s (deliverDemand k gap f)

/-- SOURCE_SWITCH_COMPLETE (R8). -/
def execSourceSwitchComplete (k : Source) (s : State) : Result :=
  event s (fun s => evalSand (completePending k s))

/-- AUTO_SWITCH (R16). -/
def execAutoSwitch (k : Source) (s : State) : Result := event s (fun s => evalSand (autoSwitch k s))

/-- EMERGENCY_LATCH_CLEAR (R21). -/
def execEmergencyLatchClear (k : Source) (emergency : Bool) (reduction : Byte) (s : State) : Result :=
  event s (tryClearLatch k emergency reduction.toNat)

/-- HOLD_TIMER_EXPIRY (R13). -/
def execHoldTimerExpiry (s : State) : Result := event s holdExpiry

/-- EMERGENCY_RESET_EXPIRY (R20). -/
def execEmergencyResetExpiry (s : State) : Result := event s emergencyExpiry

end Sys2Proof.Machine
end

