-- ==== Sys2Proof/Machine/Slide.lean ====
section
/-! DEFINITION. Slide Control Unit (chapter 2), and the standstill timer of the Air Channel (R94), which
follows the speed state and v_ref. -/

namespace Sys2Proof.Machine

/-! ## Standstill (R94) -/

/-- The standstill condition. -/
def standstill (s : State) : Bool := s.slide.speedState = .valid && s.slide.vRef = 0

/-- Re-evaluate the standstill condition: started from zero when it begins, stopped when it ends. -/
def evalStandstill (s : State) : State :=
  { s with air := { s.air with
      standstill := if standstill s then s.air.standstill.startIfStopped else .stopped } }

/-! ## Slide and truck factors (R45) -/

/-- Does an axle count in its truck's factor?  SENSOR_FAULT and ISOLATED do not. -/
def countsInTruck (a : AxleRecord) : Bool :=
  match a.state with
  | .sensorFault | .isolated => false
  | .rolling | .suspect | .relief | .hold | .reapply | .locked => true

/-- The share of one axle in its truck's factor; 1000 when it does not count. -/
def truckShare (a : AxleRecord) : Nat := if countsInTruck a then a.f else 1000

/-- The truck factor: the smallest counted f_i, 1000 when none counts. -/
def truckFactor (s : State) : Truck → Nat
  | .t1 => min (min (truckShare s.slide.axles.a1) (truckShare s.slide.axles.a2))
      (min (truckShare s.slide.axles.a3) 1000)
  | .t2 => min (min (truckShare s.slide.axles.a4) (truckShare s.slide.axles.a5))
      (min (truckShare s.slide.axles.a6) 1000)

/-- The truck of an axle: axles 1 to 3 on truck 1, 4 to 6 on truck 2. -/
def axleTruck (i : Fin 6) : Truck := if i.val < 3 then .t1 else .t2

/-- The commanded pressure of a truck. -/
def truckPressure (s : State) : Truck → Nat
  | .t1 => s.blend.p1
  | .t2 => s.blend.p2

/-- Is an axle braked (R34)? -/
def braked (s : State) (i : Fin 6) : Bool := 0 < s.blend.e.get i || 0 < truckPressure s (axleTruck i)

/-! ## States and episodes of one axle -/

/-- An episode begins (R39). -/
def beginEpisode (a : AxleRecord) : AxleRecord := { a with episode := .running 0, prolonged := false }

/-- An episode ends (R39). -/
def endEpisode (a : AxleRecord) : AxleRecord := { a with episode := .stopped, prolonged := false }

/-- Entry to ROLLING at a transition, which ends the episode. -/
def toRolling (a : AxleRecord) : AxleRecord := endEpisode { a with state := .rolling, f := 1000, confirm := 0 }

/-- One step of relief, floored at 0 (R36). -/
def relieve (ts : Tables) (a : AxleRecord) : AxleRecord :=
  { a with state := .relief, f := a.f - reliefStep ts }

/-- Entry to RELIEF that counts as a slide (R35, R37). -/
def relieveCounted (ts : Tables) (a : AxleRecord) : AxleRecord :=
  relieve ts { a with slideCount := bump8 a.slideCount }

/-- One step of reapplication, capped at 1000 (R37). -/
def reapplied (ts : Tables) (a : AxleRecord) : Nat := min (a.f + reapplyStep ts) 1000

/-- Entry to ISOLATED (R41, R43). -/
def isolate (cause : IsolationCause) (a : AxleRecord) : AxleRecord :=
  endEpisode
    { a with
      state := .isolated
      f := 0
      confirm := 0
      faultCount := 0
      lockTimer := .stopped
      stateTimer := .stopped
      isolation := some cause }

/-- Entry to SENSOR_FAULT (R42). -/
def toSensorFault (a : AxleRecord) : AxleRecord :=
  endEpisode
    { a with
      state := .sensorFault
      f := 0
      confirm := 0
      faultCount := 0
      lockTimer := .stopped
      stateTimer := .stopped }

/-- Entry to LOCKED (R40); from ROLLING an episode begins. -/
def toLocked (a : AxleRecord) : AxleRecord :=
  let b : AxleRecord :=
    { a with state := .locked, f := 0, confirm := 0, stateTimer := .running 0, lockTimer := .stopped }
  if a.state = .rolling then beginEpisode b else b

/-- What the first sample after LOST does to an axle (R30). -/
def recoverAxle (a : AxleRecord) : AxleRecord :=
  if a.state = .isolated then a
  else endEpisode
    { a with
      state := .rolling
      f := 1000
      confirm := 0
      faultCount := 0
      stateTimer := .stopped
      lockTimer := .stopped }

/-! ## Stage 2: speeds (R26) -/

/-- The axle speed of a rate: rate × circumference × 36 / 100000, truncated, clamped to 20000. -/
def axleSpeed (rate circumference : Nat) : Nat := min (rate * circumference * 36 / 100000) 20000

/-- Speed, previous speed and deceleration of one axle at a sample. -/
def updateSpeed (dt : Option Nat) (r : AxleReading) (a : AxleRecord) : AxleRecord :=
  if r.valid then
    let v := axleSpeed r.rate (a.circumference.getD 0)
    { a with
      vPrev := some a.v
      v := v
      decel := match dt with
        | some d => if a.lastValid then (((a.v : Int) - (v : Int)) * 1000).tdiv d else 0
        | none => 0
      lastValid := true }
  else { a with lastValid := false }

/-! ## Stage 3: the reference speed (R32) -/

/-- The radar is usable at this sample. -/
def radarUsable (s : State) : Option Nat :=
  match s.slide.radar with
  | some r =>
    if radarEnable s.tables = 1 ∧ r.valid ∧ msBetween s.control.localMs r.arrival ≤ 100 then some r.speed
    else none
  | none => none

/-- The candidate: the largest speed of the axles with a valid bit that were in ROLLING or SUSPECT. -/
def candidate (axles : Six AxleRecord) : Option Nat :=
  ((axles.toList.filter (fun a => a.lastValid && (a.state = .rolling || a.state = .suspect))).map
    (fun a => a.v)).max?

/-- v_ref from the axles (the table of R32). -/
def axleReference (ts : Tables) (dt cand : Option Nat) (vRef : Nat) : Nat :=
  match dt, cand with
  | some d, some v => max (vRef - aMax ts * d / 1000) (min v (vRef + aRise ts * d / 1000))
  | some d, none => vRef - aMax ts * d / 1000
  | none, some v => v
  | none, none => 0

/-! ## Stage 5: transitions of one axle (R34 to R42) -/

/-- What an axle's transition reports: SENSOR_FAULT entered, or LOCKED entered. -/
inductive AxleReport where
  | sensorFault
  | locked
deriving DecidableEq, Repr

/-- The slide condition of R35. -/
def slideCondition (ts : Tables) (t1 : Nat) (isBraked : Bool) (a : AxleRecord) : Bool :=
  isBraked && (t1 < a.slip || (decel1 ts : Int) < a.decel)

/-- The transitions of R35 to R37 and of LOCKED (R41), without the low-speed inhibit. -/
def slideStep (ts : Tables) (t1 t2 : Nat) (isBraked : Bool) (a : AxleRecord) : AxleRecord :=
  match a.state with
  | .rolling =>
    if slideCondition ts t1 isBraked a then beginEpisode { a with state := .suspect, confirm := 1 } else a
  | .suspect =>
    if t2 < a.slip then relieveCounted ts { a with confirm := 0 }
    else if slideCondition ts t1 isBraked a then
      if confirmCount ts ≤ a.confirm + 1 then relieveCounted ts { a with confirm := 0 }
      else { a with confirm := a.confirm + 1 }
    else toRolling a
  | .relief =>
    if a.vPrev.getD 0 ≤ a.v ∧ a.slip < t2 then { a with state := .hold } else relieve ts a
  | .hold =>
    if t2 ≤ a.slip then relieve ts a
    else if a.slip < t1 then { a with state := .reapply }
    else a
  | .reapply =>
    if t2 ≤ a.slip then relieveCounted ts a
    else if reapplied ts a = 1000 ∧ a.slip < t1 then toRolling a
    else { a with f := reapplied ts a }
  | .locked => if a.slip < t1 then { a with state := .reapply, stateTimer := .stopped } else a
  | .sensorFault | .isolated => a

/-- The transitions under the low-speed inhibit (R38). -/
def inhibitedStep (ts : Tables) (t1 : Nat) (a : AxleRecord) : AxleRecord :=
  match a.state with
  | .rolling => a
  | .suspect => toRolling a
  | .relief => { a with state := .reapply }
  | .hold => { a with state := .reapply }
  | .reapply => if reapplied ts a = 1000 then toRolling a else { a with f := reapplied ts a }
  | .locked => if a.slip < t1 then { a with state := .reapply, stateTimer := .stopped } else a
  | .sensorFault | .isolated => a

/-- Is the locked-axle test made in this state (R40)? -/
def lockTested (a : AxleRecord) : Bool :=
  match a.state with
  | .rolling | .suspect | .relief | .hold | .reapply => true
  | .locked | .sensorFault | .isolated => false

/-- The lock timer after a valid sample (R40). -/
def lockTimerStep (ts : Tables) (vRef : Nat) (a : AxleRecord) : AxleRecord :=
  if !lockTested a then a
  else if a.v < lockV ts ∧ lockRef ts < vRef then { a with lockTimer := a.lockTimer.startIfStopped }
  else { a with lockTimer := .stopped }

/-- One axle's stage 5 at a handled sample (R34): sensor-fault count, locked-axle test, transitions.  DESIGN CHOICE
(log entry 32): the sample whose count returns an axle from SENSOR_FAULT to ROLLING makes no locked-axle test of it. -/
def axleStep (ts : Tables) (vRef t1 t2 : Nat) (isBraked valid : Bool) (a : AxleRecord) :
    AxleRecord × Option AxleReport :=
  match a.state with
  | .isolated => (a, none)
  | .sensorFault =>
    if valid then
      if 10 ≤ a.faultCount + 1 then (endEpisode { a with state := .rolling, f := 1000, faultCount := 0 }, none)
      else ({ a with faultCount := a.faultCount + 1 }, none)
    else ({ a with faultCount := 0 }, none)
  | _ =>
    if valid then
      let b := lockTimerStep ts vRef { a with faultCount := 0 }
      if lockTested b && b.lockTimer.reached (lockMs ts) then (toLocked b, some .locked)
      else if vRef < vInhibit ts then (inhibitedStep ts t1 b, none)
      else (slideStep ts t1 t2 isBraked b, none)
    else if 3 ≤ a.faultCount + 1 then (toSensorFault a, some .sensorFault)
    else ({ a with faultCount := a.faultCount + 1 }, none)

/-- The flag, and for LOCKED the trigger, of an axle's transition. -/
def reportAxle (s : State) (r : Option AxleReport) : State :=
  match r with
  | some .sensorFault => raise .sensorFault s
  | some .locked => trigger .axleLocked (raise .axleLocked s)
  | none => s

/-! ## A whole sample (R24) -/

/-- The sample interval (R27): absent unless the speed state was VALID, clamped to 5..50 ms. -/
def sampleInterval (s : State) : Option Nat :=
  match s.slide.speedState, s.slide.prevArrival with
  | .valid, some prev => some (min (max (msBetween s.control.localMs prev) 5) 50)
  | _, _ => none

/-- Stages 1 to 4 of a sample: interval, speed state, speeds, reference, thresholds and slips (R26 to
R33). -/
def sampleMeasure (rd : Six AxleReading) (s : State) : State :=
  let ts := s.tables
  let dt := sampleInterval s
  let axles0 := Six.zipWith (updateSpeed dt) rd s.slide.axles
  let axles1 := if s.slide.speedState = .lost then axles0.map recoverAxle else axles0
  let usable := radarUsable s
  let vRef := match usable with
    | some v => min v 20000
    | none => axleReference ts dt (candidate axles1) s.slide.vRef
  let axles2 := axles1.map (fun a => if a.lastValid then { a with slip := vRef - a.v } else a)
  { s with slide := { s.slide with
      axles := axles2
      vRef := vRef
      refSource := if usable.isSome then .radar else .axles
      speedState := .valid
      prevArrival := some s.control.localMs
      staleTimer := .running 0
      t1 := max (slipAbs1 ts) (vRef * slipRel1 ts / 1000)
      t2 := max (slipAbs2 ts) (vRef * slipRel2 ts / 1000) } }

/-- Stage 5 of a sample: each axle in its own right, its flags and triggers in ascending axle number. -/
def sampleTransitions (s : State) : State :=
  let out := Six.ofFn (fun i =>
    axleStep s.tables s.slide.vRef s.slide.t1 s.slide.t2 (braked s i) (s.slide.axles.get i).lastValid
      (s.slide.axles.get i))
  (out.toList.map Prod.snd).foldl reportAxle
    { s with slide := { s.slide with axles := out.map Prod.fst } }

/-- Handle an AXLE_SAMPLE (R24): discarded when too short or while AXLE or SLIDE is not LOADED. -/
def handleAxleSample (payload : List Byte) (s : State) : State :=
  if s.tables.axle.loaded && s.tables.slide.loaded then
    match readAxleSample payload with
    | none => s
    | some rd => evalSand (sampleTransitions (evalStandstill (sampleMeasure rd s)))
  else s

/-- Store a RADAR_SAMPLE (R31). -/
def handleRadarSample (payload : List Byte) (s : State) : State :=
  match readRadar payload with
  | none => s
  | some (v, ok) =>
    { s with slide := { s.slide with radar := some ⟨v, ok, s.control.localMs⟩ } }

/-! ## Loss of the speed data, expiries and commands -/

/-- The speed state becomes LOST from VALID (R29). -/
def loseSpeed (s : State) : State :=
  if s.slide.speedState = .valid then
    trigger .speedLost (raise .speedLost (evalStandstill
      { s with slide := { s.slide with speedState := .lost, staleTimer := .stopped } }))
  else s

/-- Discard the last radar sample (R31). -/
def dropRadar (s : State) : State := { s with slide := { s.slide with radar := none } }

/-- The stale timer's expiry (R28), if it is due. -/
def staleExpiry (s : State) : State :=
  if s.slide.speedState = .valid && s.slide.staleTimer.exceeded (speedStaleMs s.tables) then loseSpeed s
  else s

/-- Replace one axle record. -/
def setAxle (s : State) (i : Fin 6) (a : AxleRecord) : State :=
  { s with slide := { s.slide with axles := s.slide.axles.set i a } }

/-- Is an axle's episode expiry due (R39)?  Not while the speed data is LOST (R29). -/
def episodeDue (s : State) (i : Fin 6) : Bool :=
  s.slide.speedState ≠ .lost && (s.slide.axles.get i).episode.exceeded (prolongMs s.tables)

/-- An axle's episode timer's expiry (R39), if it is due. -/
def episodeExpiry (i : Fin 6) (s : State) : State :=
  if episodeDue s i then
    evalSand (trigger .slideProlonged (raise .slideProlonged
      (setAxle s i { s.slide.axles.get i with episode := .stopped, prolonged := true })))
  else s

/-- Is an axle's LOCKED timeout due (R41)?  Not while the speed data is LOST (R29). -/
def lockedDue (s : State) (i : Fin 6) : Bool :=
  s.slide.speedState ≠ .lost && (s.slide.axles.get i).state = .locked
    && (s.slide.axles.get i).stateTimer.reached (lockFaultMs s.tables)

/-- An axle's LOCKED state timer's expiry (R41), if it is due. -/
def lockedExpiry (i : Fin 6) (s : State) : State :=
  if lockedDue s i then
    evalSand (raise .sensorFault (setAxle s i (isolate .lockTimeout (s.slide.axles.get i))))
  else s

/-- The sand hold timer's expiry (R46), if it is due. -/
def sandExpiry (s : State) : State :=
  if s.slide.sandTimer.reached (sandHoldMs s.tables) then
    { s with slide := { s.slide with sandRequest := false, sandTimer := .stopped } }
  else s

/-- The circumference of a diameter (R25). -/
def circumferenceOf (d : Nat) : Nat := (d * 355 + 56) / 113

/-- Recompute the six circumferences from the AXLE table (R25). -/
def recomputeCircumferences (s : State) : State :=
  { s with slide := { s.slide with
      axles := Six.ofFn (fun i =>
        { s.slide.axles.get i with circumference := some (circumferenceOf (diameter s.tables i)) }) } }

/-- AXLE_SAMPLE (R24). -/
def execAxleSample (payload : List Byte) (s : State) : Result := event s (handleAxleSample payload)

/-- RADAR_SAMPLE (R31). -/
def execRadarSample (payload : List Byte) (s : State) : Result := event s (handleRadarSample payload)

/-- STALE_TIMER_EXPIRY (R28). -/
def execStaleTimerExpiry (s : State) : Result := event s staleExpiry

/-- EPISODE_TIMER_EXPIRY (R39). -/
def execEpisodeTimerExpiry (i : Fin 6) (s : State) : Result := event s (episodeExpiry i)

/-- LOCKED_TIMEOUT (R41). -/
def execLockedTimeout (i : Fin 6) (s : State) : Result := event s (lockedExpiry i)

/-- SAND_HOLD_EXPIRY (R46). -/
def execSandHoldExpiry (s : State) : Result := event s sandExpiry

end Sys2Proof.Machine
end

