-- ==== Sys2Proof/Machine/DynBrake.lean ====
section
/-! DEFINITION. Dynamic Brake Channel (chapter 3): its state machine, shortfall and grid heat. -/

namespace Sys2Proof.Machine

/-- The excitation request: set in SETUP and ACTIVE (R63). -/
def excitation (b : Brake) : Bool := b.state = .setup || b.state = .active

/-- What every exit from SETUP and ACTIVE does (R52, R53, R55, R57, R58, R60): both state timers stopped,
the shortfall latch cleared and its timers stopped. -/
def quiesce (b : Brake) : Brake :=
  { b with
    setupTimer := .stopped
    idleTimer := .stopped
    shortfall := false
    shortSet := .stopped
    shortClear := .stopped }

/-- Enter OFF from SETUP or ACTIVE. -/
def brakeOff (s : State) : State := { s with brake := { quiesce s.brake with state := .off } }

/-- Entry to TRIPPED (R55). -/
def trip (cause : TripCause) (s : State) : State :=
  trigger .dbTrip (raise .dbTrip
    { s with brake := { quiesce s.brake with state := .tripped, cause := some cause } })

/-- Entry to CUTOUT from any other state (R57). -/
def enterCutout (s : State) : State :=
  if s.brake.state = .cutout then s
  else { s with brake := { quiesce s.brake with state := .cutout, cause := none } }

/-- DB_CUTOUT accepted inactive leaves CUTOUT for OFF (R57). -/
def leaveCutout (s : State) : State :=
  if s.brake.state = .cutout then { s with brake := { s.brake with state := .off } } else s

/-- The channel leaves SETUP or ACTIVE for OFF when the mode leaves SERVICE (R58). -/
def brakeLeaveService (s : State) : State := if excitation s.brake then brakeOff s else s

/-! ## Traction status (R49, R51, R54, R59, R60) -/

/-- Store a traction status and A_last (R49). -/
def storeTraction (t : TractionRecord) (s : State) : State :=
  { s with brake := { s.brake with status := some t, aLast := t.effort.sum } }

/-- A deficit holds (R59). -/
def deficit (ts : Tables) (a c : Nat) : Bool := 20 ≤ c && a * 1000 < c * shortPermille ts

/-- Recovery holds (R60). -/
def recovered (ts : Tables) (a c : Nat) : Bool := c * shortClearPermille ts ≤ a * 1000

/-- The shortfall test at a status arrival with the latch clear (R59). -/
def shortfallSetTest (s : State) : State :=
  let b := s.brake
  if deficit s.tables b.aLast s.blend.e.sum then
    let t := b.shortSet.startIfStopped
    if t.reached (shortMs s.tables) then
      trigger .dbShortfall (raise .dbShortfall
        { s with brake := { b with shortfall := true, shortSet := .stopped, shortClear := .stopped } })
    else { s with brake := { b with shortSet := t } }
  else { s with brake := { b with shortSet := .stopped } }

/-- The recovery test at a status arrival with the latch set (R60). -/
def shortfallClearTest (s : State) : State :=
  let b := s.brake
  if recovered s.tables b.aLast s.blend.e.sum then
    let t := b.shortClear.startIfStopped
    if t.reached (shortMs s.tables) then
      { s with brake := { b with shortfall := false, shortClear := .stopped } }
    else { s with brake := { b with shortClear := t } }
  else { s with brake := { b with shortClear := .stopped } }

/-- ACTIVE from SETUP on a ready status (R51). -/
def becomeActive (s : State) : State := { s with brake := { quiesce s.brake with state := .active } }

/-- Offer a stored status to the state machine and to the shortfall test (R49).  DEDUCED (log entry 29): a status
with the fault bit set that arrives in ACTIVE trips the channel, and is not put to the shortfall test of R59. -/
def offerTraction (t : TractionRecord) (s : State) : State :=
  match s.brake.state with
  | .setup => if t.fault then trip .converter s else if t.ready then becomeActive s else s
  | .active =>
    if t.fault then trip .converter s
    else if s.brake.shortfall then shortfallClearTest s
    else shortfallSetTest s
  | .off | .tripped | .cutout => s

/-- Handle a TRACTION_STATUS (R49). -/
def handleTraction (payload : List Byte) (s : State) : State :=
  match readTraction payload with
  | none => s
  | some t => offerTraction t (storeTraction t s)

/-- The TRACTION node's loss (R54): in ACTIVE a trip with cause LINK. -/
def tractionLost (s : State) : State := if s.brake.state = .active then trip .link s else s

/-! ## The blend period's hand-off (R50, R52, R53) -/

/-- Is an ACTIVE period idle (R53)? -/
def idlePeriod (e : Six Nat) (fTarget : Nat) : Bool := e.sum = 0 && fTarget = 0

/-- The channel is handed F_target, the capability sum and the efforts (R81). -/
def handOff (fTarget capabilitySum : Nat) (e : Six Nat) (s : State) : State :=
  match s.brake.state with
  | .off =>
    if 0 < fTarget ∧ 0 < capabilitySum then
      { s with brake := { s.brake with state := .setup, setupTimer := .running 0 } }
    else s
  | .setup => if fTarget = 0 then brakeOff s else s
  | .active =>
    { s with brake := { s.brake with
        idleTimer := if idlePeriod e fTarget then s.brake.idleTimer.startIfStopped else .stopped } }
  | .tripped | .cutout => s

/-- The SETUP timer's expiry (R52), if it is due. -/
def setupExpiry (s : State) : State :=
  if s.brake.state = .setup && s.brake.setupTimer.reached (setupMs s.tables) then trip .setupTimeout s
  else s

/-- The idle timer's expiry (R53), if it is due. -/
def idleExpiry (s : State) : State :=
  if s.brake.state = .active && s.brake.idleTimer.reached (idleMs s.tables) then brakeOff s else s

/-! ## Grid heat (R61, R62) -/

/-- The thermal factor of a heat (R62). -/
def thermalFactor (ts : Tables) (h : Nat) : Nat :=
  if hMax ts ≤ h then 0
  else if h ≤ hWarn ts then 1000
  else 1000 * (hMax ts - h) / (hMax ts - hWarn ts)

/-- The cooling share: K_COOL with the blowers reported OK, otherwise K_COOL_FAIL (R61). -/
def coolShare (s : State) : Nat :=
  match s.brake.status with
  | some t => if t.blowerOk then kCool s.tables else kCoolFail s.tables
  | none => kCoolFail s.tables

/-- The heat after one heat period (R61). -/
def nextHeat (s : State) : Nat :=
  min (s.brake.heat + s.brake.aLast * s.slide.vRef / 18 - s.brake.heat * coolShare s / 65536)
    Config.maxU32

/-- Recompute g from the held heat; a fall from 1000 sets THERMAL_DERATE (R62). -/
def recomputeG (s : State) : State :=
  let g := thermalFactor s.tables s.brake.heat
  let s1 : State := { s with brake := { s.brake with g := g } }
  if s.brake.g = 1000 ∧ g < 1000 then raise .thermalDerate s1 else s1

/-- The heat timer is due. -/
def heatDue (s : State) : Bool := Config.periodMs ≤ s.brake.heatElapsed

/-- The heat timer's expiry (R61), if it is due; while HEAT is not LOADED it leaves H and g as they are. -/
def heatExpiry (s : State) : State :=
  if heatDue s then
    let s1 : State := { s with brake := { s.brake with heatElapsed := 0 } }
    if s.tables.heat.loaded then
      recomputeG { s1 with brake := { s1.brake with heat := nextHeat s } }
    else s1
  else s

/-! ## The commands of this unit -/

/-- TRACTION_STATUS (R49). -/
def execTractionStatus (payload : List Byte) (s : State) : Result := event s (handleTraction payload)

/-- SETUP_TIMER_EXPIRY (R52). -/
def execSetupTimerExpiry (s : State) : Result := event s setupExpiry

/-- IDLE_TIMER_EXPIRY (R53). -/
def execIdleTimerExpiry (s : State) : Result := event s idleExpiry

/-- HEAT_PERIOD (R61, R62). -/
def execHeatPeriod (s : State) : Result := event s heatExpiry

end Sys2Proof.Machine
end

