-- ==== Sys2Proof/Machine/AirChannel.lean ====
section
/-! DEFINITION. Air Channel (chapter 5): valve status, VALVE_LOST and the secure check. -/

namespace Sys2Proof.Machine

/-- The record of a truck. -/
def getTruck (s : State) : Truck → TruckRecord
  | .t1 => s.air.truck1
  | .t2 => s.air.truck2

/-- Replace the record of a truck. -/
def setTruck (s : State) (t : Truck) (r : TruckRecord) : State :=
  match t with
  | .t1 => { s with air := { s.air with truck1 := r } }
  | .t2 => { s with air := { s.air with truck2 := r } }

/-- Set a truck's condition to LOST with a cause; leaving CLEAR sets the flag and delivers the trigger
(R90, R91). -/
def loseValve (t : Truck) (cause : ValveCondition) (s : State) : State :=
  let r := getTruck s t
  let s1 := setTruck s t { r with condition := cause }
  if r.condition = .clear then trigger .valveLost (raise .valveLost s1) else s1

/-- Handle a VALVE_STATUS (R89, R90). -/
def handleValve (t : Truck) (payload : List Byte) (s : State) : State :=
  match readValve payload with
  | none => s
  | some (pressure, fault) =>
    let s1 := setTruck s t { getTruck s t with held := true, pressure := pressure, fault := fault }
    if fault then loseValve t .fault s1
    else setTruck s1 t { getTruck s1 t with condition := .clear }

/-- The liveness expiry of a truck's valve node (R90). -/
def valveNodeLost (t : Truck) (s : State) : State := loseValve t .link s

/-! ## The secure check (R96) -/

/-- The role of a truck's valve node. -/
def valveRole : Truck → Role
  | .t1 => .valveT1
  | .t2 => .valveT2

/-- Is the node that holds a role LIVE? -/
def roleLive (s : State) (r : Role) : Bool :=
  match binding s.tables r with
  | some i => (s.link.nodes.getD i NodeRuntime.fresh).liveness = .live
  | none => false

/-- The STANDSTILL item. -/
def standstillItem (s : State) : Bool := s.air.standstill.reached 5000

/-- The VALVE item of a truck. -/
def valveItem (s : State) (t : Truck) : Bool :=
  let r := getTruck s t
  roleLive s (valveRole t) && r.condition = .clear && r.held && !r.fault

/-- The PRESSURE item of a truck. -/
def pressureItem (s : State) (t : Truck) : Bool := secureKpa s.tables ≤ (getTruck s t).pressure

/-- The failing items as the byte that NOT_SECURED carries: bits 0 to 4 STANDSTILL, VALVE_1, VALVE_2,
PRESSURE_1, PRESSURE_2; 0 when the check passes. -/
def failingItems (s : State) : Nat :=
  (!standstillItem s).toNat + 2 * (!valveItem s .t1).toNat + 4 * (!valveItem s .t2).toNat
    + 8 * (!pressureItem s .t1).toNat + 16 * (!pressureItem s .t2).toNat

/-- VALVE_STATUS (R89). -/
def execValveStatus (t : Truck) (payload : List Byte) (s : State) : Result :=
  event s (handleValve t payload)

end Sys2Proof.Machine
end

