-- ==== Sys2Proof/Machine/DiscreteLines.lean ====
section
/-! DEFINITION. Line and Flag Unit, the input lines (chapter 8, Inputs). -/

namespace Sys2Proof.Machine

/-- Replace one input record. -/
def setInput (s : State) (n : Fin 6) (r : InputRecord) : State :=
  { s with lines := { s.lines with inputs := s.lines.inputs.set n r } }

/-- The electrical level of a pin read through the line's polarity (R147). -/
def presentLevel (s : State) (n : Fin 6) (pin : Bool) : Bool :=
  if lineActiveLow s.tables n then !pin else pin

/-- Does an accepted transition to this level match the line's edge mode (R149)? -/
def edgeMatches (ts : Tables) (n : Fin 6) (active : Bool) : Bool :=
  match lineEdgeMode ts n with
  | 1 => active
  | 2 => !active
  | 3 => true
  | _ => false

/-- The edge results of an accepted transition (R149, step 2). -/
def edgeResults (n : Fin 6) (s : State) : State :=
  trigger (.discreteEdge n) (raise .discreteEdge
    (setInput s n { s.lines.inputs.get n with edge := true }))

/-- An accepted transition's delivery to the line's consumer (R149, step 3). -/
def deliverLine (n : Fin 6) (active : Bool) (s : State) : State :=
  match n with
  | 0 => evalEmergency (if active then setLatch s else s)
  | 1 => if active then raise .penalty s else s
  | 2 => if active then enterCutout s else leaveCutout s
  | _ => s

/-- Accept the present level of a line (R148, R149). -/
def acceptLine (n : Fin 6) (s : State) : State :=
  let r := s.lines.inputs.get n
  let s1 := setInput s n { r with accepted := r.present, debounce := .stopped }
  let s2 := if edgeMatches s.tables n r.present then edgeResults n s1 else s1
  deliverLine n r.present s2

/-- Compare a line's present level with its accepted level (R147): with debounce 0 a difference is accepted
at once (R148), otherwise the debounce timer is started or restarted from zero; equality stops it. -/
def compareLine (n : Fin 6) (s : State) : State :=
  let r := s.lines.inputs.get n
  if r.present = r.accepted then setInput s n { r with debounce := .stopped }
  else if lineDebounce s.tables n = 0 then acceptLine n s
  else setInput s n { r with debounce := .running 0 }

/-- A pin's electrical level changes (R147); a level that is already there is no change. -/
def changePin (n : Fin 6) (high : Bool) (s : State) : State :=
  let r := s.lines.inputs.get n
  if r.pin = high then s
  else compareLine n (setInput s n { r with pin := high, present := presentLevel s n high })

/-- A line's debounce timer is due. -/
def debounceDue (s : State) (n : Fin 6) : Bool :=
  (s.lines.inputs.get n).debounce.reached (lineDebounce s.tables n)

/-- A debounce timer's expiry (R148), if it is due. -/
def debounceExpired (n : Fin 6) (s : State) : State := if debounceDue s n then acceptLine n s else s

/-- What a successful DISCRETE write does to one written line (R150); `old` holds the tables before it. -/
def rewriteLine (old : Tables) (s : State) (n : Fin 6) : State :=
  let s1 :=
    if lineActiveLow old n = lineActiveLow s.tables n then s
    else
      let r := s.lines.inputs.get n
      compareLine n (setInput s n { r with present := presentLevel s n r.pin })
  if lineDebounce old n = lineDebounce s.tables n then s1 else debounceExpired n s1

/-- Read one line after a reset (R157): its present level is read, and a level that differs from the
INACTIVE accepted level is taken as the comparison of R147 states. -/
def readLine (s : State) (n : Fin 6) : State :=
  let r := s.lines.inputs.get n
  compareLine n (setInput s n { r with present := presentLevel s n r.pin })

/-- Read all six lines after a reset, in ascending number. -/
def readLines (s : State) : State := six.foldl readLine s

/-- DISCRETE_PIN_CHANGE (R147).  While the part is held in power-on reset the pin's level alone changes. -/
def execDiscretePinChange (n : Fin 6) (high : Bool) (s : State) : Result :=
  if s.inReset then .next (setInput s n { s.lines.inputs.get n with pin := high })
  else event s (changePin n high)

/-- DEBOUNCE_EXPIRY (R148). -/
def execDebounceExpiry (n : Fin 6) (s : State) : Result := event s (debounceExpired n)

end Sys2Proof.Machine
end

