-- ==== Sys2Proof/Machine/Nodes.lean ====
section
/-! DEFINITION. Link Unit, the node table's runtime fields: acceptance, liveness and loss (chapter 7,
Sequence check and Liveness). -/

namespace Sys2Proof.Machine

/-- The runtime fields of node table entry `i`. -/
def getNode (s : State) (i : Nat) : NodeRuntime := s.link.nodes.getD i NodeRuntime.fresh

/-- Replace the runtime fields of an entry. -/
def setNode (s : State) (i : Nat) (r : NodeRuntime) : State :=
  { s with link := { s.link with nodes := s.link.nodes.set i r } }

/-- What the sequence check finds (R131). -/
inductive SequenceResult where
  | duplicate
  | accepted (gap : Bool)
deriving DecidableEq, Repr

/-- The sequence check (R131). -/
def sequenceCheck (last : Option Byte) (seq : Byte) : SequenceResult :=
  match last with
  | none => .accepted false
  | some x => if seq = x then .duplicate else .accepted (seq ≠ x + 1)

/-- The liveness timer of a node that becomes or stays LIVE: from zero, or stopped when the timeout is 0
(R142). -/
def livenessTimer (timeout : Nat) : Timer := if timeout = 0 then .stopped else .running 0

/-- Acceptance of a frame (R131, R142). -/
def acceptNode (timeout : Nat) (seq : Byte) (gap : Bool) (r : NodeRuntime) : NodeRuntime :=
  { r with
    lastSeq := some seq
    good := bump r.good
    gap := if gap then bump r.gap else r.gap
    liveness := .live
    timer := livenessTimer timeout }

/-- The loss of a node is delivered to the owner of its role (R143). -/
def deliverLoss (r : Role) (s : State) : State :=
  match r with
  | .cabA => silenceMonitor .cabA s
  | .cabB => silenceMonitor .cabB s
  | .dp => silenceMonitor .dp s
  | .axleConc => loseSpeed s
  | .radar => dropRadar s
  | .traction => tractionLost s
  | .valveT1 => valveNodeLost .t1 s
  | .valveT2 => valveNodeLost .t2 s
  | .locoComputer | .recorder | .tool | .other => s

/-- Is a node's liveness expiry due (R142)? -/
def livenessDue (s : State) (i : Nat) : Bool :=
  nodeUsed s.tables i && (getNode s i).liveness = .live && (getNode s i).timer.reached (nodeTimeout s.tables i)

/-- The node becomes LOST (R143): NODE_LOST, then the delivery to the owner of the role that the entry
binds. -/
def loseNode (i : Nat) (s : State) : State :=
  let s1 := raise .nodeLost
    (setNode s i { getNode s i with liveness := .lost, timer := .stopped })
  match nodeRole s.tables i with
  | some r => if binding s.tables r = some i then deliverLoss r s1 else s1
  | none => s1

/-- A node's liveness timer's expiry (R142, R143), if it is due. -/
def livenessExpired (i : Nat) (s : State) : State := if livenessDue s i then loseNode i s else s

/-- LIVENESS_EXPIRY (R143). -/
def execLivenessExpiry (i : Fin 32) (s : State) : Result := event s (livenessExpired i.val)

end Sys2Proof.Machine
end

