-- ==== Sys2Proof/Machine/BlendEngine.lean ====
section
/-! DEFINITION. Blend Engine (chapter 4): the seven stages, the setpoints, the snapshot and the report. -/

namespace Sys2Proof.Machine

/-! ## Stage 1: demanded effort (R68) -/

/-- F_dyn.  DESIGN CHOICE (log entry 33): in the fallback phases the formula stands, with HANDLE[0] as the table
has it. -/
def dynamicDemand (ts : Tables) (handle : Nat) : Nat := handlePermille ts handle * dbTotalMax ts / 1000

/-- F_auto. -/
def automaticDemand (ts : Tables) (reduction : Nat) : Nat := interp (curvePoints ts.auto) reduction

/-! ## Stage 2: axle limits (R69 to R71) -/

/-- An axle is available in a period (R69). -/
def available (speed : SpeedState) (a : AxleRecord) : Bool :=
  speed = .valid && match a.state with
    | .locked | .sensorFault | .isolated => false
    | .rolling | .suspect | .relief | .hold | .reapply => true

/-- The capability per axle (R69). -/
def capability (s : State) : Nat := interp (curvePoints s.tables.dbCurve) s.slide.vRef

/-- The number of available axles. -/
def availableCount (s : State) : Nat :=
  (s.slide.axles.toList.filter (available s.slide.speedState)).length

/-- The load correction of an axle for a direction (R70); 1000 for NEUTRAL. -/
def loadCorrection (ts : Tables) (direction : Byte) (i : Fin 6) : Nat :=
  if direction = 1 then param ts.axle (6 + i.val)
  else if direction = 2 then param ts.axle (12 + i.val)
  else 1000

/-- W_i (R70). -/
def axleLoad (ts : Tables) (direction : Byte) (i : Fin 6) : Nat :=
  wStatic ts * loadCorrection ts direction i / 1000

/-- The accepted level of SAND_FB is active: ADH_SANDED is used (R47). -/
def sanded (s : State) : Bool := (s.lines.inputs.get 3).accepted

/-- The adhesion cap of an axle (R70). -/
def adhesionCap (s : State) (direction : Byte) (i : Fin 6) : Nat :=
  interp (curvePoints (if sanded s then s.tables.adhSanded else s.tables.adhPlain)) s.slide.vRef
    * axleLoad s.tables direction i / 1000

/-- The limit L_i (R71). -/
def axleLimit (c f adhesion : Nat) : Nat := min (c * f / 1000) adhesion

/-- The cap K_i (R71). -/
def axleCap (s : State) (direction : Byte) (i : Fin 6) : Nat :=
  let a := s.slide.axles.get i
  if s.brake.state = .active && available s.slide.speedState a then
    axleLimit (capability s) a.f (adhesionCap s direction i) * s.brake.g / 1000
  else 0

/-! ## Stages 3 and 4: goal and water-filling (R72, R73) -/

/-- One axle of the set U: its index and its cap. -/
structure Share where
  axle : Fin 6
  cap : Nat
deriving DecidableEq, Repr

/-- The tentative shares of a pass: each axle of U gets q, the first r of them 1 more. -/
def tentative (q : Nat) : Nat → List Share → List (Share × Nat)
  | _, [] => []
  | 0, u :: us => (u, q) :: tentative q 0 us
  | r + 1, u :: us => (u, q + 1) :: tentative q r us

/-- Give goals to the axles of a list. -/
def giveGoals (goals : Six Nat) (xs : List (Share × Nat)) : Six Nat :=
  xs.foldl (fun g x => g.set x.1.axle x.2) goals

/-- The passes of the water-filling (R73); each pass that does not end it removes an axle from U, so `fuel`
passes suffice for a set of `fuel` axles. -/
def fillPasses : Nat → List Share → Nat → Six Nat → Six Nat
  | 0, _, _, goals => goals
  | fuel + 1, u, r, goals =>
    if u.length = 0 ∨ r = 0 then goals
    else
      let t := tentative (r / u.length) (r % u.length) u
      if t.all (fun x => x.2 ≤ x.1.cap) then giveGoals goals t
      else
        let full := t.filter (fun x => x.1.cap ≤ x.2)
        let rest := t.filter (fun x => x.2 < x.1.cap)
        fillPasses fuel (rest.map Prod.fst) (r - (full.map (fun x => x.1.cap)).sum)
          (giveGoals goals (full.map (fun x => (x.1, x.1.cap))))

/-- The allocation of a goal among the axles (R73): U starts with the axles whose cap is above 0. -/
def waterFill (caps : Six Nat) (goal : Nat) : Six Nat :=
  fillPasses 6 ((six.map (fun i => Share.mk i (caps.get i))).filter (fun u => 0 < u.cap)) goal (Six.all 0)

/-! ## Stages 5 to 7: ramp, backfill, pressure (R74 to R79) -/

/-- The ramped effort of one axle (R74). -/
def ramp (ts : Tables) (emergency : Bool) (old goal : Nat) : Nat :=
  if old ≤ goal then min goal (old + rampUp ts)
  else max goal (old - (if emergency then rampEmerg ts else rampDown ts))

/-- The effort of one axle: the ramp, then the hard cap (R75). -/
def axleEffort (ts : Tables) (emergency : Bool) (old goal cap : Nat) : Nat :=
  min (ramp ts emergency old goal) cap

/-- A quotient rounded up (chapter 0, Arithmetic); 0 for a divisor of 0, which validation excludes. -/
def ceilDiv (x y : Nat) : Nat := if y = 0 then 0 else (x + y - 1) / y

/-- The pressure of a truck outside an emergency period (R78). -/
def servicePressure (ts : Tables) (pInd share factor : Nat) : Nat :=
  min (bcMax ts) (max pInd (ceilDiv (share * 1000) (kBc ts))) * factor / 1000

/-- Has a truck an axle in LOCKED? -/
def truckLocked (s : State) : Truck → Bool
  | .t1 => s.slide.axles.a1.state = .locked || s.slide.axles.a2.state = .locked
      || s.slide.axles.a3.state = .locked
  | .t2 => s.slide.axles.a4.state = .locked || s.slide.axles.a5.state = .locked
      || s.slide.axles.a6.state = .locked

/-- The pressure of a truck in an emergency period (R79). -/
def emergencyPressure (s : State) (t : Truck) : Nat :=
  let f := truckFactor s t
  bcEmerg s.tables * (if truckLocked s t then f else max f 500) / 1000

/-- Everything one blend period computes, from the state as read at its start (R66 to R79): the period
record, the efforts and the pressures. -/
structure Computed where
  record : PeriodRecord
  e : Six Nat
  p1 : Nat
  p2 : Nat
deriving DecidableEq, Repr

/-- The seven stages (R66 to R79). -/
def compute (s : State) : Computed :=
  let ts := s.tables
  let d := activeDemand s
  let emergency := s.authority.latch
  let fDyn := dynamicDemand ts d.handle
  let fAuto := automaticDemand ts (d.reduction.getD 0)
  let fTarget := max fDyn fAuto
  let caps := Six.ofFn (axleCap s d.direction)
  let goal := if emergency then 0 else min fTarget (min caps.sum (dbTotalMax ts))
  let goals := waterFill caps goal
  let e := Six.ofFn (fun i => axleEffort ts emergency (s.blend.e.get i) (goals.get i) (caps.get i))
  let basis := if s.brake.shortfall then s.brake.aLast else e.sum
  let fBack := if d.bailOff then 0 else fAuto - basis
  let f1 := (fBack + 1) / 2
  let f2 := fBack / 2
  let pInd := d.independent.getD 0
  let fT1 := truckFactor s .t1
  let fT2 := truckFactor s .t2
  { record :=
      { at_ := s.control.localMs
        latch := emergency
        fDyn := fDyn
        fAuto := fAuto
        fTarget := fTarget
        capability := capability s
        capabilitySum := capability s * availableCount s
        caps := caps
        goal := goal
        goals := goals
        fBack := fBack
        f1 := f1
        f2 := f2
        fT1 := fT1
        fT2 := fT2
        sanded := sanded s }
    e := e
    p1 := if emergency then emergencyPressure s .t1 else servicePressure ts pInd f1 fT1
    p2 := if emergency then emergencyPressure s .t2 else servicePressure ts pInd f2 fT2 }

/-- Store the results of a period (R80). -/
def storeComputed (c : Computed) (s : State) : State :=
  { s with blend := { s.blend with e := c.e, p1 := c.p1, p2 := c.p2, record := some c.record } }

/-! ## Setpoints (R82, R83, R86) -/

/-- Hand a setpoint for the node that holds a role to the E-port queue; without such a node, which
validation excludes in SERVICE, there is no frame. -/
def sendSetpoint (r : Role) (cls : Byte) (payload : List Byte) (s : State) : State :=
  match roleAddress s.tables r with
  | some a => handOver s .e ⟨a, cls, payload⟩
  | none => s

/-- One DB_SETPOINT and two BC_SETPOINT frames, from the commanded values as they stand. -/
def sendSetpoints (emergency : Bool) (s : State) : State :=
  let s1 := sendSetpoint .traction Config.clsDbSetpoint (dbSetpointPayload (excitation s.brake) s.blend.e) s
  let s2 := sendSetpoint .valveT1 Config.clsBcSetpoint (bcSetpointPayload 1 s.blend.p1 emergency) s1
  sendSetpoint .valveT2 Config.clsBcSetpoint (bcSetpointPayload 2 s.blend.p2 emergency) s2

/-- The engine's part of leaving SERVICE (R86): timer stopped, efforts 0, pressures BC_MAX, final
setpoints. -/
def finalSetpoints (s : State) : State :=
  sendSetpoints false
    { s with blend := { s.blend with
        timer := .stopped
        e := Six.all 0
        p1 := bcMax s.tables
        p2 := bcMax s.tables } }

/-! ## Snapshot (R84) -/

/-- The achieved effort of an axle in the latest traction status, 0 if none is held. -/
def achievedEffort (s : State) (i : Fin 6) : Nat :=
  match s.brake.status with
  | some t => t.effort.get i
  | none => 0

/-- Is a value larger than its field can hold? -/
def overflows (width v : Nat) : Bool := 2 ^ width ≤ v

/-- A value limited to its field (R84). -/
def saturate (width v : Nat) : Nat := min v (2 ^ width - 1)

/-- Does any field of the snapshot saturate (R84)? -/
def snapshotSaturates (s : State) (c : Computed) (d : ActiveDemand) : Bool :=
  overflows 8 (d.reduction.getD 0) || overflows 10 (d.independent.getD 0) || overflows 8 d.handle
    || overflows 8 c.record.fTarget || overflows 8 c.record.goal || overflows 8 c.record.fBack
    || overflows 16 s.slide.vRef || overflows 10 s.brake.g
    || six.any (fun i => overflows 16 (s.slide.axles.get i).v || overflows 10 (s.slide.axles.get i).f
      || overflows 8 (c.e.get i) || overflows 8 (achievedEffort s i))
    || overflows 10 c.p1 || overflows 10 s.air.truck1.pressure
    || overflows 10 c.p2 || overflows 10 s.air.truck2.pressure

/-- The snapshot of a period (R84); `s` is the state as the engine read it, so DB state and g are those
read. -/
def formSnapshot (s : State) (c : Computed) : Snapshot :=
  let d := activeDemand s
  { at_ := s.control.localMs
    active := s.authority.active
    phase := s.authority.phase
    reduction := saturate 8 (d.reduction.getD 0)
    independent := saturate 10 (d.independent.getD 0)
    handle := saturate 8 d.handle
    emergency := d.emergency
    bailOff := d.bailOff
    sandFlag := d.sand
    direction := d.direction
    fTarget := saturate 8 c.record.fTarget
    goal := saturate 8 c.record.goal
    fBack := saturate 8 c.record.fBack
    vRef := saturate 16 s.slide.vRef
    refSource := s.slide.refSource
    speedState := s.slide.speedState
    dbState := s.brake.state
    latch := s.authority.latch
    sandRequest := s.slide.sandRequest
    g := saturate 10 s.brake.g
    axles := Six.ofFn (fun i =>
      { v := saturate 16 (s.slide.axles.get i).v
        state := (s.slide.axles.get i).state
        f := saturate 10 (s.slide.axles.get i).f
        e := saturate 8 (c.e.get i)
        achieved := saturate 8 (achievedEffort s i) })
    p1 := saturate 10 c.p1
    achieved1 := saturate 10 s.air.truck1.pressure
    p2 := saturate 10 c.p2
    achieved2 := saturate 10 s.air.truck2.pressure
    saturated := snapshotSaturates s c d }

/-! ## Report (R85) -/

/-- BRAKE_REPORT payload (47 bytes); `r` is the state as the engine read it, whose DB state, shortfall latch
and sand request the report carries with the values of the period. -/
def reportPayload (r : State) (c : Computed) : List Byte :=
  w4 r.control.localMs ++ q1 (activeCode r.authority.active) ++ q1 (phaseCode r.authority.phase)
    ++ q1 (r.authority.latch.toNat + 2 * r.brake.shortfall.toNat + 4 * r.slide.sandRequest.toNat)
    ++ q2 c.record.fTarget ++ q2 c.record.goal ++ q2 c.e.sum ++ q2 r.brake.aLast ++ q2 c.record.fBack
    ++ q2 c.p1 ++ q2 c.p2 ++ q2 r.air.truck1.pressure ++ q2 r.air.truck2.pressure
    ++ q2 c.record.fT1 ++ q2 c.record.fT2 ++ q2 r.slide.vRef
    ++ q1 (refSourceCode r.slide.refSource + 2 * speedStateCode r.slide.speedState)
    ++ q1 (dbStateCode r.brake.state) ++ q2 r.brake.g
    ++ r.slide.axles.toList.flatMap (fun a => q1 (axleStateCode a.state))
    ++ c.e.toList.flatMap q1

/-- Count a period toward the report, and hand over the report of every fifth (R85). -/
def reportStep (r : State) (c : Computed) (s : State) : State :=
  let d := s.blend.divider + 1
  if d < 5 then { s with blend := { s.blend with divider := d } }
  else
    let s1 : State := { s with blend := { s.blend with divider := 0 } }
    if reportNode s.tables = 0 then s1
    else handOver s1 .c
      ⟨BitVec.ofNat 8 (reportNode s.tables), Config.clsBrakeReport, reportPayload r c⟩

/-! ## The blend period (R65) -/

/-- The blend-period timer is due. -/
def blendDue (s : State) : Bool := s.control.mode = .service && s.blend.timer.reached Config.periodMs

/-- One blend period: results, hand-off, setpoints, snapshot, report (R65, R80 to R85). -/
def blendPeriod (s : State) : State :=
  let c := compute s
  let s1 := storeComputed c { s with blend := { s.blend with timer := .running 0 } }
  let s2 := handOff c.record.fTarget c.record.capabilitySum c.e s1
  let s3 := sendSetpoints c.record.latch s2
  reportStep s c (takeSnapshot s3 (formSnapshot s c))

/-- The blend-period timer's expiry, if it is due. -/
def blendExpiry (s : State) : State := if blendDue s then blendPeriod s else s

/-- BLEND_PERIOD (R65). -/
def execBlendPeriod (s : State) : Result := event s blendExpiry

end Sys2Proof.Machine
end

