-- ==== Sys2Proof/Machine/TableStore.lean ====
section
/-! DEFINITION. Table Store (chapter 10): entry layouts, write ranges, TABLE_WRITE with its effects on
derived state, TABLE_READ and the checks of validation. -/

namespace Sys2Proof.Machine

/-! ## Entry layouts (chapter 11) and write ranges (R170) -/

/-- The number of entries of a table. -/
def tableEntries : TableId → Nat
  | .nodes => 32
  | .classSets => 512
  | .handle => 256
  | .auto | .dbCurve | .adhPlain | .adhSanded => 17
  | .axle => 18
  | .blend => 10
  | .heat => 4
  | .db => 5
  | .slide => 20
  | .source => 4
  | .recorder => 5
  | .patterns => 8
  | .discrete => 6
  | .reporting => 3

/-- The widths in bytes of the fields of an entry of a table. -/
def fieldWidths : TableId → List Nat
  | .nodes => [1, 1, 1, 1, 2]
  | .classSets => [1]
  | .handle => [2]
  | .auto | .dbCurve | .adhPlain | .adhSanded => [2, 2]
  | .axle => [2]
  | .blend => [2]
  | .heat => [4]
  | .db => [2]
  | .slide => [2]
  | .source => [4]
  | .recorder => [4]
  | .patterns => [1, 1, 1, 4, 2]
  | .discrete => [1, 1, 1]
  | .reporting => [4]

/-- The entry size of a table in bytes. -/
def entrySize (id : TableId) : Nat := (fieldWidths id).sum

/-- Does a value lie in a..b? -/
def within (a b v : Nat) : Bool := a ≤ v && v ≤ b

/-- The write range of a one-field entry of the BLEND table. -/
def blendRange (entry v : Nat) : Bool :=
  match entry with
  | 0 => within 0 720 v
  | 1 | 2 | 3 => within 1 120 v
  | 4 => within 1 1000 v
  | 5 | 6 => within 0 1000 v
  | 7 => within 1 255 v
  | 8 => within 1 600 v
  | _ => within 0 1000 v

/-- The write range of a one-field entry of the SLIDE table. -/
def slideRange (entry v : Nat) : Bool :=
  match entry with
  | 0 => within 20 500 v
  | 1 | 2 => within 5 1000 v
  | 3 => within 0 1 v
  | 4 | 5 => within 0 2000 v
  | 6 | 7 => within 0 500 v
  | 8 => within 0 10000 v
  | 9 => within 2 8 v
  | 10 | 11 => within 1 1000 v
  | 12 => within 500 30000 v
  | 13 | 14 => within 0 1000 v
  | 15 => within 0 5000 v
  | 16 => within 100 5000 v
  | 17 => within 1000 60000 v
  | 18 => within 1 6 v
  | _ => within 0 30000 v

/-- The write range of a one-field entry of the DB table. -/
def dbRange (entry v : Nat) : Bool :=
  match entry with
  | 0 => within 100 10000 v
  | 1 => within 100 60000 v
  | 2 | 3 => within 0 1000 v
  | _ => within 100 10000 v

/-- The write range of a one-field entry of the HEAT table. -/
def heatRange (entry v : Nat) : Bool :=
  match entry with
  | 0 => within 0 4294967294 v
  | 1 => within 1 4294967295 v
  | _ => within 0 65535 v

/-- The write range of a one-field entry of the SOURCE table. -/
def sourceRange (entry v : Nat) : Bool :=
  match entry with
  | 0 => within 1 3 v
  | 1 => within 2 16 v
  | 2 => within 100 60000 v
  | _ => within 10000 120000 v

/-- The write range of a one-field entry of the RECORDER table; a set holds no bit above kind 22. -/
def recorderRange (entry v : Nat) : Bool :=
  match entry with
  | 0 => within 0 255 v
  | 1 => within 1 10 v
  | 2 | 3 => v < 2 ^ 23
  | _ => within 0 1 v

/-- The write range of a one-field entry of the REPORTING table; NOTICE_ENABLE holds no bit above flag
18. -/
def reportingRange (entry v : Nat) : Bool :=
  match entry with
  | 1 => v < 2 ^ 19
  | _ => within 0 255 v

/-- The write range of a NODES entry.  An unused entry may also hold address 0, and role 0 (log entry 9: the
power-on contents of an unused entry pass validation). -/
def nodeRange (fields : List Nat) : Bool :=
  let used := fields.getD 0 0
  let address := fields.getD 1 0
  let role := fields.getD 3 0
  let timeout := fields.getD 4 0
  within 0 1 used && (within 1 254 address || (used = 0 && address = 0)) && within 0 1 (fields.getD 2 0)
    && (within 1 12 role || (used = 0 && role = 0)) && (timeout = 0 || within 20 5000 timeout)

/-- Every field of an entry lies in its write range (R170). -/
def entryInRange (id : TableId) (entry : Nat) (fields : List Nat) : Bool :=
  let v := fields.getD 0 0
  match id with
  | .nodes => nodeRange fields
  | .classSets => within 0 1 v
  | .handle => within 0 65535 v
  | .auto | .dbCurve | .adhPlain | .adhSanded =>
    if entry = 0 then within 0 16 v else within 0 65535 v && within 0 65535 (fields.getD 1 0)
  | .axle => if entry < 6 then within 900 1270 v else within 500 1500 v
  | .blend => blendRange entry v
  | .heat => heatRange entry v
  | .db => dbRange entry v
  | .slide => slideRange entry v
  | .source => sourceRange entry v
  | .recorder => recorderRange entry v
  | .patterns => within 0 1 v && within 0 2 (fields.getD 1 0) && within 0 255 (fields.getD 2 0)
      && fields.getD 3 0 < 2 ^ 32 && within 0 65535 (fields.getD 4 0)
  | .discrete => within 0 1 v && within 0 100 (fields.getD 1 0) && within 0 3 (fields.getD 2 0)
  | .reporting => reportingRange entry v

/-- Read the fields of one entry from bytes. -/
def readFields : List Nat → List Byte → List Nat
  | [], _ => []
  | w :: ws, bytes => beValue (bytes.take w) :: readFields ws (bytes.drop w)

/-- The fields of an entry as they are stored: the two ignored bytes of a curve's entry 0 are held as 0. -/
def normalEntry (id : TableId) (entry : Nat) (fields : List Nat) : List Nat :=
  match id with
  | .auto | .dbCurve | .adhPlain | .adhSanded => if entry = 0 then [fields.getD 0 0, 0] else fields
  | _ => fields

/-- The entries that the value bytes of a write spell, from entry `first` on. -/
def readEntries (id : TableId) : Nat → Nat → List Byte → List (List Nat)
  | 0, _, _ => []
  | n + 1, first, bytes =>
    normalEntry id first (readFields (fieldWidths id) (bytes.take (entrySize id)))
      :: readEntries id n (first + 1) (bytes.drop (entrySize id))

/-- Do all entries of a list, the first of them numbered `first`, lie in their write ranges? -/
def allInRange (id : TableId) : Nat → List (List Nat) → Bool
  | _, [] => true
  | first, x :: xs => entryInRange id first x && allInRange id (first + 1) xs

/-- Replace entries from `first` on. -/
def replaceEntries (old : List (List Nat)) (first : Nat) (new : List (List Nat)) : List (List Nat) :=
  old.take first ++ new ++ old.drop (first + new.length)

/-! ## What a write does to derived state (R172) -/

/-- The written fields of a node entry that make it another node (R144). -/
def sameNode (old new : Tables) (i : Nat) : Bool :=
  nodeUsed old i = nodeUsed new i && nodeAddress old i = nodeAddress new i && nodePort old i = nodePort new i
    && nodeRole old i = nodeRole new i

/-- A new liveness timeout on an entry that is otherwise the same (R144). -/
def retime (timeout : Nat) (r : NodeRuntime) : NodeRuntime :=
  if r.liveness = .live then
    { r with timer := if timeout = 0 then .stopped else r.timer.startIfStopped }
  else r

/-- What a NODES write does to one written entry (R144). -/
def rewriteNode (old : Tables) (s : State) (i : Nat) : State :=
  if !sameNode old s.tables i then setNode s i NodeRuntime.fresh
  else if nodeTimeout old i = nodeTimeout s.tables i then s
  else livenessExpired i (setNode s i (retime (nodeTimeout s.tables i) (getNode s i)))

/-- The node bound to a role, with its address and port. -/
def boundNode (ts : Tables) (r : Role) : Option (Nat × Nat × Port) :=
  (binding ts r).map (fun i => (i, nodeAddress ts i, nodePort ts i))

/-- A monitor whose bound node changed starts again from SILENT (R3). -/
def rebindMonitor (old : Tables) (s : State) (k : Source) : State :=
  if boundNode old (sourceRole k) = boundNode s.tables (sourceRole k) then s else silenceMonitor k s

/-- The three sources in order. -/
def sources : List Source := [.cabA, .cabB, .dp]

/-- NODES: the runtime fields of each written entry (R144), then the source monitors (R3). -/
def afterNodesWrite (old : Tables) (first count : Nat) (s : State) : State :=
  sources.foldl (rebindMonitor old) ((List.range' first count).foldl (rewriteNode old) s)

/-- SOURCE: a running HOLD or emergency reset timer against its new limit (R13, R20), and the reset timer's
start when the table becomes LOADED. -/
def afterSourceWrite (s : State) : State := emergencyExpiry (evalEmergency (holdExpiry s))

/-- SLIDE: running episode, stale and sand hold timers against their new limits, and the sand conditions
(R28, R39, R46). -/
def afterSlideWrite (s : State) : State :=
  evalSand (sandExpiry (staleExpiry (six.foldl (fun s i => episodeExpiry i s) s)))

/-- The lines that a DISCRETE write names. -/
def writtenLines (first count : Nat) : List (Fin 6) :=
  six.filter (fun n => first ≤ n.val && n.val < first + count)

/-- The effect of a written table on the blocks that keep state derived from it (R172). -/
def afterWrite (id : TableId) (old : Tables) (first count : Nat) (s : State) : State :=
  match id with
  | .nodes => afterNodesWrite old first count s
  | .axle => recomputeCircumferences s
  | .source => afterSourceWrite s
  | .slide => afterSlideWrite s
  | .heat => recomputeG s
  | .discrete => (writtenLines first count).foldl (rewriteLine old) s
  | .classSets | .handle | .auto | .dbCurve | .adhPlain | .adhSanded | .blend | .db | .recorder
  | .patterns | .reporting => s

/-- Does a deferred notice of this event stand already? -/
def noticeFormed (s : State) : Bool :=
  match s.deferred with
  | some (_ :: _) => true
  | _ => false

/-- REPORTING: a pending notice is formed when NOTICE_NODE is now non-zero (R154), after the write's
CONFIG_CHANGED rise; the notice that this rise itself formed is that notice. -/
def afterReporting (id : TableId) (s : State) : State :=
  if id = .reporting && s.lines.noticePending && !noticeFormed s then notify s else s

/-- Write the entries, set LOADED, act on derived state, set CONFIG_CHANGED (R171, R172). -/
def writeTable (id : TableId) (first : Nat) (new : List (List Nat)) (s : State) : State :=
  let t := getTable s.tables id
  let written := setTable s.tables id ⟨replaceEntries t.entries first new, true⟩
  afterReporting id (raise .configChanged
    (afterWrite id s.tables first new.length { s with tables := written }))

/-! ## Validation (R177) -/

/-- The check names of R177 in the order in which chapter 11 numbers them. -/
inductive Check where
  | notLoaded
  | fieldRange
  | ownAddress
  | duplicateAddress
  | duplicateRole
  | requiredRole
  | handleRange
  | curvePoints
  | curveRange
  | curveOrder
  | pressureLimit
  | order
  | roleAbsent
  | preRange
deriving DecidableEq, Repr

/-- The code of a check. -/
def checkCode : Check → Nat
  | .notLoaded => 0
  | .fieldRange => 1
  | .ownAddress => 2
  | .duplicateAddress => 3
  | .duplicateRole => 4
  | .requiredRole => 5
  | .handleRange => 6
  | .curvePoints => 7
  | .curveRange => 8
  | .curveOrder => 9
  | .pressureLimit => 10
  | .order => 11
  | .roleAbsent => 12
  | .preRange => 13

/-- A failed check: table, entry or none, check. -/
structure Failure where
  table : TableId
  entry : Option Nat
  check : Check
deriving DecidableEq, Repr

/-- The first failure of a list of conditions, each with what it reports. -/
def firstFailure : List (Bool × Option Nat × Check) → Option (Option Nat × Check)
  | [] => none
  | (ok, entry, check) :: rest => if ok then firstFailure rest else some (entry, check)

/-- The first entry out of its write range, counted from `first`. -/
def rangeFailure (id : TableId) : Nat → List (List Nat) → Option Nat
  | _, [] => none
  | first, x :: xs => if entryInRange id first x then rangeFailure id (first + 1) xs else some first

/-- The three checks of one used NODES entry. -/
def nodeChecks (own : Byte) (ts : Tables) (i : Nat) : List (Bool × Option Nat × Check) :=
  let lower := (List.range i).filter (nodeUsed ts)
  if nodeUsed ts i then
    [ (nodeAddress ts i ≠ own.toNat, some i, .ownAddress),
      (!lower.any (fun j => nodeAddress ts j = nodeAddress ts i), some i, .duplicateAddress),
      (match nodeRole ts i with
        | some r => !(r.singleton && lower.any (fun j => nodeRole ts j = some r))
        | none => true, some i, .duplicateRole) ]
  else []

/-- Is a role held by a used entry? -/
def roleHeld (ts : Tables) (r : Role) : Bool := (binding ts r).isSome

/-- The ranges of a curve's points. -/
def curveLimits : TableId → Nat × Nat
  | .auto => (255, 720)
  | .dbCurve => (20000, 120)
  | _ => (20000, 1000)

/-- The checks of a curve's points from point `n` on; `prev` is the previous point's x. -/
def pointChecks (xMax yMax : Nat) : Nat → Option Nat → List (Nat × Nat) → List (Bool × Option Nat × Check)
  | _, _, [] => []
  | n, prev, (x, y) :: rest =>
    (x ≤ xMax && y ≤ yMax, some n, .curveRange)
      :: (match prev with
        | some p => p < x
        | none => true, some n, .curveOrder)
      :: pointChecks xMax yMax (n + 1) (some x) rest

/-- The checks of a curve table. -/
def curveChecks (id : TableId) (t : Table) : List (Bool × Option Nat × Check) :=
  (within 2 16 (param t 0), some 0, .curvePoints)
    :: pointChecks (curveLimits id).1 (curveLimits id).2 1 none (curvePoints t)

/-- A table's own checks, in order (R177, step 3). -/
def ownChecks (own : Byte) (ts : Tables) : TableId → List (Bool × Option Nat × Check)
  | .nodes =>
    (List.range 32).flatMap (nodeChecks own ts)
      ++ [(roleHeld ts .axleConc && roleHeld ts .valveT1 && roleHeld ts .valveT2 && roleHeld ts .traction,
        none, .requiredRole)]
  | .handle => (List.range 256).map (fun i => (decide (param ts.handle i ≤ 1000), some i, .handleRange))
  | .auto => curveChecks .auto ts.auto
  | .dbCurve => curveChecks .dbCurve ts.dbCurve
  | .adhPlain => curveChecks .adhPlain ts.adhPlain
  | .adhSanded => curveChecks .adhSanded ts.adhSanded
  | .blend =>
    [(bcMax ts ≤ 600, some 5, .pressureLimit), (bcEmerg ts ≤ bcMax ts, some 6, .pressureLimit)]
  | .heat => [(hWarn ts < hMax ts, some 1, .order)]
  | .db => [(shortPermille ts ≤ shortClearPermille ts, some 3, .order)]
  | .slide =>
    [(slipAbs1 ts < slipAbs2 ts, some 5, .order), (slipRel1 ts < slipRel2 ts, some 7, .order)]
  | .source =>
    [(match preferred ts with
      | some k => roleHeld ts (sourceRole k)
      | none => false, some 0, .roleAbsent)]
  | .recorder => [(within 16 240 (preLimit ts), some 0, .preRange)]
  | .classSets | .axle | .patterns | .discrete | .reporting => []

/-- The first failure of one table (R177): LOADED, field ranges, own checks. -/
def tableFailure (own : Byte) (ts : Tables) (id : TableId) : Option (Option Nat × Check) :=
  let t := getTable ts id
  if !t.loaded then some (none, .notLoaded)
  else match rangeFailure id 0 t.entries with
    | some i => some (some i, .fieldRange)
    | none => firstFailure (ownChecks own ts id)

/-- The walk over tables in id order; it stops at the first failure. -/
def walkTables (own : Byte) (ts : Tables) : List TableId → Option Failure
  | [] => none
  | id :: rest =>
    match tableFailure own ts id with
    | some (entry, check) => some ⟨id, entry, check⟩
    | none => walkTables own ts rest

/-- Validation (R177): the first failure over all seventeen tables. -/
def validate (own : Byte) (ts : Tables) : Option Failure := walkTables own ts tableIds

end Sys2Proof.Machine
end

