-- ==== Sys2Proof/Machine/ModeControl.lean ====
section
/-! DEFINITION. Mode Control (chapter 10): leaving and entering SERVICE, restart and power-on reset. -/

namespace Sys2Proof.Machine

/-- Set the device mode. -/
def setMode (m : Mode) (s : State) : State := { s with control := { s.control with mode := m } }

/-- A pending switch is cleared when the mode leaves SERVICE (R10). -/
def clearPendingSwitch (s : State) : State :=
  { s with authority := { s.authority with pendingSwitch := none } }

/-- SERVICE to MAINTENANCE, in the order of R175. -/
def leaveService (s : State) : State :=
  raise .configChanged
    (clearPendingSwitch (sealOnExit (finalSetpoints (brakeLeaveService (setMode .maintenance s)))))

/-- Is a whole frame a DB_SETPOINT or BC_SETPOINT? -/
def isSetpoint (raw : List Byte) : Bool :=
  byteAt raw 2 = Config.clsDbSetpoint || byteAt raw 2 = Config.clsBcSetpoint

/-- Saturating addition to a 32-bit counter. -/
def bumpBy (n k : Nat) : Nat := min (n + k) Config.maxU32

/-- Is the E-port transmitter sending a forwarded setpoint? -/
def sendingSetpoint (ps : PortState) : Bool :=
  match ps.transmitter with
  | .sending false raw _ => isSetpoint raw
  | .sending true _ _ | .idle => false

/-- Remove the setpoints of the C→E forward queue (R136, first point). -/
def purgeQueue (s : State) : State :=
  let ps := s.link.ePort
  let kept := ps.forward.filter (fun raw => !isSetpoint raw)
  countAt (setPort s .e { ps with forward := kept }) .c
    (fun k => { k with notPassed := bumpBy k.notPassed (ps.forward.length - kept.length) })

/-- Stop a forwarded setpoint that is being sent, with the opportunity that follows (R136, second
point). -/
def stopSetpoint (s : State) : State :=
  if sendingSetpoint s.link.ePort then
    opportunity (countAt s .c (fun k => { k with notPassed := bump k.notPassed })) .e 0
  else s

/-- C-port setpoints are removed and stopped at entry to SERVICE (R136). -/
def purgeSetpoints (s : State) : State := stopSetpoint (purgeQueue s)

/-- The Blend Engine's part of entering SERVICE (R65, R87). -/
def startBlend (s : State) : State :=
  { s with blend := { s.blend with timer := .running 0, divider := 0 } }

/-- A successful validation's effects (R178). -/
def enterService (s : State) : State :=
  raise .configChanged (purgeSetpoints (clearRing (startBlend (setMode .service s))))

/-! ## Restart (R179) -/

/-- The Demand Authority Unit's restart keeps the lock (R23). -/
def restartAuthority (a : Authority) : Authority := { Authority.reset with lock := a.lock }

/-- The Dynamic Brake Channel's restart keeps H, g and the heat timer (R64). -/
def restartBrake (b : Brake) : Brake :=
  { Brake.reset with heat := b.heat, g := b.g, heatElapsed := b.heatElapsed }

/-- The Recorder's restart keeps slots, numbering and counters (R126). -/
def restartRecorder (r : Recorder) : Recorder := { r with ring := [], divider := 0 }

/-- A port's restart (R146): queues emptied but for what is kept, counters and sequence 0, a frame being
sent completed. -/
def restartPort (kept : List OriginatedFrame) (ps : PortState) : PortState :=
  { PortState.reset with originated := kept, transmitter := ps.transmitter }

/-- The Link Unit's restart (R146); `kept` is the response to the RESTART. -/
def restartLink (kept : List OriginatedFrame) (l : Link) : Link :=
  { own := l.own
    nodes := List.replicate 32 NodeRuntime.fresh
    cPort := restartPort kept l.cPort
    ePort := restartPort [] l.ePort }

/-- A line after a reset, before it is read: the pin's level stands, all else as R157 states. -/
def resetInput (r : InputRecord) : InputRecord := { InputRecord.reset with pin := r.pin }

/-- The Line and Flag Unit after a reset, before the lines are read (R157). -/
def resetLines (l : Lines) : Lines := { Lines.reset with inputs := l.inputs.map resetInput }

/-- The Slide Control Unit's restart (R48): circumferences are recomputed from a LOADED AXLE table. -/
def restartSlide (s : State) : State :=
  let s1 : State := { s with slide := Slide.reset }
  if s.tables.axle.loaded then recomputeCircumferences s1 else s1

/-- Every block takes its restart state (R179), the lines are read anew (R157), and frames that remain are
sent (R140). -/
def applyRestart (kept : List OriginatedFrame) (s : State) : State :=
  let s1 := restartSlide
    { s with
      authority := restartAuthority s.authority
      brake := restartBrake s.brake
      blend := Blend.reset
      air := Air.reset
      recorder := restartRecorder s.recorder
      link := restartLink kept s.link
      lines := resetLines s.lines
      management := Management.reset }
  opportunityIfIdle (opportunityIfIdle (readLines s1) .c) .e

/-! ## Power-on reset (R182) -/

/-- The state held in power-on reset by `hold`: transmitters idle, outputs released, every block in its power-on
state; the pins keep their levels and the waiting commands stay. -/
def heldInReset (hold : Hold) (s : State) : State :=
  { State.reset with
    hold := hold
    link := { Link.reset with own := s.link.own }
    lines := resetLines s.lines
    pending := s.pending
    choice := s.choice }

/-- Is the cause a power-on reset?  A low pulse shorter than 10 microseconds is ignored. -/
def causesReset : ResetCause → Bool
  | .powerUp => true
  | .pinLow n => Config.resetMicros ≤ n

/-- The holds after a cause that is a power-on reset; the other hold, if it stands, goes on. -/
def holdAfter (hold : Hold) : ResetCause → Hold
  | .powerUp => { hold with powerUp := true }
  | .pinLow _ => { hold with pinLow := true }

/-- The holds that a release leaves. -/
def holdLeft (hold : Hold) : ResetRelease → Hold
  | .risingEdge _ => { hold with pinLow := false }
  | .supplyInRange _ => { hold with powerUp := false }

/-- The level of the ADDR straps at a release. -/
def releaseStraps : ResetRelease → BitVec 3
  | .risingEdge straps | .supplyInRange straps => straps

/-- The end of power-on reset: every block takes its power-on state, the straps are read into the own
address (R132), and each line is read with the defaults (R157). -/
def powerOn (straps : BitVec 3) (s : State) : State :=
  readLines
    { State.reset with
      link := { Link.reset with own := BitVec.ofNat 8 (Config.addressBase + straps.toNat) }
      lines := resetLines s.lines
      pending := s.pending
      choice := s.choice }

/-- RESET_ASSERT (R182). -/
def execResetAssert (cause : ResetCause) (s : State) : Result :=
  if causesReset cause then .next (heldInReset (holdAfter s.hold cause) s) else .next s

/-- POWER_ON_RESET (R182): the rising edge of RESETn or the end of the power-up hold.  A release that leaves the
other hold standing leaves the part held, and the straps are read at the release that ends the last one; in a
state that is not held in reset the command stands for the whole pulse (DESIGN CHOICE, log entry 4). -/
def execPowerOnReset (release : ResetRelease) (s : State) : Result :=
  let left : State := { s with hold := holdLeft s.hold release }
  if left.inReset then .next left else .next (syncOutputs (powerOn (releaseStraps release) s))

end Sys2Proof.Machine
end

