-- ==== Sys2Proof/Machine/Reports.lean ====
section
/-! DEFINITION. The data of the reading commands: STATUS_GET (R166), NODE_STATUS_GET (R167), INCIDENT_LIST
(R120) and INCIDENT_READ (R121), in the encodings of chapter 11.  Every one is a function of the state as it
stands when the request is taken. -/

namespace Sys2Proof.Machine

/-- An optional source: a presence byte and its code. -/
def optSource (k : Option Source) : List Byte := optQ 1 (k.map sourceCode)

/-- Section MODE. -/
def modeSection (s : State) : List Byte :=
  q1 (modeCode s.control.mode) ++ mark s.control.validation.isSome
    ++ tableIds.flatMap (fun id => mark (getTable s.tables id).loaded)
    ++ w4 s.control.localMs
    ++ (match s.control.timeBase with
      | some b => q1 1 ++ w4 b.seconds ++ w4 b.at_
      | none => q1 0 ++ q4 0 ++ q4 0)
    ++ [s.link.own] ++ q1 (bufferCode s.management.bufA.state) ++ q1 (bufferCode s.management.bufB.state)

/-- The active demand record as formed (R18), in the order of the DEMAND layout: the three flags, then the
direction (DESIGN CHOICE, log entry 11). -/
def demandBytes (d : ActiveDemand) : List Byte :=
  optQ 1 d.reduction ++ optQ 2 d.independent ++ q1 d.handle ++ mark d.emergency ++ mark d.bailOff
    ++ mark d.sand ++ [d.direction]

/-- A monitor: state and count. -/
def monitorBytes (m : Monitor) : List Byte := q1 (monitorCode m.state) ++ q1 m.count

/-- Section AUTHORITY. -/
def authoritySection (s : State) : List Byte :=
  let a := s.authority
  demandBytes (activeDemand s)
    ++ monitorBytes a.monitors.cabA ++ monitorBytes a.monitors.cabB ++ monitorBytes a.monitors.dp
    ++ q1 (activeCode a.active) ++ q1 (phaseCode a.phase) ++ optSource a.lost ++ optSource a.pendingSwitch
    ++ optSource a.lock ++ mark a.latch ++ timerBytes a.holdTimer ++ timerBytes a.resetTimer
    ++ mark a.autoMark

/-- Section SPEED. -/
def speedSection (s : State) : List Byte :=
  let k := s.slide
  q1 (speedStateCode k.speedState) ++ q2 k.vRef ++ q1 (refSourceCode k.refSource)
    ++ optQ 4 (k.prevArrival.map BitVec.toNat) ++ timerBytes k.staleTimer
    ++ (match k.radar with
      | some r => q1 1 ++ q2 r.speed ++ mark r.valid ++ w4 r.arrival
      | none => q1 0 ++ q2 0 ++ q1 0 ++ q4 0)
    ++ q2 (truckFactor s .t1) ++ q2 (truckFactor s .t2) ++ mark k.sandRequest ++ timerBytes k.sandTimer

/-- One axle of section AXLES (37 bytes). -/
def axleBytes (a : AxleRecord) : List Byte :=
  optQ 2 a.circumference ++ q2 a.v ++ optQ 2 a.vPrev ++ signed4 a.decel ++ q2 a.slip
    ++ q1 (axleStateCode a.state) ++ q2 a.f ++ q1 a.confirm ++ q1 a.faultCount ++ timerBytes a.stateTimer
    ++ timerBytes a.episode ++ timerBytes a.lockTimer ++ mark a.prolonged ++ q1 a.slideCount
    ++ q1 (isolationCode a.isolation)

/-- Section AXLES. -/
def axlesSection (s : State) : List Byte :=
  q2 s.slide.t1 ++ q2 s.slide.t2 ++ s.slide.axles.toList.flatMap axleBytes

/-- The SETUP or idle timer, whichever runs. -/
def setupOrIdle (b : Brake) : Timer := if b.setupTimer.runs then b.setupTimer else b.idleTimer

/-- Section DB. -/
def dbSection (s : State) : List Byte :=
  let b := s.brake
  q1 (dbStateCode b.state) ++ q1 (tripCauseCode b.cause) ++ timerBytes (setupOrIdle b)
    ++ (match b.status with
      | some t => q1 1 ++ t.effort.toList.flatMap q1 ++ mark t.ready ++ mark t.fault ++ mark t.blowerOk
      | none => List.replicate 10 0)
    ++ q2 b.aLast ++ mark b.shortfall ++ timerBytes b.shortSet ++ timerBytes b.shortClear ++ q4 b.heat
    ++ q2 b.g

/-- A period record (39 bytes). -/
def recordBytes (r : PeriodRecord) : List Byte :=
  w4 r.at_ ++ mark r.latch ++ q2 r.fDyn ++ q2 r.fAuto ++ q2 r.fTarget ++ q1 r.capability
    ++ q2 r.capabilitySum ++ r.caps.toList.flatMap q1 ++ q2 r.goal ++ r.goals.toList.flatMap q1
    ++ q2 r.fBack ++ q2 r.f1 ++ q2 r.f2 ++ q2 r.fT1 ++ q2 r.fT2 ++ mark r.sanded

/-- Section BLEND. -/
def blendSection (s : State) : List Byte :=
  let b := s.blend
  b.e.toList.flatMap q1 ++ q2 b.p1 ++ q2 b.p2 ++ q1 b.divider ++ timerBytes b.timer
    ++ (match b.record with
      | some r => q1 1 ++ recordBytes r
      | none => q1 0 ++ List.replicate 39 0)

/-- A truck record. -/
def truckBytes (r : TruckRecord) : List Byte :=
  mark r.held ++ q2 r.pressure ++ mark r.fault ++ q1 (conditionCode r.condition)

/-- Section AIR. -/
def airSection (s : State) : List Byte :=
  truckBytes s.air.truck1 ++ truckBytes s.air.truck2 ++ timerBytes s.air.standstill

/-- Section RECORDER. -/
def recorderSection (s : State) : List Byte :=
  let r := s.recorder
  q2 r.ring.length ++ q1 r.divider ++ optQ 1 (fillingSlot r) ++ q4 r.nextSeq ++ q2 r.overwrites
    ++ q2 r.lostCount

/-- Port counters in the order of R145. -/
def counterBytes (k : PortCounters) : List Byte :=
  q4 k.rxGood ++ q4 k.runt ++ q4 k.long ++ q4 k.lengthMismatch ++ q4 k.checkError ++ q4 k.unknown
    ++ q4 k.ownDropped ++ q4 k.notPassed ++ q4 k.forwardDrop ++ q4 k.originatedDrop ++ q4 k.txOriginated
    ++ q4 k.txForwarded

/-- Section LINK: counters C and E; forward queues C→E and E→C; originated queues C and E; transmitters;
sequence counters. -/
def linkSection (s : State) : List Byte :=
  let c := s.link.cPort
  let e := s.link.ePort
  counterBytes c.counters ++ counterBytes e.counters
    ++ q1 e.forward.length ++ q1 c.forward.length ++ q1 c.originated.length ++ q1 e.originated.length
    ++ q1 (transmitterCode c.transmitter) ++ q1 (transmitterCode e.transmitter) ++ [c.sequence, e.sequence]

/-- An input record as R156 lists it. -/
def inputBytes (r : InputRecord) : List Byte :=
  mark r.present ++ mark r.accepted ++ mark r.debounce.runs ++ mark r.edge

/-- Section LINES. -/
def linesSection (s : State) : List Byte :=
  let o := drivenOutputs s
  s.lines.inputs.toList.flatMap inputBytes ++ mark o.sand ++ mark o.emergActive ++ mark o.fault
    ++ q4 (flagWord s) ++ mark s.lines.noticePending

/-- The data of a section, 00h MODE to 09h LINES; none for a section that does not exist. -/
def statusSection (s : State) (sect : Nat) : Option (List Byte) :=
  match sect with
  | 0 => some (modeSection s)
  | 1 => some (authoritySection s)
  | 2 => some (speedSection s)
  | 3 => some (axlesSection s)
  | 4 => some (dbSection s)
  | 5 => some (blendSection s)
  | 6 => some (airSection s)
  | 7 => some (recorderSection s)
  | 8 => some (linkSection s)
  | 9 => some (linesSection s)
  | _ => none

/-- One entry of NODE_STATUS_GET (R167): an unused entry reports its index and that it is unused. -/
def nodeBytes (s : State) (i : Nat) : List Byte :=
  let n := getNode s i
  if nodeUsed s.tables i then
    q1 i ++ q1 1 ++ q1 (nodeAddress s.tables i) ++ q1 (tableField s.tables.nodes i 2)
      ++ q1 (tableField s.tables.nodes i 3) ++ q2 (nodeTimeout s.tables i) ++ q1 (livenessCode n.liveness)
      ++ timerBytes n.timer ++ optQ 1 (n.lastSeq.map BitVec.toNat) ++ q4 n.good ++ q4 n.duplicate
      ++ q4 n.gap ++ q4 n.error
  else q1 i ++ q1 0

/-- One slot of INCIDENT_LIST (R120). -/
def slotLine (k : Slot) : List Byte :=
  q1 (slotStateCode k.state) ++ q4 (k.seq.getD 0)
    ++ q1 (match k.triggers with
      | t :: _ => triggerCode t.kind
      | [] => 255)
    ++ mark k.protected_ ++ q2 k.snapshots.length

/-- INCIDENT_LIST data. -/
def incidentListData (r : Recorder) : List Byte :=
  r.slots.flatMap slotLine ++ q4 r.nextSeq ++ q2 r.overwrites ++ q2 r.lostCount ++ q2 r.ring.length

/-- Chunk 0 of an incident (234 bytes): header, trigger list, captures. -/
def incidentHeader (i : Nat) (k : Slot) : List Byte :=
  q1 i ++ q1 (slotStateCode k.state) ++ q4 (k.seq.getD 0) ++ w4 k.openTime
    ++ optQ 4 (k.timeOfDay.map BitVec.toNat) ++ q1 k.dropped ++ q1 k.preCount ++ q2 k.snapshots.length
    ++ mark k.protected_ ++ q1 (endCauseCode k.endCause) ++ q1 k.triggers.length
    ++ k.triggers.flatMap triggerBytes
    ++ List.replicate (6 * (Config.triggerCapacity - k.triggers.length)) 0
    ++ captureBytes k.capture1 ++ captureBytes k.capture2 ++ captureBytes k.capture3
    ++ captureBytes k.capture4

/-- The last chunk of an incident of `n` snapshots (R121). -/
def lastChunk (n : Nat) : Nat := ceilDiv n 3

/-- A chunk of an incident (R121). -/
def incidentChunk (i : Nat) (k : Slot) (chunk : Nat) : List Byte :=
  if chunk = 0 then incidentHeader i k
  else
    let part := (k.snapshots.drop (3 * (chunk - 1))).take 3
    q1 chunk ++ q1 part.length ++ part.flatMap snapshotBytes

end Sys2Proof.Machine
end

