-- ==== Sys2Proof/Machine/Management.lean ====
section
/-! DEFINITION. Management Unit (chapter 9): request buffers, checks, carrying out and answering; with the
owners' decisions on each command. -/

namespace Sys2Proof.Machine

/-! ## Codes -/

/-- The result codes, 00h to 12h in the order of the table under R164. -/
inductive ResultCode where
  | ok
  | accepted
  | busy
  | notPermitted
  | refusedMode
  | badArg
  | unknownCommand
  | redundant
  | locked
  | notAllowed
  | nonePending
  | notSecured
  | emergencyLatched
  | tableInvalid
  | notReady
  | stale
  | notTripped
  | faultPersists
  | notIsolated
deriving DecidableEq, Repr

/-- The code of a result. -/
def resultCode : ResultCode → Nat
  | .ok => 0
  | .accepted => 1
  | .busy => 2
  | .notPermitted => 3
  | .refusedMode => 4
  | .badArg => 5
  | .unknownCommand => 6
  | .redundant => 7
  | .locked => 8
  | .notAllowed => 9
  | .nonePending => 10
  | .notSecured => 11
  | .emergencyLatched => 12
  | .tableInvalid => 13
  | .notReady => 14
  | .stale => 15
  | .notTripped => 16
  | .faultPersists => 17
  | .notIsolated => 18

/-- The seventeen commands. -/
inductive Command where
  | statusGet
  | nodeStatusGet
  | flagsClear
  | modeSet
  | tableWrite
  | tableRead
  | sourceSelect
  | sourceAbort
  | sourceLock
  | dbTripClear
  | axleIsolate
  | axleRestore
  | incidentList
  | incidentRead
  | incidentRelease
  | incidentMark
  | restart
deriving DecidableEq, Repr

/-- Command codes 01h to 11h (chapter 11). -/
def commandCode : Command → Byte
  | .statusGet => 0x01
  | .nodeStatusGet => 0x02
  | .flagsClear => 0x03
  | .modeSet => 0x04
  | .tableWrite => 0x05
  | .tableRead => 0x06
  | .sourceSelect => 0x07
  | .sourceAbort => 0x08
  | .sourceLock => 0x09
  | .dbTripClear => 0x0A
  | .axleIsolate => 0x0B
  | .axleRestore => 0x0C
  | .incidentList => 0x0D
  | .incidentRead => 0x0E
  | .incidentRelease => 0x0F
  | .incidentMark => 0x10
  | .restart => 0x11

/-- The commands in code order. -/
def commands : List Command :=
  [.statusGet, .nodeStatusGet, .flagsClear, .modeSet, .tableWrite, .tableRead, .sourceSelect, .sourceAbort,
    .sourceLock, .dbTripClear, .axleIsolate, .axleRestore, .incidentList, .incidentRead, .incidentRelease,
    .incidentMark, .restart]

/-- The command a code names. -/
def commandOfCode (c : Byte) : Option Command := commands.find? (fun k => commandCode k = c)

/-- What a taken request comes to: an answer, a validation in flight, or a restart that follows its OK
answer. -/
inductive Reply where
  | answer (result : ResultCode) (data : List Byte)
  | inFlight
  | restart
deriving DecidableEq, Repr

/-! ## The owners' decisions -/

/-- STATUS_GET (R166). -/
def ownStatusGet (args : List Byte) (s : State) : State × Reply :=
  match statusSection s (fieldAt args 0 1) with
  | some data => (s, .answer .ok data)
  | none => (s, .answer .badArg [])

/-- NODE_STATUS_GET (R167). -/
def ownNodeStatusGet (args : List Byte) (s : State) : State × Reply :=
  let first := fieldAt args 0 1
  let count := fieldAt args 1 1
  if first ≤ 31 ∧ 1 ≤ count ∧ count ≤ 7 ∧ first + count ≤ 32 then
    (s, .answer .ok ((List.range' first count).flatMap (nodeBytes s)))
  else (s, .answer .badArg [])

/-- FLAGS_CLEAR (R153).  DESIGN CHOICE (log entry 34): R153 says which flags the OK data carries and no rule gives its
bytes; the model answers the flag word of chapter 11 as it stands after the clearing, 4 bytes. -/
def ownFlagsClear (args : List Byte) (s : State) : State × Reply :=
  let mask := fieldAt args 0 4
  if 2 ^ 25 ≤ mask then (s, .answer .badArg [])
  else
    let s1 := clearFlags (BitVec.ofNat 32 mask) s
    (s1, .answer .ok (q4 (flagWord s1)))

/-- MODE_SET (R174). -/
def ownModeSet (args : List Byte) (s : State) : State × Reply :=
  let target := fieldAt args 0 1
  if target ≠ 1 ∧ target ≠ 2 then (s, .answer .badArg [])
  else if s.control.validation.isSome then (s, .answer .busy [])
  else if target = 2 then
    if s.control.mode = .service then (s, .answer .redundant [])
    else ({ s with control := { s.control with validation := some 0 } }, .inFlight)
  else match s.control.mode with
    | .init => (s, .answer .refusedMode [])
    | .maintenance => (s, .answer .redundant [])
    | .service =>
      if s.authority.latch then (s, .answer .emergencyLatched [])
      else if failingItems s ≠ 0 then (s, .answer .notSecured (q1 (failingItems s)))
      else (leaveService s, .answer .ok (q1 (modeCode .maintenance)))

/-- TABLE_WRITE (R171); the table id and the argument length were checked before (R162). -/
def ownTableWrite (args : List Byte) (s : State) : State × Reply :=
  match tableOfId (fieldAt args 0 1) with
  | none => (s, .answer .badArg [])
  | some id =>
    let first := fieldAt args 1 2
    let count := fieldAt args 3 1
    let new := readEntries id count first (args.drop 4)
    if s.control.mode = .service then (s, .answer .refusedMode [])
    else if s.control.validation.isSome then (s, .answer .busy [])
    else if count = 0 ∨ tableEntries id < first + count then (s, .answer .badArg [])
    else if !allInRange id first new then (s, .answer .badArg [])
    else (writeTable id first new s, .answer .ok (args.take 4))

/-- The bytes of an entry's fields. -/
def entryBytes (id : TableId) (fields : List Nat) : List Byte :=
  (List.zipWith be (fieldWidths id) fields).flatten

/-- TABLE_READ (R173). -/
def ownTableRead (args : List Byte) (s : State) : State × Reply :=
  match tableOfId (fieldAt args 0 1) with
  | none => (s, .answer .badArg [])
  | some id =>
    let first := fieldAt args 1 2
    let count := fieldAt args 3 1
    let t := getTable s.tables id
    if count = 0 ∨ tableEntries id < first + count ∨ 232 < count * entrySize id then (s, .answer .badArg [])
    else (s, .answer .ok
      (args.take 4 ++ mark t.loaded ++ ((t.entries.drop first).take count).flatMap (entryBytes id)))

/-- RESTART (R179). -/
def ownRestart (s : State) : State × Reply :=
  if s.control.mode = .service then (s, .answer .refusedMode [])
  else if s.control.validation.isSome then (s, .answer .busy [])
  else (s, .restart)

/-- The data of a SOURCE_SELECT response: the active source and the pending target (R7). -/
def selectData (s : State) : List Byte :=
  q1 (activeCode s.authority.active) ++ optSource s.authority.pendingSwitch

/-- An accepted SOURCE_SELECT (R7): the pending record, the mark, and the switch at once when the target is
VALID. -/
def acceptSelect (k : Source) (s : State) : State :=
  evalSand (completePending k
    { s with authority := { s.authority with pendingSwitch := some k, autoMark := false } })

/-- SOURCE_SELECT (R7). -/
def ownSourceSelect (args : List Byte) (s : State) : State × Reply :=
  match sourceOfCode (fieldAt args 0 1) with
  | none => (s, .answer .badArg [])
  | some k =>
    if s.authority.active = .source k then (s, .answer .redundant (selectData s))
    else if s.authority.lock ≠ none ∧ s.authority.lock ≠ some k then (s, .answer .locked (selectData s))
    else (acceptSelect k s, .answer .accepted (selectData (acceptSelect k s)))

/-- SOURCE_ABORT (R9). -/
def ownSourceAbort (s : State) : State × Reply :=
  if s.authority.pendingSwitch.isSome then
    ({ s with authority := { s.authority with pendingSwitch := none } }, .answer .ok [])
  else (s, .answer .nonePending [])

/-- SOURCE_LOCK (R11). -/
def ownSourceLock (s : State) : State × Reply :=
  if s.authority.lock.isSome then (s, .answer .redundant [])
  else match s.authority.active with
    | .fallback => (s, .answer .notAllowed [])
    | .source k =>
      ({ s with authority := { s.authority with lock := some k, pendingSwitch := none } }, .answer .ok [])

/-- May a trip be cleared: the TRACTION node LIVE, and a latest status without fault (R56)?  DESIGN CHOICE (log
entry 30): without a used entry of role TRACTION there is no LIVE node, and the answer is FAULT_PERSISTS. -/
def tripClearable (s : State) : Bool :=
  roleLive s .traction && match s.brake.status with
    | some t => !t.fault
    | none => false

/-- DB_TRIP_CLEAR (R56). -/
def ownDbTripClear (s : State) : State × Reply :=
  if s.brake.state ≠ .tripped then (s, .answer .notTripped [])
  else if tripClearable s then
    ({ s with brake := { s.brake with state := .off, cause := none } }, .answer .ok [])
  else (s, .answer .faultPersists [])

/-- The axle of an axle argument, 1 to 6. -/
def axleOfArg (n : Nat) : Option (Fin 6) :=
  match n with
  | 1 => some 0
  | 2 => some 1
  | 3 => some 2
  | 4 => some 3
  | 5 => some 4
  | 6 => some 5
  | _ => none

/-- AXLE_ISOLATE (R43). -/
def ownAxleIsolate (args : List Byte) (s : State) : State × Reply :=
  match axleOfArg (fieldAt args 0 1) with
  | none => (s, .answer .badArg [])
  | some i =>
    let a := s.slide.axles.get i
    if a.state = .isolated then (s, .answer .redundant [])
    else (evalSand (setAxle s i (isolate .command a)), .answer .ok [])

/-- AXLE_RESTORE (R44). -/
def ownAxleRestore (args : List Byte) (s : State) : State × Reply :=
  match axleOfArg (fieldAt args 0 1) with
  | none => (s, .answer .badArg [])
  | some i =>
    let a := s.slide.axles.get i
    if a.state = .isolated then
      (evalSand (setAxle s i { a with state := .rolling, f := 1000, isolation := none }), .answer .ok [])
    else (s, .answer .notIsolated [])

/-- INCIDENT_LIST (R120). -/
def ownIncidentList (s : State) : State × Reply := (s, .answer .ok (incidentListData s.recorder))

/-- Is a slot readable: SEALED or READ? -/
def readable (k : Slot) : Bool := k.state = .sealed || k.state = .read

/-- INCIDENT_READ (R121). -/
def ownIncidentRead (args : List Byte) (s : State) : State × Reply :=
  let i := fieldAt args 0 1
  let seq := fieldAt args 1 4
  let chunk := fieldAt args 5 1
  let k := getSlot s.recorder i
  if 7 < i then (s, .answer .badArg [])
  else if !readable k then (s, .answer .notReady [])
  else if k.seq ≠ some seq then (s, .answer .stale [])
  else if lastChunk k.snapshots.length < chunk then (s, .answer .badArg [])
  else
    ({ s with recorder := setSlot s.recorder i { k with state := .read } },
      .answer .ok (incidentChunk i k chunk))

/-- INCIDENT_RELEASE (R122). -/
def ownIncidentRelease (args : List Byte) (s : State) : State × Reply :=
  let i := fieldAt args 0 1
  let seq := fieldAt args 1 4
  let k := getSlot s.recorder i
  if 7 < i then (s, .answer .badArg [])
  else if !readable k then (s, .answer .notReady [])
  else if k.seq ≠ some seq then (s, .answer .stale [])
  else ({ s with recorder := setSlot s.recorder i Slot.free }, .answer .ok [])

/-- The data of an INCIDENT_MARK response (R123). -/
def markData : TriggerOutcome → List Byte
  | .opened slot seq => q1 0 ++ q1 slot ++ q4 seq
  | .overwritten slot seq old => q1 1 ++ q1 slot ++ q4 seq ++ q4 old
  | .appended slot seq entered => q1 2 ++ q1 slot ++ q4 seq ++ q1 (if entered then 0 else 1)
  | .lost => q1 3
  | .ignored => []

/-- INCIDENT_MARK (R123). -/
def ownIncidentMark (s : State) : State × Reply :=
  if s.control.mode = .service ∧ triggerEnabled s.tables .manual then
    ((deliverTrigger s .manual none none).1,
      .answer .ok (markData (deliverTrigger s .manual none none).2.1))
  else (s, .answer .notAllowed [])

/-! ## Checks (R162, R163) -/

/-- The role of the C-port node that holds an address (R163). -/
def requesterRole (s : State) (src : Byte) : Option Role :=
  (lookupNode s.tables .c src).bind (nodeRole s.tables)

/-- The permission matrix (R163). -/
def rolePermitted (k : Command) (r : Role) : Bool :=
  match k with
  | .statusGet | .nodeStatusGet => true
  | .incidentList | .incidentRead | .incidentRelease =>
    r = .recorder || r = .locoComputer || r = .tool
  | .incidentMark | .sourceSelect => r = .cabA || r = .cabB || r = .locoComputer || r = .tool
  | .sourceAbort | .sourceLock | .modeSet | .tableWrite | .tableRead | .restart | .axleIsolate
  | .axleRestore | .dbTripClear | .flagsClear => r = .locoComputer || r = .tool

/-- May the requester issue the command?  In INIT every requester may (R163). -/
def permitted (s : State) (k : Command) (src : Byte) : Bool :=
  s.control.mode = .init || match requesterRole s src with
    | some r => rolePermitted k r
    | none => false

/-- The argument bytes are exactly as many as the layout calls for (R162); a table id above 16 fails here
(R171). -/
def argsFit (k : Command) (args : List Byte) : Bool :=
  match k with
  | .statusGet | .modeSet | .sourceSelect | .axleIsolate | .axleRestore => args.length = 1
  | .nodeStatusGet => args.length = 2
  | .flagsClear | .tableRead => args.length = 4
  | .incidentRead => args.length = 6
  | .incidentRelease => args.length = 5
  | .sourceAbort | .sourceLock | .dbTripClear | .incidentList | .incidentMark | .restart =>
    args.length = 0
  | .tableWrite =>
    4 ≤ args.length && match tableOfId (fieldAt args 0 1) with
      | some id => args.length = 4 + fieldAt args 3 1 * entrySize id
      | none => false

/-- A cab's SOURCE_SELECT outside INIT names its own role (R162). -/
def cabTest (s : State) (k : Command) (src : Byte) (args : List Byte) : Bool :=
  if k = .sourceSelect ∧ s.control.mode ≠ .init then
    match requesterRole s src with
    | some .cabA => fieldAt args 0 1 = sourceCode .cabA
    | some .cabB => fieldAt args 0 1 = sourceCode .cabB
    | _ => true
  else true

/-- The owner carries out a command (R164). -/
def carryOut (k : Command) (args : List Byte) (s : State) : State × Reply :=
  match k with
  | .statusGet => ownStatusGet args s
  | .nodeStatusGet => ownNodeStatusGet args s
  | .flagsClear => ownFlagsClear args s
  | .modeSet => ownModeSet args s
  | .tableWrite => ownTableWrite args s
  | .tableRead => ownTableRead args s
  | .sourceSelect => ownSourceSelect args s
  | .sourceAbort => ownSourceAbort s
  | .sourceLock => ownSourceLock s
  | .dbTripClear => ownDbTripClear s
  | .axleIsolate => ownAxleIsolate args s
  | .axleRestore => ownAxleRestore args s
  | .incidentList => ownIncidentList s
  | .incidentRead => ownIncidentRead args s
  | .incidentRelease => ownIncidentRelease args s
  | .incidentMark => ownIncidentMark s
  | .restart => ownRestart s

/-- The checks of R162 in order, then the owner. -/
def judge (b : Buffer) (s : State) : State × Reply :=
  match b.tag, b.command with
  | some _, some c =>
    match commandOfCode c with
    | none => (s, .answer .unknownCommand [])
    | some k =>
      if !permitted s k b.src then (s, .answer .notPermitted [])
      else if !argsFit k b.args then (s, .answer .badArg [])
      else if !cabTest s k b.src b.args then (s, .answer .notPermitted [])
      else carryOut k b.args s
  | _, _ => (s, .answer .badArg [])

/-- The response to a request (R162, R164): tag and command code echoed, 0 where absent. -/
def responseTo (b : Buffer) (r : ResultCode) (data : List Byte) : OriginatedFrame where
  dst := b.src
  cls := Config.clsMgmtResponse
  payload := [b.tag.getD 0, b.command.getD 0] ++ q1 (resultCode r) ++ data

/-! ## Buffers (R158 to R161) -/

/-- A buffer of the two: `true` is B. -/
def getBuffer (s : State) (isB : Bool) : Buffer := if isB then s.management.bufB else s.management.bufA

/-- Replace a buffer. -/
def setBuffer (s : State) (isB : Bool) (b : Buffer) : State :=
  if isB then { s with management := { s.management with bufB := b } }
  else { s with management := { s.management with bufA := b } }

/-- A held request that still waits to be served: WAITING or HELD. -/
def awaits (b : Buffer) : Bool := b.state = .waiting || b.state = .held

/-- The oldest held request that waits to be served (R160). -/
def oldestAwaiting (m : Management) : Option Bool :=
  match awaits m.bufA, awaits m.bufB with
  | true, true => some m.bFirst
  | true, false => some false
  | false, true => some true
  | false, false => none

/-- A response enters the C-port originated queue (R164). -/
def enterResponse (f : OriginatedFrame) (s : State) : State := (enterOriginated s .c f).getD s

/-- Take a WAITING request (R160, R162, R164, R168): judged and carried out, answered, its buffer freed, and
then the notices of the event handed over (R172); `held` are those that the event formed before. -/
def takeRequest (held : List OriginatedFrame) (isB : Bool) (s : State) : State :=
  let b := getBuffer s isB
  let (s1, reply) := judge b { s with deferred := some held }
  match reply with
  | .answer r data => flushNotices (setBuffer (enterResponse (responseTo b r data) s1) isB Buffer.free)
  | .inFlight => flushNotices (setBuffer s1 isB { b with state := .inFlight })
  | .restart => flushNotices (applyRestart [responseTo b .ok []] s1)

/-- Enter a HELD response (R159, R160). -/
def enterHeld (isB : Bool) (s : State) : State :=
  match (getBuffer s isB).response with
  | some f => setBuffer (enterResponse f s) isB Buffer.free
  | none => setBuffer s isB Buffer.free

/-- Serve the held requests in arrival order while room remains (R160); two buffers need two rounds.  `held`
are notices that the event formed before: they follow the first response of a request taken here (R172), and
where none is taken they are handed over at the end. -/
def serve : Nat → List OriginatedFrame → State → State
  | 0, held, s => handNotices held s
  | n + 1, held, s =>
    match oldestAwaiting s.management with
    | none => handNotices held s
    | some isB =>
      if !cRoom s then handNotices held s
      else if (getBuffer s isB).state = .held then serve n held (enterHeld isB s)
      else serve n [] (takeRequest held isB s)

/-- The taking test (R160). -/
def serveHeldRequests (s : State) : State := serve 2 [] s

/-- A request as it enters a buffer (R158). -/
def waitingBuffer (src : Byte) (payload : List Byte) : Buffer where
  state := .waiting
  src := src
  tag := payload[0]?
  command := payload[1]?
  args := payload.drop 2
  response := none

/-- A management request is handed over (R158, R161): it enters a FREE buffer and the taking test is made, or
it is answered BUSY.  `held` are notices that its frame's event formed before (R172). -/
def handRequest (held : List OriginatedFrame) (src : Byte) (payload : List Byte) (s : State) : State :=
  let b := waitingBuffer src payload
  let m := s.management
  if m.bufA.state = .free then
    serve 2 held { s with management := { m with bufA := b, bFirst := m.bufB.state ≠ .free } }
  else if m.bufB.state = .free then
    serve 2 held { s with management := { m with bufB := b, bFirst := false } }
  else
    let short := payload.length < 2
    handOver (handNotices held s) .c (responseTo (if short then { b with command := none } else b) .busy [])

/-! ## Completion of a validation (R176, R165) -/

/-- The data of TABLE_INVALID: table, entry or FFFFh, check. -/
def failureData (f : Failure) : List Byte :=
  q1 (tableCode f.table) ++ q2 (f.entry.getD 65535) ++ q1 (checkCode f.check)

/-- The checks and their effect (R176). -/
def concludeValidation (s : State) : State × ResultCode × List Byte :=
  match validate s.link.own s.tables with
  | none => (enterService s, .ok, q1 (modeCode .service))
  | some f => (s, .tableInvalid, failureData f)

/-- The buffer whose command is in flight. -/
def inFlightBuffer (m : Management) : Option Bool :=
  if m.bufA.state = .inFlight then some false
  else if m.bufB.state = .inFlight then some true
  else none

/-- The response of a validation enters the queue, or is held (R165). -/
def answerValidation (r : ResultCode) (data : List Byte) (s : State) : State :=
  match inFlightBuffer s.management with
  | none => s
  | some isB =>
    let b := getBuffer s isB
    let f := responseTo b r data
    if cRoom s then setBuffer (enterResponse f s) isB Buffer.free
    else setBuffer s isB { b with state := .held, response := some f }

/-- A validation completes (R176); without one in flight nothing happens. -/
def completeValidation (s : State) : State :=
  match s.control.validation with
  | none => s
  | some _ =>
    let (s1, r, data) := concludeValidation
      { s with control := { s.control with validation := none }, deferred := some [] }
    serveHeldRequests (flushNotices (answerValidation r data s1))

/-- Is a response HELD? -/
def responseHeld (m : Management) : Bool := m.bufA.state = .held || m.bufB.state = .held

/-- Room appeared for a HELD response (R160): it is entered, and the rest served while room remains. -/
def admitHeld (s : State) : State := if responseHeld s.management then serveHeldRequests s else s

/-! ## The commands -/

/-- The payload of a request for a command. -/
def requestPayload (tag : Byte) (k : Command) (args : List Byte) : List Byte := [tag, commandCode k] ++ args

/-- A management command arrives as the request that names it. -/
def request (src tag : Byte) (k : Command) (args : List Byte) (s : State) : Result :=
  event s (handRequest [] src (requestPayload tag k args))

/-- MGMT_REQUEST (R158). -/
def execMgmtRequest (src : Byte) (payload : List Byte) (s : State) : Result :=
  event s (handRequest [] src payload)

/-- HELD_RESPONSE_ENTRY (R160). -/
def execHeldResponseEntry (s : State) : Result := event s admitHeld

/-- NOTICE_REFORM (R155). -/
def execNoticeReform (s : State) : Result := event s reformNotice

/-- VALIDATION_COMPLETE (R176). -/
def execValidationComplete (s : State) : Result := event s completeValidation

/-- STATUS_GET (R166). -/
def execStatusGet (src tag sect : Byte) (s : State) : Result := request src tag .statusGet [sect] s

/-- NODE_STATUS_GET (R167). -/
def execNodeStatusGet (src tag first count : Byte) (s : State) : Result :=
  request src tag .nodeStatusGet [first, count] s

/-- FLAGS_CLEAR (R153). -/
def execFlagsClear (src tag : Byte) (mask : Word32) (s : State) : Result :=
  request src tag .flagsClear (w4 mask) s

/-- MODE_SET (R174). -/
def execModeSet (src tag target : Byte) (s : State) : Result := request src tag .modeSet [target] s

/-- TABLE_WRITE (R171). -/
def execTableWrite (src tag table : Byte) (first : BitVec 16) (count : Byte) (values : List Byte)
    (s : State) : Result :=
  request src tag .tableWrite ([table] ++ q2 first.toNat ++ [count] ++ values) s

/-- TABLE_READ (R173). -/
def execTableRead (src tag table : Byte) (first : BitVec 16) (count : Byte) (s : State) : Result :=
  request src tag .tableRead ([table] ++ q2 first.toNat ++ [count]) s

/-- RESTART (R179). -/
def execRestart (src tag : Byte) (s : State) : Result := request src tag .restart [] s

/-- SOURCE_SELECT (R7). -/
def execSourceSelect (src tag target : Byte) (s : State) : Result :=
  request src tag .sourceSelect [target] s

/-- SOURCE_ABORT (R9). -/
def execSourceAbort (src tag : Byte) (s : State) : Result := request src tag .sourceAbort [] s

/-- SOURCE_LOCK (R11). -/
def execSourceLock (src tag : Byte) (s : State) : Result := request src tag .sourceLock [] s

/-- DB_TRIP_CLEAR (R56). -/
def execDbTripClear (src tag : Byte) (s : State) : Result := request src tag .dbTripClear [] s

/-- AXLE_ISOLATE (R43). -/
def execAxleIsolate (src tag axle : Byte) (s : State) : Result := request src tag .axleIsolate [axle] s

/-- AXLE_RESTORE (R44). -/
def execAxleRestore (src tag axle : Byte) (s : State) : Result := request src tag .axleRestore [axle] s

/-- INCIDENT_LIST (R120). -/
def execIncidentList (src tag : Byte) (s : State) : Result := request src tag .incidentList [] s

/-- INCIDENT_READ (R121). -/
def execIncidentRead (src tag slot : Byte) (sequence : Word32) (chunk : Byte) (s : State) : Result :=
  request src tag .incidentRead ([slot] ++ w4 sequence ++ [chunk]) s

/-- INCIDENT_RELEASE (R122). -/
def execIncidentRelease (src tag slot : Byte) (sequence : Word32) (s : State) : Result :=
  request src tag .incidentRelease ([slot] ++ w4 sequence) s

/-- INCIDENT_MARK (R123). -/
def execIncidentMark (src tag : Byte) (s : State) : Result := request src tag .incidentMark [] s

end Sys2Proof.Machine
end

