-- ==== Sys2Proof/Machine/Frames.lean ====
section
/-! DEFINITION. Link Unit, frames (chapter 7): reception, the stages of a good frame, forwarding, and the
completion of a transmission. -/

namespace Sys2Proof.Machine

/-! ## Receive status (R127, R128) -/

/-- The receive status of an arriving frame (R127). -/
inductive ReceiveStatus where
  | runt
  | long
  | lengthMismatch
  | checkError
  | good
deriving DecidableEq, Repr

/-- The tests of R127 in their order. -/
def receiveStatus (bytes : List Byte) : ReceiveStatus :=
  if bytes.length < Config.frameOverhead then .runt
  else if Config.maxFrame < bytes.length then .long
  else if bytes.length ≠ Config.frameOverhead + (byteAt bytes 4).toNat then .lengthMismatch
  else if (crc16 (bytes.take (bytes.length - 2))).toNat ≠ fieldAt bytes (bytes.length - 2) 2 then .checkError
  else .good

/-- The port counter of a status (R145). -/
def countStatus : ReceiveStatus → PortCounters → PortCounters
  | .runt, k => { k with runt := bump k.runt }
  | .long, k => { k with long := bump k.long }
  | .lengthMismatch, k => { k with lengthMismatch := bump k.lengthMismatch }
  | .checkError, k => { k with checkError := bump k.checkError }
  | .good, k => { k with rxGood := bump k.rxGood }

/-- The node a damaged frame counts against: the entry of its second byte, where it has one (R128). -/
def blamedNode (ts : Tables) (p : Port) (bytes : List Byte) : Option Nat :=
  match bytes with
  | _ :: src :: _ => lookupNode ts p src
  | [_] | [] => none

/-- A damaged frame is counted against its node (R128). -/
def countNodeError (p : Port) (bytes : List Byte) (s : State) : State :=
  match blamedNode s.tables p bytes with
  | some i => setNode s i { getNode s i with error := bump (getNode s i).error }
  | none => s

/-- A frame that is not GOOD (R128). -/
def dropDamaged (p : Port) (st : ReceiveStatus) (bytes : List Byte) (s : State) : State :=
  raise .frameError (countNodeError p bytes (countAt s p (countStatus st)))

/-- The frame that GOOD bytes spell (chapter 11). -/
def parseFrame (bytes : List Byte) : Frame where
  dst := byteAt bytes 0
  src := byteAt bytes 1
  cls := byteAt bytes 2
  seq := byteAt bytes 3
  payload := (bytes.drop 5).take (byteAt bytes 4).toNat

/-! ## Stage 4: own address (R132) -/

/-- A frame to the own address is dropped and counted. -/
def dropOwn (p : Port) (s : State) : State :=
  countAt s p (fun k => { k with ownDropped := bump k.ownDropped })

/-- Is a frame to the own address handed to the Management Unit (R132)?  `known` says that it has a
node. -/
def ownHandedOver (mode : Mode) (p : Port) (cls : Byte) (known : Bool) : Bool :=
  p = .c && cls = Config.clsMgmtRequest && (known || mode = .init)

/-- Stages 3 and 4 of a frame to the own address (R132).  A notice that the pattern offer of a handed-over
request's own frame forms is kept for the place that R172 gives it: after the response of a request taken in
this event. -/
def handleOwn (p : Port) (known : Bool) (f : Frame) (s : State) : State :=
  if ownHandedOver s.control.mode p f.cls known then
    let s1 := offerFrame p f { s with deferred := some [] }
    handRequest (s1.deferred.getD []) f.src f.payload { s1 with deferred := s.deferred }
  else dropOwn p (offerFrame p f s)

/-! ## Stage 5: consumption (R133, R134) -/

/-- Set the time-of-day base from a TIME payload (R134). -/
def handleTime (payload : List Byte) (s : State) : State :=
  match readTime payload with
  | none => s
  | some t => { s with control := { s.control with timeBase := some ⟨t, s.control.localMs⟩ } }

/-- Deliver a frame whose class, port and role stand in one row of the table of R133; every other frame has
no owner. -/
def deliverConsumed (p : Port) (r : Role) (gap : Bool) (f : Frame) (s : State) : State :=
  match p, r with
  | .c, .cabA => if f.cls = Config.clsDemand then deliverDemand .cabA gap f s else s
  | .c, .cabB => if f.cls = Config.clsDemand then deliverDemand .cabB gap f s else s
  | .c, .dp => if f.cls = Config.clsDemand then deliverDemand .dp gap f s else s
  | .c, .locoComputer => if f.cls = Config.clsTime then handleTime f.payload s else s
  | .e, .axleConc => if f.cls = Config.clsAxleSample then handleAxleSample f.payload s else s
  | .e, .radar => if f.cls = Config.clsRadarSample then handleRadarSample f.payload s else s
  | .e, .traction => if f.cls = Config.clsTractionStatus then handleTraction f.payload s else s
  | .e, .valveT1 => if f.cls = Config.clsValveStatus then handleValve .t1 f.payload s else s
  | .e, .valveT2 => if f.cls = Config.clsValveStatus then handleValve .t2 f.payload s else s
  | _, _ => s

/-- Consumption of a frame of node `i` (R133): an entry of a singleton role must hold its binding. -/
def consume (p : Port) (i : Nat) (gap : Bool) (f : Frame) (s : State) : State :=
  match nodeRole s.tables i with
  | none => s
  | some r =>
    if r.singleton && binding s.tables r ≠ some i then s else deliverConsumed p r gap f s

/-! ## Stage 6: forwarding (R135, R137) -/

/-- Is a class a setpoint class? -/
def setpointClass (cls : Byte) : Bool := cls = Config.clsDbSetpoint || cls = Config.clsBcSetpoint

/-- Is a frame arriving at a port forwarded (R135)? -/
def passes (s : State) (p : Port) (cls : Byte) : Bool :=
  inPassSet s.tables p cls && !(s.control.mode = .service && p = .c && setpointClass cls)

/-- The copy enters the forward queue toward a port, with the opportunity of an IDLE transmitter (R137,
R140). -/
def enterForward (out : Port) (raw : List Byte) (s : State) : State :=
  let ps := getPort s out
  opportunityIfIdle (setPort s out { ps with forward := ps.forward ++ [raw] }) out

/-- The forwarding decision and the entry into the forward queue (R135, R137). -/
def forwardFrame (p : Port) (raw : List Byte) (cls : Byte) (s : State) : State :=
  if passes s p cls then
    if (getPort s (Port.other p)).forward.length < Config.forwardCapacity then enterForward (Port.other p) raw s
    else raise .queueOverflow (countAt s p (fun k => { k with forwardDrop := bump k.forwardDrop }))
  else countAt s p (fun k => { k with notPassed := bump k.notPassed })

/-! ## A good frame (R129 to R131) -/

/-- Stages 3 to 6 for a frame with a node. -/
def handleAccepted (p : Port) (i : Nat) (gap : Bool) (f : Frame) (raw : List Byte) (s : State) : State :=
  if f.dst = s.link.own then handleOwn p true f s
  else forwardFrame p raw f.cls (consume p i gap f (offerFrame p f s))

/-- Stages 3 to 6 for a C-port frame without a node (R130). -/
def handleUnknown (p : Port) (f : Frame) (raw : List Byte) (s : State) : State :=
  if f.dst = s.link.own then handleOwn p false f s else forwardFrame p raw f.cls (offerFrame p f s)

/-- Stage 2 for a frame of node `i` (R131). -/
def handleKnown (p : Port) (i : Nat) (f : Frame) (raw : List Byte) (s : State) : State :=
  let n := getNode s i
  match sequenceCheck n.lastSeq f.seq with
  | .duplicate => setNode s i { n with duplicate := bump n.duplicate }
  | .accepted gap =>
    handleAccepted p i gap f raw (setNode s i (acceptNode (nodeTimeout s.tables i) f.seq gap n))

/-- A GOOD frame (R129): stage 1, the source lookup (R130), and what follows. -/
def handleGood (p : Port) (raw : List Byte) (s : State) : State :=
  let f := parseFrame raw
  match lookupNode s.tables p f.src, p with
  | some i, _ => handleKnown p i f raw s
  | none, .e => countAt s .e (fun k => { k with unknown := bump k.unknown })
  | none, .c => handleUnknown .c f raw s

/-- A frame arrives (R127). -/
def handleArrival (p : Port) (bytes : List Byte) (s : State) : State :=
  match receiveStatus bytes with
  | .good => handleGood p bytes (countAt s p (countStatus .good))
  | st => dropDamaged p st bytes s

/-! ## Completion of a transmission (R140) -/

/-- Line time of a whole frame with its inter-frame interval, in microseconds (R140). -/
def lineMicros (bytes : List Byte) : Nat := Config.byteMicros * bytes.length + Config.interFrameMicros

/-- The TX counter of a completed frame (R140). -/
def countSent (originated : Bool) (k : PortCounters) : PortCounters :=
  if originated then { k with txOriginated := bump k.txOriginated }
  else { k with txForwarded := bump k.txForwarded }

/-- Is the C-port originated queue full? -/
def cFull (s : State) : Bool := !cRoom s

/-- Room appeared in the full C-port originated queue: the held requests first, then a pending notice
(R138, R155, R160). -/
def roomAppeared (s : State) : State := reformNotice (serveHeldRequests s)

/-- A port's transmitter completes its frame, and the opportunity follows (R140); an IDLE transmitter
completes nothing. -/
def completeTransmission (p : Port) (s : State) : State :=
  match (getPort s p).transmitter with
  | .idle => s
  | .sending originated bytes micros =>
    let s1 := opportunity (countAt s p (countSent originated)) p (micros - lineMicros bytes)
    if cFull s && cRoom s1 then roomAppeared s1 else s1

/-! ## The commands of this unit -/

/-- FRAME_ARRIVAL (R127). -/
def execFrameArrival (p : Port) (bytes : List Byte) (s : State) : Result := event s (handleArrival p bytes)

/-- TIME_FRAME (R134). -/
def execTimeFrame (payload : List Byte) (s : State) : Result := event s (handleTime payload)

/-- TRANSMIT_COMPLETE (R140). -/
def execTransmitComplete (p : Port) (s : State) : Result := event s (completeTransmission p)

end Sys2Proof.Machine
end

