-- ==== Sys2Proof/Machine/Clock.lean ====
section
/-! DEFINITION. The passing of time (chapter 0, Time and timers; R180): one millisecond, and the expiries
that have fallen due. -/

namespace Sys2Proof.Machine

/-! ## One millisecond -/

/-- An axle's timers advance. -/
def tickAxle (a : AxleRecord) : AxleRecord :=
  { a with
    stateTimer := a.stateTimer.tick
    episode := a.episode.tick
    lockTimer := a.lockTimer.tick }

/-- The Slide Control Unit's timers; while the speed data is LOST the axles' timers hold (R29). -/
def tickSlide (k : Slide) : Slide :=
  { k with
    staleTimer := k.staleTimer.tick
    sandTimer := k.sandTimer.tick
    axles := if k.speedState = .lost then k.axles else k.axles.map tickAxle }

/-- The Dynamic Brake Channel's timers. -/
def tickBrake (b : Brake) : Brake :=
  { b with
    setupTimer := b.setupTimer.tick
    idleTimer := b.idleTimer.tick
    shortSet := b.shortSet.tick
    shortClear := b.shortClear.tick
    heatElapsed := b.heatElapsed + 1 }

/-- A transmitter spends a millisecond of line time. -/
def tickTransmitter : Transmitter → Transmitter
  | .idle => .idle
  | .sending originated bytes micros => .sending originated bytes (micros + 1000)

/-- A port's transmitter advances. -/
def tickPort (ps : PortState) : PortState := { ps with transmitter := tickTransmitter ps.transmitter }

/-- A node's liveness timer advances. -/
def tickNode (n : NodeRuntime) : NodeRuntime := { n with timer := n.timer.tick }

/-- A line's debounce timer advances. -/
def tickInput (r : InputRecord) : InputRecord := { r with debounce := r.debounce.tick }

/-- One millisecond passes: the local counter counts, wrapping (R180), and every running timer runs. -/
def tick (s : State) : State :=
  { s with
    authority := { s.authority with
      holdTimer := s.authority.holdTimer.tick
      resetTimer := s.authority.resetTimer.tick }
    slide := tickSlide s.slide
    brake := tickBrake s.brake
    blend := { s.blend with timer := s.blend.timer.tick }
    air := { s.air with standstill := s.air.standstill.tick }
    link := { s.link with
      nodes := s.link.nodes.map tickNode
      cPort := tickPort s.link.cPort
      ePort := tickPort s.link.ePort }
    lines := { s.lines with inputs := s.lines.inputs.map tickInput }
    control := { s.control with
      validation := s.control.validation.map (fun n => n + 1)
      localMs := s.control.localMs + 1 } }

/-! ## Expiries that are due -/

/-- The frame a transmitter sends has had its line time (R140). -/
def transmitDue (s : State) (p : Port) : Bool :=
  match (getPort s p).transmitter with
  | .idle => false
  | .sending _ bytes micros => lineMicros bytes ≤ micros

/-- The validation in flight has had the time that R176 allows it. -/
def validationDue (s : State) : Bool :=
  match s.control.validation with
  | some n => Config.validationMs ≤ n
  | none => false

/-- A command that stands for an expiry, if the expiry is due. -/
def dueIf (due : Bool) (c : Instr) : List Instr := if due then [c] else []

/-- The commands whose expiries are due. -/
def dueCommands (s : State) : List Instr :=
  dueIf (transmitDue s .c) (.transmitComplete .c)
    ++ dueIf (transmitDue s .e) (.transmitComplete .e)
    ++ (List.finRange 32).flatMap (fun i => dueIf (livenessDue s i.val) (.livenessExpiry i))
    ++ dueIf (s.authority.holdTimer.reached (holdMs s.tables)) .holdTimerExpiry
    ++ dueIf (s.authority.resetTimer.reached (emergResetMs s.tables)) .emergencyResetExpiry
    ++ dueIf (s.slide.speedState = .valid && s.slide.staleTimer.exceeded (speedStaleMs s.tables))
      .staleTimerExpiry
    ++ six.flatMap (fun i => dueIf (episodeDue s i) (.episodeTimerExpiry i))
    ++ six.flatMap (fun i => dueIf (lockedDue s i) (.lockedTimeout i))
    ++ dueIf (s.slide.sandTimer.reached (sandHoldMs s.tables)) .sandHoldExpiry
    ++ dueIf (s.brake.state = .setup && s.brake.setupTimer.reached (setupMs s.tables)) .setupTimerExpiry
    ++ dueIf (s.brake.state = .active && s.brake.idleTimer.reached (idleMs s.tables)) .idleTimerExpiry
    ++ dueIf (heatDue s) .heatPeriod
    ++ dueIf (blendDue s) .blendPeriod
    ++ six.flatMap (fun n => dueIf (debounceDue s n) (.debounceExpiry n))
    ++ dueIf (validationDue s) .validationComplete

/-- The expiry taken next where several are due: the manual leaves the order free, and so does the model
(log entry 1). -/
def nextDue (s : State) : Option Instr :=
  match dueCommands s with
  | [] => none
  | [c] => some c
  | c :: cs => some ((c :: cs).getD (Config.dueChoice s.choice % (cs.length + 1)) c)

/-- The free choice has been used. -/
def countChoice (s : State) : State := { s with choice := s.choice + 1 }

end Sys2Proof.Machine
end

