-- ==== Sys2Proof/Machine/Dispatch.lean ====
section
/-! DEFINITION. One arm for each command, each a call of that command's meaning. -/

namespace Sys2Proof.Machine

/-- The effect of a command on everything but the queue of waiting commands. -/
def exec (i : Instr) (s : State) : Host.Outcome State Fault Refusal :=
  match i with
  | .resetAssert cause => Sys2Proof.Machine.execResetAssert cause s
  | .powerOnReset release => Sys2Proof.Machine.execPowerOnReset release s
  | .frameArrival port bytes => Sys2Proof.Machine.execFrameArrival port bytes s
  | .demandFrame source gap frame => Sys2Proof.Machine.execDemandFrame source gap frame s
  | .sourceSwitchComplete source => Sys2Proof.Machine.execSourceSwitchComplete source s
  | .autoSwitch source => Sys2Proof.Machine.execAutoSwitch source s
  | .emergencyLatchClear source emergency reduction => Sys2Proof.Machine.execEmergencyLatchClear source emergency reduction s
  | .timeFrame payload => Sys2Proof.Machine.execTimeFrame payload s
  | .axleSample payload => Sys2Proof.Machine.execAxleSample payload s
  | .radarSample payload => Sys2Proof.Machine.execRadarSample payload s
  | .tractionStatus payload => Sys2Proof.Machine.execTractionStatus payload s
  | .valveStatus truck payload => Sys2Proof.Machine.execValveStatus truck payload s
  | .mgmtRequest src payload => Sys2Proof.Machine.execMgmtRequest src payload s
  | .heldResponseEntry => Sys2Proof.Machine.execHeldResponseEntry s
  | .statusGet src tag sect => Sys2Proof.Machine.execStatusGet src tag sect s
  | .nodeStatusGet src tag first count => Sys2Proof.Machine.execNodeStatusGet src tag first count s
  | .flagsClear src tag mask => Sys2Proof.Machine.execFlagsClear src tag mask s
  | .modeSet src tag target => Sys2Proof.Machine.execModeSet src tag target s
  | .validationComplete => Sys2Proof.Machine.execValidationComplete s
  | .tableWrite src tag table first count values => Sys2Proof.Machine.execTableWrite src tag table first count values s
  | .tableRead src tag table first count => Sys2Proof.Machine.execTableRead src tag table first count s
  | .restart src tag => Sys2Proof.Machine.execRestart src tag s
  | .sourceSelect src tag target => Sys2Proof.Machine.execSourceSelect src tag target s
  | .sourceAbort src tag => Sys2Proof.Machine.execSourceAbort src tag s
  | .sourceLock src tag => Sys2Proof.Machine.execSourceLock src tag s
  | .dbTripClear src tag => Sys2Proof.Machine.execDbTripClear src tag s
  | .axleIsolate src tag axle => Sys2Proof.Machine.execAxleIsolate src tag axle s
  | .axleRestore src tag axle => Sys2Proof.Machine.execAxleRestore src tag axle s
  | .incidentList src tag => Sys2Proof.Machine.execIncidentList src tag s
  | .incidentRead src tag slot sequence chunk => Sys2Proof.Machine.execIncidentRead src tag slot sequence chunk s
  | .incidentRelease src tag slot sequence => Sys2Proof.Machine.execIncidentRelease src tag slot sequence s
  | .incidentMark src tag => Sys2Proof.Machine.execIncidentMark src tag s
  | .transmitComplete port => Sys2Proof.Machine.execTransmitComplete port s
  | .noticeReform => Sys2Proof.Machine.execNoticeReform s
  | .livenessExpiry node => Sys2Proof.Machine.execLivenessExpiry node s
  | .holdTimerExpiry => Sys2Proof.Machine.execHoldTimerExpiry s
  | .emergencyResetExpiry => Sys2Proof.Machine.execEmergencyResetExpiry s
  | .staleTimerExpiry => Sys2Proof.Machine.execStaleTimerExpiry s
  | .episodeTimerExpiry axle => Sys2Proof.Machine.execEpisodeTimerExpiry axle s
  | .lockedTimeout axle => Sys2Proof.Machine.execLockedTimeout axle s
  | .sandHoldExpiry => Sys2Proof.Machine.execSandHoldExpiry s
  | .setupTimerExpiry => Sys2Proof.Machine.execSetupTimerExpiry s
  | .idleTimerExpiry => Sys2Proof.Machine.execIdleTimerExpiry s
  | .heatPeriod => Sys2Proof.Machine.execHeatPeriod s
  | .blendPeriod => Sys2Proof.Machine.execBlendPeriod s
  | .discretePinChange input high => Sys2Proof.Machine.execDiscretePinChange input high s
  | .debounceExpiry input => Sys2Proof.Machine.execDebounceExpiry input s

end Sys2Proof.Machine
end

