-- ==== Sys2Proof/Machine/Step.lean ====
section
/-! DEFINITION. One step: the command at the front of the queue, or, on an empty queue, time. -/

namespace Sys2Proof.Machine

/-- The waiting commands, less the front one. -/
def withQueue (s : State) (queue : List Instr) : State := { s with pending := queue }

/-- With no command waiting (log entry 1): held in power-on reset nothing happens; an expiry that is due is
taken; otherwise a millisecond passes. -/
def idleStep (s : State) : Host.Outcome State Fault Refusal :=
  if s.inReset then .next s
  else match nextDue s with
    | none => .next (tick s)
    | some c => exec c (countChoice s)

/-- One step of the part. -/
def step (s : State) : Host.Outcome State Fault Refusal :=
  match s.pending with
  | c :: rest => exec c (withQueue s rest)
  | [] => idleStep s

/-- The state with the command that a word spells at the front of its queue; no row of the table has bits,
so that no word spells a command. -/
def State.withFetchWord (s : State) (nbits w : Nat) : State :=
  match decodeTableWord nbits w with
  | some c => { s with pending := c :: s.pending }
  | none => s

end Sys2Proof.Machine
end

