-- ==== Sys2Proof/Safety.lean ====
section
/-! DEFINITION. What the manual says of every state of the part, one predicate for each such sentence, and
the shapes in which a request finds the part and leaves it. -/

namespace Sys2Proof.Machine

/-! ## What holds in every state -/

/-- R6: the active source is VALID and permitted by the lock; the phase is NONE exactly while a source is
active; the lost source is present exactly in HOLD and PENALTY.  With it what keeps it so: a pending target
that the lock permits (R7, R11) and a HOLD timer that stands outside HOLD (R12, R13). -/
def AuthorityOk (a : Authority) : Prop :=
  (match a.active with
    | .source k => (a.monitors.get k).state = .valid ∧ a.phase = .none ∧ (a.lock = none ∨ a.lock = some k)
    | .fallback => a.phase ≠ .none)
  ∧ ((a.phase = .hold ∨ a.phase = .penalty) ↔ a.lost ≠ none)
  ∧ (∀ k ∈ a.pendingSwitch, a.lock = none ∨ a.lock = some k)
  ∧ (a.phase ≠ .hold → a.holdTimer = .stopped)

/-- R45 for one axle: the factor of each state, and a factor of at most 1000 in all; with the isolation cause
present in ISOLATED alone. -/
def AxleOk (a : AxleRecord) : Prop :=
  a.f ≤ 1000
  ∧ (a.state = .rolling ∨ a.state = .suspect → a.f = 1000)
  ∧ (a.state = .locked ∨ a.state = .sensorFault ∨ a.state = .isolated → a.f = 0)
  ∧ (a.isolation ≠ none ↔ a.state = .isolated)

/-- R45 for all six axles. -/
def FactorsOk (k : Slide) : Prop := ∀ i : Fin 6, AxleOk (k.axles.get i)

/-- The number of FILLING slots. -/
def fillingCount (r : Recorder) : Nat := (r.slots.filter (fun k => k.state = .filling)).length

/-- R104: at most one slot is FILLING, and one is FILLING only in SERVICE. -/
def SlotsOk (s : State) : Prop :=
  fillingCount s.recorder ≤ 1 ∧ (fillingCount s.recorder ≠ 0 → s.control.mode = .service)

/-- R111, R101, R122 and the eight slots: a slot that is not FREE lists 1 to 8 triggers, and a FREE slot holds
nothing. -/
def IncidentsOk (r : Recorder) : Prop :=
  r.slots.length = 8 ∧ r.ring.length ≤ Config.ringCapacity
  ∧ (∀ k ∈ r.slots, k.state = .free → k = Slot.free)
  ∧ ∀ k ∈ r.slots, k.state ≠ .free → 1 ≤ k.triggers.length ∧ k.triggers.length ≤ Config.triggerCapacity

/-- The sequence numbers of the slots that are not FREE. -/
def usedNumbers (r : Recorder) : List (Option Nat) :=
  (r.slots.filter (fun k => k.state ≠ .free)).map (fun k => k.seq)

/-- R106: the slots that are not FREE carry distinct numbers, every one given before the next number, and
the FILLING slot's is the greatest. -/
def NumbersOk (r : Recorder) : Prop :=
  (usedNumbers r).Nodup
  ∧ r.nextSeq ≤ Config.maxU32
  ∧ (∀ k ∈ r.slots, k.state ≠ .free →
      ∃ q ∈ k.seq, 1 ≤ q ∧ q ≤ Config.maxU32 ∧ (r.nextSeq ≠ 0 → q < r.nextSeq))
  ∧ (∀ k ∈ r.slots, k.state = .filling →
      ∀ j ∈ r.slots, j.state ≠ .free → j.seq.getD 0 ≤ k.seq.getD 0)

/-- R137: each forward queue holds at most 16 frames and each originated queue at most 8. -/
def PortOk (ps : PortState) : Prop :=
  ps.forward.length ≤ Config.forwardCapacity ∧ ps.originated.length ≤ Config.originatedCapacity

/-- R137 for both ports. -/
def QueuesOk (l : Link) : Prop := PortOk l.cPort ∧ PortOk l.ePort

/-- R140: an IDLE transmitter has empty queues, since a frame that enters one of them is taken at once. -/
def IdleOk (l : Link) : Prop :=
  (l.cPort.transmitter = .idle → l.cPort.originated = [] ∧ l.cPort.forward = [])
  ∧ (l.ePort.transmitter = .idle → l.ePort.originated = [] ∧ l.ePort.forward = [])

/-- R136: in SERVICE no setpoint that arrived on the C-port waits for the E-port transmitter or is being sent
by it. -/
def NoForeignSetpoints (s : State) : Prop :=
  s.control.mode = .service →
    (∀ raw ∈ s.link.ePort.forward, isSetpoint raw = false) ∧ sendingSetpoint s.link.ePort = false

/-- R151: every output is driven from its condition. -/
def OutputsOk (s : State) : Prop := s.lines.outputs = drivenOutputs s

/-- R178: the mode is SERVICE only while every table is LOADED and passes its checks. -/
def TablesOk (s : State) : Prop :=
  s.control.mode = .service → validate s.link.own s.tables = none

/-- R58 and R65: SETUP and ACTIVE exist, and the blend-period timer runs, in SERVICE alone. -/
def ServiceOnlyOk (s : State) : Prop :=
  (s.brake.state = .setup ∨ s.brake.state = .active → s.control.mode = .service)
  ∧ (s.blend.timer ≠ .stopped → s.control.mode = .service)

/-- R94: the standstill timer runs exactly while the speed state is VALID and v_ref is 0. -/
def StandstillOk (s : State) : Prop :=
  s.air.standstill.runs = standstill s ∧ s.air.standstill ≠ .expired

/-- R90: a truck whose condition is CLEAR holds no fault; R89: the pressure is clamped to 1000 kPa. -/
def TruckOk (r : TruckRecord) : Prop := (r.condition = .clear → r.fault = false) ∧ r.pressure ≤ 1000

/-- R49, R61, R62: A_last is the sum of the stored efforts, each at most 120 kN, and 0 without a status; H is
saturated and g is a permille. -/
def BrakeOk (b : Brake) : Prop :=
  (match b.status with
    | some t => (∀ i : Fin 6, t.effort.get i ≤ 120) ∧ b.aLast = t.effort.sum
    | none => b.aLast = 0)
  ∧ b.heat ≤ Config.maxU32 ∧ b.g ≤ 1000
  ∧ (b.cause ≠ none ↔ b.state = .tripped)

/-- R62, R82: while the HEAT table is LOADED, g is the thermal factor of the held heat; so it is 0 whenever H is
at or above H_MAX. -/
def HeatFactorOk (s : State) : Prop :=
  s.tables.heat.loaded = true → s.brake.g = thermalFactor s.tables s.brake.heat

/-- R26, R32: every speed lies in 0 to 20000. -/
def SpeedsOk (k : Slide) : Prop := k.vRef ≤ 20000 ∧ ∀ i : Fin 6, (k.axles.get i).v ≤ 20000

/-- R159, R165, R176: a buffer is IN_FLIGHT exactly while a validation is in flight, never both buffers are,
and a response is held exactly in HELD. -/
def BuffersOk (s : State) : Prop :=
  let a := s.management.bufA
  let b := s.management.bufB
  ((a.state = .inFlight ∨ b.state = .inFlight) ↔ s.control.validation ≠ none)
  ∧ ¬ (a.state = .inFlight ∧ b.state = .inFlight)
  ∧ (a.state = .held ↔ a.response ≠ none) ∧ (b.state = .held ↔ b.response ≠ none)

/-! ## What flags, notices and triggers may touch -/

/-- `s` with those parts taken from `t` that the rise of a flag may change (R151, R152, R154): the outputs,
the flags, the notice-pending mark, the notices kept for a response, and the C-port's queues, transmitter
and counters.  A state `t` that equals this is like `s` everywhere else. -/
def withNotices (s t : State) : State :=
  { s with
    lines := { s.lines with
      outputs := t.lines.outputs, flags := t.lines.flags, noticePending := t.lines.noticePending }
    deferred := t.deferred
    link := { s.link with cPort := t.link.cPort } }

/-- The same, with the Recorder, which a trigger may change (R102). -/
def withTriggers (s t : State) : State := { withNotices s t with recorder := t.recorder }

/-- `s` with the sand request and its timer taken from `t` (R46). -/
def withSand (s t : State) : State :=
  { s with slide := { s.slide with sandRequest := t.slide.sandRequest, sandTimer := t.slide.sandTimer } }

/-- The waiting frames that are no notices. -/
def plainFrames (ps : PortState) : List OriginatedFrame :=
  ps.originated.filter (fun f => f.cls ≠ Config.clsNotice)

/-- What the notices of an event may do to the C-port (R138 to R141, R154): no frame but a NOTICE enters,
no waiting forwarded frame is lost but the one that an IDLE transmitter takes, and only ORIGINATED_DROP
counts; behind a frame that is being sent, only notices change. -/
def NoticesOnly (a b : PortState) : Prop :=
  (∀ f ∈ b.originated, f ∈ a.originated ∨ f.cls = Config.clsNotice)
  ∧ b.forward <:+ a.forward
  ∧ b.counters = { a.counters with originatedDrop := b.counters.originatedDrop }
  ∧ (a.transmitter ≠ .idle → b.transmitter = a.transmitter ∧ b.sequence = a.sequence
      ∧ b.forward = a.forward ∧ plainFrames b = plainFrames a)

/-- The flags after an event that raises those of `must` and may raise those of `may` (R152): a flag stays
set, and no other flag rises. -/
def FlagsRaised (must may : List Flag) (s t : State) : Prop :=
  ∀ f : Flag, (flagSet s f = true ∨ f ∈ must → flagSet t f = true)
    ∧ (flagSet t f = true → flagSet s f = true ∨ f ∈ must ∨ f ∈ may)

/-- State `t` is `u` after nothing but the rise of flags, with the notices this causes and the outputs driven
(R151, R152, R154). -/
def RaisedFrom (must may : List Flag) (u t : State) : Prop :=
  t = withNotices u t ∧ FlagsRaised must may u t ∧ NoticesOnly u.link.cPort t.link.cPort
  ∧ OutputsOk t ∧ (u.deferred = none → t.deferred = none)

/-- State `t` is `u` after nothing but triggers and the rise of flags; outside SERVICE the Recorder stands
(R102). -/
def TriggeredFrom (must may : List Flag) (u t : State) : Prop :=
  t = withTriggers u t ∧ FlagsRaised must may u t ∧ NoticesOnly u.link.cPort t.link.cPort
  ∧ OutputsOk t ∧ (u.deferred = none → t.deferred = none)
  ∧ (u.control.mode ≠ .service → t.recorder = u.recorder)

/-- State `t` is `u` after the owner's event delivered one trigger of this kind to the Recorder (R102): flags and
notices as `TriggeredFrom` has them, the Recorder as the trigger leaves it, and INCIDENT_LOST set if it was or if
the trigger set it (R105). -/
def TriggeredBy (kind : TriggerKind) (must : List Flag) (u t : State) : Prop :=
  TriggeredFrom must [.incidentLost] u t
  ∧ t.recorder = (deliverTrigger u kind none none).1.recorder
  ∧ flagSet t .incidentLost = flagSet (deliverTrigger u kind none none).1 .incidentLost

/-- An emergency condition is present (R20): the EMERG input at its accepted active level, or a VALID source whose
last good demand record carries the emergency flag. -/
def EmergencyPresent (s : State) : Prop :=
  (s.lines.inputs.get 0).accepted = true
  ∨ ∃ k : Source, (s.authority.monitors.get k).state = .valid
      ∧ ∃ g, s.authority.good.get k = some g ∧ g.record.emergency = true

/-- Where the emergency reset timer stands in `t`, from where it stood before the event (R20): stopped while the
latch is clear or a condition is present; otherwise started from zero if it was stopped and SOURCE is LOADED,
and left as it was if it runs or has expired. -/
def ResetTimerFollows (before : Timer) (t : State) : Prop :=
  (t.authority.latch = false ∨ EmergencyPresent t → t.authority.resetTimer = .stopped)
  ∧ (t.authority.latch = true → ¬ EmergencyPresent t → before = .stopped →
      t.authority.resetTimer = if t.tables.source.loaded then .running 0 else .stopped)
  ∧ (t.authority.latch = true → ¬ EmergencyPresent t → before ≠ .stopped → t.authority.resetTimer = before)

/-- State `t` is `s` after the monitor of a source lost its node (R3): SILENT with count 0, the good records, the
lock and the mark kept; the loss of the active source's VALID monitor enters FALLBACK in HOLD (R12), with a
SOURCE_LOSS trigger; a monitor that leaves VALID bears on the emergency reset timer (R20) and on the sand request
(R46). -/
def SourceSilenced (k : Source) (s t : State) : Prop :=
  t.authority.monitors = s.authority.monitors.set k ⟨.silent, 0⟩
  ∧ t.authority.good = s.authority.good ∧ t.authority.lock = s.authority.lock
  ∧ t.authority.autoMark = s.authority.autoMark ∧ t.authority.latch = s.authority.latch
  ∧ (if (s.authority.monitors.get k).state = .valid ∧ s.authority.active = .source k then
      t.authority.active = .fallback ∧ t.authority.phase = .hold ∧ t.authority.lost = some k
      ∧ t.authority.holdTimer = .running 0 ∧ t.authority.pendingSwitch = none ∧ flagSet t .sourceLoss = true
      ∧ t.recorder = (deliverTrigger { s with authority := t.authority } .sourceLoss none none).1.recorder
    else
      t.recorder = s.recorder ∧
      t.authority.active = s.authority.active ∧ t.authority.phase = s.authority.phase
      ∧ t.authority.lost = s.authority.lost ∧ t.authority.holdTimer = s.authority.holdTimer
      ∧ t.authority.pendingSwitch = s.authority.pendingSwitch)
  ∧ (if (s.authority.monitors.get k).state = .valid then ResetTimerFollows s.authority.resetTimer t
    else t.authority.resetTimer = s.authority.resetTimer)
  ∧ t.slide = (if (s.authority.monitors.get k).state = .valid then
      (evalSand { s with authority := t.authority }).slide else s.slide)
  ∧ t.brake = s.brake ∧ t.air = s.air ∧ t.slide.axles = s.slide.axles ∧ t.slide.vRef = s.slide.vRef

/-- The Dynamic Brake Channel brought out of SETUP or ACTIVE into another state (R52 to R58): both state timers
stopped, the shortfall latch clear and its timers stopped. -/
def broughtOut (b : Brake) (state : DbState) (cause : Option TripCause) : Brake :=
  { b with
    state := state
    cause := cause
    setupTimer := .stopped
    idleTimer := .stopped
    shortfall := false
    shortSet := .stopped
    shortClear := .stopped }

/-! ## A request's way through the Management Unit -/

/-- The buffer that a request entering now uses, if it can be taken in its arrival event (R158, R160): buffer A,
or B beside a validation in flight; the other buffer holds nothing that has to be served first. -/
def slotFor (m : Management) : Option Bool :=
  if m.bufA.state = .free ∧ (m.bufB.state = .free ∨ m.bufB.state = .inFlight) then some false
  else if m.bufA.state = .inFlight ∧ m.bufB.state = .free then some true
  else none

/-- The part can take a request in its arrival event: it is not held in reset, a buffer is FREE with nothing
to be served before it, and the C-port originated queue has room. -/
def Ready (s : State) : Prop :=
  s.inReset = false ∧ slotFor s.management ≠ none
  ∧ s.link.cPort.originated.length < Config.originatedCapacity

/-- The Management Unit with a buffer in the place that an arriving request takes, and the arrival mark this
gives. -/
def placed (m : Management) (b : Buffer) : Management :=
  if slotFor m = some true then { m with bufB := b, bFirst := false }
  else { m with bufA := b, bFirst := m.bufB.state ≠ .free }

/-- The state in which a request taken at its arrival is judged: it stands WAITING in its buffer (R158), and
the notices of the event wait for its response (R172). -/
def underRequest (s : State) (src : Byte) (payload : List Byte) : State :=
  { s with management := placed s.management (waitingBuffer src payload), deferred := some [] }

/-- The response frame to a command (R164). -/
def responseFrame (src tag : Byte) (k : Command) (r : ResultCode) (data : List Byte) : OriginatedFrame where
  dst := src
  cls := Config.clsMgmtResponse
  payload := [tag, commandCode k, BitVec.ofNat 8 (resultCode r)] ++ data

/-- A state after a request was answered in it (R164): the response entered the C-port originated queue, the
buffer is FREE, and the outputs follow their conditions. -/
def answered (s : State) (f : OriginatedFrame) : State :=
  syncOutputs { enterResponse f s with management := placed s.management Buffer.free, deferred := none }

/-- The requester may issue the command with these arguments (R162, R163). -/
def MayIssue (s : State) (src : Byte) (k : Command) (args : List Byte) : Prop :=
  permitted s k src = true ∧ cabTest s k src args = true

end Sys2Proof.Machine
end

