-- ==== Sys2Proof/Certificates/Slice0/Obligations.lean ====
section
/-! DEFINITION. The statements for the provers.  Each docstring names the rules it states, and where it rests on a
choice of the model, the log entry. -/

open Sys2Proof Sys2Proof.Machine

/-! ## The part and its queue -/

/-- A step with a command at the front of the queue is that command's effect on the state with the queue's
rest. -/
def Obligations.StepTakesFrontCommand : Prop :=
  ∀ (c : Instr) (rest : List Instr) (s : State), step (withQueue s (c :: rest)) = exec c (withQueue s rest)

/-- Every command answers a next state, from every state, and leaves the waiting commands alone; between events
no notice is kept back (R172). -/
def Obligations.CommandsAnswerAndKeepQueue : Prop :=
  ∀ (c : Instr) (s : State), ∃ t, exec c s = .next t ∧ t.pending = s.pending ∧ t.choice = s.choice
    ∧ (s.deferred = none → t.deferred = none)

/-- R182: while the part is held in power-on reset no command has an effect but the two resets; a pin's level
alone changes.  A low pulse shorter than 10 µs is ignored; one of 10 µs or longer, and the power-up, hold the
part: transmitters IDLE, outputs released, every other block at its power-on values (log entry 4).  The two holds
may overlap: a release of the one leaves the part held by the other, and otherwise as it is. -/
def Obligations.HeldInPowerOnReset : Prop :=
  (∀ (cause : ResetCause) (s : State), exec (.resetAssert cause) s = .next
    (if (match cause with
        | .powerUp => true
        | .pinLow n => decide (10 ≤ n)) then
      { State.reset with
        hold := match cause with
          | .powerUp => { s.hold with powerUp := true }
          | .pinLow _ => { s.hold with pinLow := true }
        link := { Link.reset with own := s.link.own }
        lines := { Lines.reset with inputs := s.lines.inputs.map (fun r => { InputRecord.reset with pin := r.pin }) }
        pending := s.pending
        choice := s.choice }
    else s))
  ∧ (∀ (straps : BitVec 3) (s : State),
    (s.hold.powerUp = true → exec (.powerOnReset (.risingEdge straps)) s = .next { s with hold := ⟨false, true⟩ })
    ∧ (s.hold.pinLow = true → exec (.powerOnReset (.supplyInRange straps)) s = .next { s with hold := ⟨true, false⟩ }))
  ∧ (∀ s : State, s.inReset = true ↔ s.hold.pinLow = true ∨ s.hold.powerUp = true)
  ∧ ∀ (c : Instr) (s : State), s.inReset = true → exec c s = .next
    (match c with
      | .resetAssert _ => (match exec c s with
        | .next t => t
        | _ => s)
      | .powerOnReset _ => (match exec c s with
        | .next t => t
        | _ => s)
      | .discretePinChange n high => setInput s n { s.lines.inputs.get n with pin := high }
      | _ => s)

/-- R182, R132, R157 with the power-on values of R23, R48, R64, R88, R99, R126, R146, R169, R170 and R180: the own
address is 240 plus the straps; each line is read, and a high pin is accepted ACTIVE in the same event: EMERG
sets the latch with its flag, PENALTY its flag, DB_CUTOUT enters CUTOUT.  So it is at the release that leaves no
hold standing.  Taken outside a hold, the command stands for the whole pulse (log entry 4). -/
def Obligations.PowerOnResetState : Prop :=
  ∀ (release : ResetRelease) (s : State),
    (match release with
      | .risingEdge _ => s.hold.powerUp
      | .supplyInRange _ => s.hold.pinLow) = false →
    let straps := match release with
      | .risingEdge x | .supplyInRange x => x
    let pin := fun n : Fin 6 => (s.lines.inputs.get n).pin
    exec (.powerOnReset release) s = .next
      { State.reset with
        link := { Link.reset with own := BitVec.ofNat 8 (240 + straps.toNat) }
        authority := { Authority.reset with latch := pin 0 }
        brake := { Brake.reset with state := if pin 2 then .cutout else .off }
        lines :=
          { inputs := s.lines.inputs.map (fun r => ⟨r.pin, r.pin, r.pin, .stopped, false⟩)
            outputs := ⟨false, pin 0, false⟩
            flags := (if pin 0 then 1 else 0) ||| (if pin 1 then 2 else 0)
            noticePending := false }
        pending := s.pending
        choice := s.choice }

/-- The model's choice (log entry 1), with no command waiting: an expiry that is due is taken, where several are due
whichever the free choice names; otherwise a millisecond passes.  Due are exactly the expiries whose time has come:
a frame's line time (R140), a limit reached, or passed for the stale and episode timers (R28, R39), 20 ms for the
two periods, 2 ms for a validation (R176).  The local counter counts, wrapping (R180);
running timers run; the axles' timers hold while the speed data is LOST (R29); a transmitter spends 1000 µs;
tables, flags, queues and the Recorder stand. -/
def Obligations.IdleStepPassesTime : Prop :=
  (∀ s : State, s.pending = [] → s.inReset = false → dueCommands s ≠ [] →
    ∃ c ∈ dueCommands s, step s = exec c { s with choice := s.choice + 1 })
  ∧ (∀ (c : Instr) (s : State),
    let reached := fun (x : Timer) (limit : Nat) => ∃ e, x = .running e ∧ limit ≤ e
    let passed := fun (x : Timer) (limit : Nat) => ∃ e, x = .running e ∧ limit < e
    let axle := fun i : Fin 6 => s.slide.axles.get i
    c ∈ dueCommands s ↔ match c with
      | .transmitComplete p =>
        ∃ o bytes m, (getPort s p).transmitter = .sending o bytes m ∧ 5 * bytes.length + 20 ≤ m
      | .livenessExpiry i => tableField s.tables.nodes i.val 0 = 1 ∧ (getNode s i.val).liveness = .live
        ∧ reached (getNode s i.val).timer (tableField s.tables.nodes i.val 4)
      | .holdTimerExpiry => reached s.authority.holdTimer (tableField s.tables.source 2 0)
      | .emergencyResetExpiry => reached s.authority.resetTimer (tableField s.tables.source 3 0)
      | .staleTimerExpiry =>
        s.slide.speedState = .valid ∧ passed s.slide.staleTimer (tableField s.tables.slide 0 0)
      | .episodeTimerExpiry i =>
        s.slide.speedState ≠ .lost ∧ passed (axle i).episode (tableField s.tables.slide 12 0)
      | .lockedTimeout i => s.slide.speedState ≠ .lost ∧ (axle i).state = .locked
        ∧ reached (axle i).stateTimer (tableField s.tables.slide 17 0)
      | .sandHoldExpiry => reached s.slide.sandTimer (tableField s.tables.slide 19 0)
      | .setupTimerExpiry => s.brake.state = .setup ∧ reached s.brake.setupTimer (tableField s.tables.db 0 0)
      | .idleTimerExpiry => s.brake.state = .active ∧ reached s.brake.idleTimer (tableField s.tables.db 1 0)
      | .heatPeriod => 20 ≤ s.brake.heatElapsed
      | .blendPeriod => s.control.mode = .service ∧ reached s.blend.timer 20
      | .debounceExpiry n =>
        reached (s.lines.inputs.get n).debounce (tableField s.tables.discrete n.val 1)
      | .validationComplete => ∃ n, s.control.validation = some n ∧ 2 ≤ n
      | _ => False)
  ∧ ∀ s : State, s.pending = [] → s.inReset = false → dueCommands s = [] →
    step s = .next
      { s with
        control := { s.control with
          localMs := s.control.localMs + 1
          validation := s.control.validation.map (· + 1) }
        authority := { s.authority with
          holdTimer := s.authority.holdTimer.tick, resetTimer := s.authority.resetTimer.tick }
        slide := { s.slide with
          staleTimer := s.slide.staleTimer.tick
          sandTimer := s.slide.sandTimer.tick
          axles := s.slide.axles.map (fun a =>
            if s.slide.speedState = .lost then a
            else { a with stateTimer := a.stateTimer.tick, episode := a.episode.tick, lockTimer := a.lockTimer.tick }) }
        brake := { s.brake with
          setupTimer := s.brake.setupTimer.tick
          idleTimer := s.brake.idleTimer.tick
          shortSet := s.brake.shortSet.tick
          shortClear := s.brake.shortClear.tick
          heatElapsed := s.brake.heatElapsed + 1 }
        blend := { s.blend with timer := s.blend.timer.tick }
        air := { s.air with standstill := s.air.standstill.tick }
        link :=
          { s.link with
            nodes := s.link.nodes.map (fun n => { n with timer := n.timer.tick })
            cPort := { s.link.cPort with transmitter := tickTransmitter s.link.cPort.transmitter }
            ePort := { s.link.ePort with transmitter := tickTransmitter s.link.ePort.transmitter } }
        lines := { s.lines with
          inputs := s.lines.inputs.map (fun r => { r with debounce := r.debounce.tick }) } }

/-! ## Link Unit -/

/-- R127, R128, R130, R131: the receive status by its tests in order; what a damaged frame does: its port counter, its
node's error counter, FRAME_ERROR, and nothing else; a GOOD E-port frame without a node is counted UNKNOWN, and a
frame that repeats its node's last sequence is counted as a duplicate, both with no other effect. -/
def Obligations.FramesDroppedOnArrival : Prop :=
  (∀ bytes : List Byte, receiveStatus bytes =
    if bytes.length < 7 then .runt
    else if 247 < bytes.length then .long
    else if bytes.length ≠ 7 + (bytes.getD 4 0).toNat then .lengthMismatch
    else if (crc16 (bytes.take (bytes.length - 2))).toNat
        ≠ 256 * (bytes.getD (bytes.length - 2) 0).toNat + (bytes.getD (bytes.length - 1) 0).toNat then .checkError
    else .good)
  ∧ (∀ (p : Port) (bytes : List Byte) (s : State), s.inReset = false → receiveStatus bytes ≠ .good →
    ∃ t, exec (.frameArrival p bytes) s = .next t ∧
      RaisedFrom [.frameError] []
        (let k := (getPort s p).counters
        let counted : PortCounters := match receiveStatus bytes with
          | .runt => { k with runt := bump k.runt }
          | .long => { k with long := bump k.long }
          | .lengthMismatch => { k with lengthMismatch := bump k.lengthMismatch }
          | .checkError => { k with checkError := bump k.checkError }
          | .good => k
        let u := setPort s p { getPort s p with counters := counted }
        match bytes[1]?.bind (lookupNode s.tables p) with
          | some i => setNode u i { getNode s i with error := bump (getNode s i).error }
          | none => u) t)
  ∧ (∀ (bytes : List Byte) (s : State), s.inReset = false → receiveStatus bytes = .good →
    lookupNode s.tables .e (parseFrame bytes).src = none →
    exec (.frameArrival .e bytes) s = .next (syncOutputs
      { s with link := { s.link with ePort := { s.link.ePort with counters := { s.link.ePort.counters with
          rxGood := bump s.link.ePort.counters.rxGood
          unknown := bump s.link.ePort.counters.unknown } } } }))
  ∧ ∀ (p : Port) (bytes : List Byte) (i : Nat) (s : State), s.inReset = false → receiveStatus bytes = .good →
    lookupNode s.tables p (parseFrame bytes).src = some i →
    (getNode s i).lastSeq = some (parseFrame bytes).seq →
    exec (.frameArrival p bytes) s = .next (syncOutputs
      (setNode (setPort s p { getPort s p with counters := { (getPort s p).counters with
          rxGood := bump (getPort s p).counters.rxGood } })
        i { getNode s i with duplicate := bump (getNode s i).duplicate }))

/-- R127 with the outer form of chapter 11: a frame with its check bytes, whatever its header and whatever a payload
of at most 240 bytes, is received GOOD and reads back as the same frame. -/
def Obligations.WholeFramesReceivedAsSent : Prop :=
  ∀ f : Frame, f.payload.length ≤ 240 → receiveStatus (wholeFrame f) = .good ∧ parseFrame (wholeFrame f) = f

/-- R131, R142: a GOOD frame of a known node that is no duplicate, and that is not to the own address, is accepted:
last sequence, good and gap counters, and liveness refreshed; the other nodes stand.  R133: after the pattern offer
it is consumed as its class, port and role say, by the owner's own event, from the entry that binds a singleton
role; any other frame has no owner.  R132: a request to the own address, of a known node or in INIT, is handed to
the Management Unit; R172: a notice that the offer of its own frame forms, at most one, follows the response, here
that of a STATUS_GET. -/
def Obligations.AcceptedFrameRefreshesNode : Prop :=
  (∀ (p : Port) (bytes : List Byte) (i : Nat) (s : State), s.inReset = false → receiveStatus bytes = .good →
    lookupNode s.tables p (parseFrame bytes).src = some i →
    (getNode s i).lastSeq ≠ some (parseFrame bytes).seq → (parseFrame bytes).dst ≠ s.link.own →
    let f := parseFrame bytes
    let gap := decide (∃ x, (getNode s i).lastSeq = some x ∧ f.seq ≠ x + 1)
    let refreshed : NodeRuntime := { getNode s i with
      lastSeq := some f.seq
      good := bump (getNode s i).good
      gap := if gap then bump (getNode s i).gap else (getNode s i).gap
      liveness := .live
      timer := if nodeTimeout s.tables i = 0 then .stopped else .running 0 }
    let offered := offerFrame p f (setNode (setPort s p { getPort s p with counters := { (getPort s p).counters with
      rxGood := bump (getPort s p).counters.rxGood } }) i refreshed)
    let passed := tableField s.tables.classSets ((if p = .c then 0 else 256) + f.cls.toNat) 0 = 1
      ∧ ¬ (s.control.mode = .service ∧ p = .c ∧ (f.cls = 0x70 ∨ f.cls = 0x74))
    let owner : Option Instr := match p, nodeRole s.tables i with
      | .c, some .cabA => if f.cls = 0x21 then some (.demandFrame .cabA gap f) else none
      | .c, some .cabB => if f.cls = 0x21 then some (.demandFrame .cabB gap f) else none
      | .c, some .dp => if f.cls = 0x21 then some (.demandFrame .dp gap f) else none
      | .c, some .locoComputer => if f.cls = 0x28 then some (.timeFrame f.payload) else none
      | .e, some .axleConc => if f.cls = 0x61 then some (.axleSample f.payload) else none
      | .e, some .radar => if f.cls = 0x62 then some (.radarSample f.payload) else none
      | .e, some .traction => if f.cls = 0x68 then some (.tractionStatus f.payload) else none
      | .e, some .valveT1 => if f.cls = 0x6C then some (.valveStatus .t1 f.payload) else none
      | .e, some .valveT2 => if f.cls = 0x6C then some (.valveStatus .t2 f.payload) else none
      | _, _ => none
    let bound := ∀ r, nodeRole s.tables i = some r → r = .locoComputer ∨ binding s.tables r = some i
    let arrival := exec (.frameArrival p bytes) s
    (∃ t, arrival = .next t
      ∧ t.link.nodes = s.link.nodes.set i refreshed
      ∧ (getPort t p).counters.rxGood = bump (getPort s p).counters.rxGood
      ∧ t.link.own = s.link.own ∧ t.tables = s.tables ∧ t.management = s.management
      ∧ t.control = { s.control with timeBase := t.control.timeBase })
    ∧ (∀ c, owner = some c → bound →
      (¬ passed → arrival = exec c (setPort offered p { getPort offered p with
        counters := { (getPort offered p).counters with notPassed := bump (getPort s p).counters.notPassed } }))
      ∧ ∃ t, arrival = .next t ∧ ∀ v, exec c offered = .next v →
        t.authority = v.authority ∧ t.slide = v.slide ∧ t.brake = v.brake ∧ t.air = v.air ∧ t.control = v.control
        ∧ t.recorder = v.recorder ∧ ∀ x : Machine.Flag, x ≠ .queueOverflow → flagSet t x = flagSet v x)
    ∧ (owner = none ∨ ¬ bound → ∃ t, arrival = .next t
      ∧ t.authority = s.authority ∧ t.slide = s.slide ∧ t.brake = s.brake ∧ t.air = s.air ∧ t.control = s.control
      ∧ t.recorder = offered.recorder))
  ∧ ∀ (bytes : List Byte) (s : State), s.inReset = false → receiveStatus bytes = .good →
    (parseFrame bytes).dst = s.link.own → (parseFrame bytes).cls = 0x40 →
    let f := parseFrame bytes
    let node := lookupNode s.tables .c f.src
    (∀ i, node = some i → (getNode s i).lastSeq ≠ some f.seq) → (node ≠ none ∨ s.control.mode = .init) →
    let counted := setPort s .c { s.link.cPort with counters := { s.link.cPort.counters with
      rxGood := bump s.link.cPort.counters.rxGood } }
    let accepted : State := match node with
      | some i => setNode counted i { getNode s i with
          lastSeq := some f.seq
          good := bump (getNode s i).good
          gap := if (∃ x, (getNode s i).lastSeq = some x ∧ f.seq ≠ x + 1)
            then bump (getNode s i).gap else (getNode s i).gap
          liveness := .live
          timer := if nodeTimeout s.tables i = 0 then .stopped else .running 0 }
      | none => counted
    let offered := offerFrame .c f { accepted with deferred := some [] }
    let request := { offered with deferred := s.deferred }
    let arrival := exec (.frameArrival .c bytes) s
    (∃ formed, offered.deferred = some formed ∧ formed.length ≤ 1)
    ∧ (offered.deferred = some [] → arrival = exec (.mgmtRequest f.src f.payload) request)
    ∧ ∀ n, offered.deferred = some [n] → Ready request → ∀ tag sect, f.payload = [tag, 1, sect] →
      ∃ v, exec (.mgmtRequest f.src f.payload) request = .next v
      ∧ (let waiting := v.link.cPort.originated
        let room := waiting.length < 8 ∨ ∃ g ∈ waiting, g.cls = 0x44 ∧ g.dst = n.dst
        let given := handOver v .c n
        arrival = .next (syncOutputs { given with
          lines := { given.lines with noticePending := if room then false else given.lines.noticePending } }))

/-- R132: a frame to the own address that is no request, or arrives on the E-port, or is a request without a node
outside INIT, is counted OWN_DROPPED at its port; a known node is accepted first.  Nothing else changes but what
the pattern offer (R115) may bring the Recorder. -/
def Obligations.OwnAddressFrameDropped : Prop :=
  ∀ (p : Port) (bytes : List Byte) (s : State), s.inReset = false → receiveStatus bytes = .good →
    (parseFrame bytes).dst = s.link.own →
    let node := lookupNode s.tables p (parseFrame bytes).src
    (∀ i, node = some i → (getNode s i).lastSeq ≠ some (parseFrame bytes).seq) →
    (p = .e ∧ node ≠ none ∨ p = .c ∧ (parseFrame bytes).cls ≠ Config.clsMgmtRequest
      ∨ p = .c ∧ node = none ∧ s.control.mode ≠ .init) →
    ∃ t, exec (.frameArrival p bytes) s = .next t ∧
      TriggeredFrom [] [.incidentLost]
        (let u := setPort s p { getPort s p with counters := { (getPort s p).counters with
            rxGood := bump (getPort s p).counters.rxGood
            ownDropped := bump (getPort s p).counters.ownDropped } }
        match node with
        | some i => setNode u i { getNode s i with
            lastSeq := some (parseFrame bytes).seq
            good := bump (getNode s i).good
            gap := if (∃ x, (getNode s i).lastSeq = some x ∧ (parseFrame bytes).seq ≠ x + 1)
              then bump (getNode s i).gap else (getNode s i).gap
            liveness := .live
            timer := if nodeTimeout s.tables i = 0 then .stopped else .running 0 }
        | none => u) t

/-- R135, R137: the forwarding decision for a GOOD frame that reaches it.  A frame whose class is in the pass set
enters the forward queue toward the other port as an exact copy, or is dropped with FORWARD_DROP and
QUEUE_OVERFLOW when that queue is full; otherwise NOT_PASSED counts.  In SERVICE a setpoint from the C-port is
not forwarded, whatever the pass set.  R140: toward an IDLE port the copy is sent at once, unless, toward the
C-port, a NOTICE of the same event goes first and the copy waits behind it. -/
def Obligations.ForwardingDecision : Prop :=
  ∀ (p : Port) (bytes : List Byte) (s : State), s.inReset = false → receiveStatus bytes = .good →
    (parseFrame bytes).dst ≠ s.link.own →
    (∀ i, lookupNode s.tables p (parseFrame bytes).src = some i →
      (getNode s i).lastSeq ≠ some (parseFrame bytes).seq) →
    (lookupNode s.tables p (parseFrame bytes).src = none → p = .c) →
    let cls := (parseFrame bytes).cls
    let member := tableField s.tables.classSets ((if p = .c then 0 else 256) + cls.toNat) 0 = 1
    let blocked := s.control.mode = .service ∧ p = .c ∧ (cls = 0x70 ∨ cls = 0x74)
    let waiting := (getPort s (Port.other p)).forward
    let old := (getPort s p).counters
    let toward := getPort s (Port.other p)
    ∃ t, exec (.frameArrival p bytes) s = .next t
      ∧ (toward.transmitter ≠ .idle →
        (member ∧ ¬ blocked ∧ waiting.length < 16 →
          (getPort t (Port.other p)).forward = waiting ++ [bytes]
          ∧ (getPort t p).counters.forwardDrop = old.forwardDrop ∧ (getPort t p).counters.notPassed = old.notPassed)
        ∧ (member ∧ ¬ blocked ∧ 16 ≤ waiting.length →
          (getPort t (Port.other p)).forward = waiting ∧ flagSet t .queueOverflow = true
          ∧ (getPort t p).counters.forwardDrop = bump old.forwardDrop
          ∧ (getPort t p).counters.notPassed = old.notPassed)
        ∧ (¬ member ∨ blocked →
          (getPort t (Port.other p)).forward = waiting ∧ (getPort t p).counters.forwardDrop = old.forwardDrop
          ∧ (getPort t p).counters.notPassed = bump old.notPassed)
        ∧ (getPort t (Port.other p)).transmitter = (getPort s (Port.other p)).transmitter)
      ∧ (toward.transmitter = .idle → toward.originated = [] → toward.forward = [] →
        let sent := getPort t (Port.other p)
        (getPort t p).counters.forwardDrop = old.forwardDrop
        ∧ (member ∧ ¬ blocked → (getPort t p).counters.notPassed = old.notPassed
          ∧ (sent.transmitter = .sending false bytes 0 ∧ sent.forward = []
            ∨ p = .e ∧ sent.forward = [bytes] ∧ ∃ notice, sent.transmitter = .sending true notice 0
              ∧ notice.getD 2 0 = 0x44))
        ∧ (member ∧ ¬ blocked → p = .c ∨ tableField s.tables.reporting 0 0 = 0 →
          sent.transmitter = .sending false bytes 0)
        ∧ (¬ member ∨ blocked → (getPort t p).counters.notPassed = bump old.notPassed ∧ sent.forward = []
          ∧ (p = .c → sent.transmitter = .idle)))

/-- R140, R141: a completed frame is counted, and the transmitter takes the head of the originated queue, with the
own address, the port's sequence and the check, else the head of the forward queue, else is IDLE.  An IDLE
transmitter completes nothing.  A frame completes at any line time spent (log entry 7); `carry` is line time
already spent (log entry 24).  R155, R160: where this makes room in a full C-port originated queue, the held
response, or the waiting request, is served first, as HELD_RESPONSE_ENTRY and MGMT_REQUEST serve them, and then a
pending notice is formed anew. -/
def Obligations.TransmitterTakesNextFrame : Prop :=
  (∀ (p : Port) (s : State), s.inReset = false → (getPort s p).transmitter = .idle →
    exec (.transmitComplete p) s = .next (syncOutputs s))
  ∧ ∀ (p : Port) (s : State), s.inReset = false → ∀ (originated : Bool) (bytes : List Byte) (micros : Nat),
    (getPort s p).transmitter = .sending originated bytes micros →
    let k := (getPort s p).counters
    let ps := { getPort s p with counters :=
      if originated then { k with txOriginated := bump k.txOriginated }
      else { k with txForwarded := bump k.txForwarded } }
    let carry := micros - (5 * bytes.length + 20)
    let sent := setPort s p
      (match ps.originated, ps.forward with
      | f :: rest, _ => { ps with
          originated := rest
          transmitter := .sending true (wholeFrame ⟨f.dst, s.link.own, f.cls, ps.sequence, f.payload⟩) carry
          sequence := ps.sequence + 1 }
      | [], raw :: rest => { ps with forward := rest, transmitter := .sending false raw carry }
      | [], [] => { ps with transmitter := .idle })
    let complete := exec (.transmitComplete p) s
    let a := s.management.bufA
    let b := s.management.bufB
    let node := tableField s.tables.reporting 0 0
    let noticed := fun u : State =>
      let notice := formNotice u
      let waiting := u.link.cPort.originated
      let room := waiting.length < 8 ∨ ∃ g ∈ waiting, g.cls = 0x44 ∧ g.dst = notice.dst
      let given := handOver u .c notice
      { given with lines := { given.lines with noticePending := !decide room } }
    let entered := fun f : OriginatedFrame =>
      { sent with link := { sent.link with cPort := { sent.link.cPort with
          originated := sent.link.cPort.originated ++ [f] } } }
    ((p = .c → s.link.cPort.originated.length < 8 ∨
        a.state = .free ∧ b.state = .free ∧ s.lines.noticePending = false) →
      complete = .next (syncOutputs sent))
    ∧ (p = .c → s.link.cPort.originated.length = 8 → s.deferred = none →
      (a.state ≠ .waiting → a.state ≠ .held → b.state ≠ .waiting → b.state ≠ .held →
        complete = .next (syncOutputs (if s.lines.noticePending = true ∧ node ≠ 0 then noticed sent else sent)))
      ∧ (∀ f, a.state = .held → a.response = some f → f.cls = 0x41 → (b.state = .free ∨ b.state = .inFlight) →
        let u := { entered f with management := { s.management with bufA := Buffer.free } }
        complete = .next (syncOutputs (if s.lines.noticePending = true ∧ node ≠ 0 then noticed u else u)))
      ∧ (∀ f, b.state = .held → b.response = some f → f.cls = 0x41 → (a.state = .free ∨ a.state = .inFlight) →
        let u := { entered f with management := { s.management with bufB := Buffer.free } }
        complete = .next (syncOutputs (if s.lines.noticePending = true ∧ node ≠ 0 then noticed u else u)))
      ∧ (∀ src payload, a = waitingBuffer src payload → (b.state = .free ∨ b.state = .inFlight) →
        s.management.bFirst = decide (b.state ≠ .free) →
        ∀ v, exec (.mgmtRequest src payload) { sent with
          management := { s.management with bufA := Buffer.free } } = .next v →
        v.lines.noticePending = false ∨ node = 0 ∧ v.tables = s.tables → complete = .next v)
      ∧ (∀ src payload, b = waitingBuffer src payload → a.state = .inFlight → s.management.bFirst = false →
        ∀ v, exec (.mgmtRequest src payload) { sent with
          management := { s.management with bufB := Buffer.free } } = .next v →
        v.lines.noticePending = false ∨ node = 0 ∧ v.tables = s.tables → complete = .next v)
      ∧ (∀ f, a.state = .waiting → b.state = .held → b.response = some f → f.cls = 0x41 →
        s.management.bFirst = true → s.lines.noticePending = false → complete = .next (syncOutputs
          { entered f with management := { s.management with bufB := Buffer.free } }))
      ∧ (∀ f, b.state = .waiting → a.state = .held → a.response = some f → f.cls = 0x41 →
        s.management.bFirst = false → s.lines.noticePending = false → complete = .next (syncOutputs
          { entered f with management := { s.management with bufA := Buffer.free } })))

/-- R138, R139: what the hand-over of an originated frame does behind a frame that is being sent (at an IDLE
transmitter no frame waits: StepKeepsQueues).  A setpoint on the
E-port, a NOTICE or BRAKE_REPORT on the C-port replaces the waiting frame of its class and destination in
place; any other frame enters at the tail while fewer than 8 wait, and is discarded and counted when 8 do.  An
IDLE transmitter with empty queues sends it at once, under the port's next sequence (R140, R141). -/
def Obligations.OriginatedFrameHandedOver : Prop :=
  (∀ (s : State) (p : Port) (f g : OriginatedFrame) (before after : List OriginatedFrame),
    (getPort s p).transmitter ≠ .idle → (getPort s p).originated = before ++ g :: after →
    g.cls = f.cls → g.dst = f.dst → (∀ x ∈ before, ¬ (x.cls = f.cls ∧ x.dst = f.dst)) →
    (p = .c ∧ (f.cls = 0x44 ∨ f.cls = 0x48) ∨ p = .e ∧ (f.cls = 0x70 ∨ f.cls = 0x74)) →
    handOver s p f = setPort s p { getPort s p with originated := before ++ f :: after })
  ∧ (∀ (s : State) (p : Port) (f : OriginatedFrame),
    (getPort s p).transmitter ≠ .idle →
    (p = .c ∧ f.cls ≠ 0x44 ∧ f.cls ≠ 0x48 ∨ p = .e ∧ f.cls ≠ 0x70 ∧ f.cls ≠ 0x74 ∨ ∀ x ∈ (getPort s p).originated, ¬ (x.cls = f.cls ∧ x.dst = f.dst)) →
    handOver s p f = setPort s p
      (if (getPort s p).originated.length < 8 then
        { getPort s p with originated := (getPort s p).originated ++ [f] }
      else { getPort s p with counters := { (getPort s p).counters with
          originatedDrop := bump (getPort s p).counters.originatedDrop } }))
  ∧ ∀ (s : State) (p : Port) (f : OriginatedFrame),
    (getPort s p).transmitter = .idle → (getPort s p).originated = [] →
    handOver s p f = setPort s p { getPort s p with
      transmitter := .sending true (wholeFrame ⟨f.dst, s.link.own, f.cls, (getPort s p).sequence, f.payload⟩) 0
      sequence := (getPort s p).sequence + 1 }

/-- R142, R143: the expiry of a LIVE node whose timer has reached its timeout makes it LOST, stops its timer and sets
NODE_LOST; an entry without a delivered role (none, an observer's, or not its role's binding) does no more.
Before it is due the command has no effect (log entry 7). -/
def Obligations.LivenessExpiryLosesNode : Prop :=
  ∀ (i : Fin 32) (s : State), s.inReset = false →
    let n := getNode s i.val
    let due := nodeUsed s.tables i.val = true ∧ n.liveness = .live
      ∧ ∃ e, n.timer = .running e ∧ nodeTimeout s.tables i.val ≤ e
    let u := setNode s i.val { n with liveness := .lost, timer := .stopped }
    (¬ due → exec (.livenessExpiry i) s = .next (syncOutputs s))
    ∧ (due → ∃ t, exec (.livenessExpiry i) s = .next t
      ∧ t.link.nodes = u.link.nodes ∧ flagSet t .nodeLost = true ∧ t.tables = s.tables ∧ t.control = s.control
      ∧ t.blend = s.blend ∧ t.management = s.management ∧ t.link.ePort = s.link.ePort
      ∧ ((∀ r, nodeRole s.tables i.val = some r →
          r = .locoComputer ∨ r = .recorder ∨ r = .tool ∨ r = .other ∨ binding s.tables r ≠ some i.val) →
        RaisedFrom [.nodeLost] [] u t))

/-- R143 with R3, R12 and R20, R29, R31, R54, R90 and R91: a due expiry of the node that holds a role's binding is
delivered to the role's owner, with the flags, the trigger and the reset timer's move that the loss gives. -/
def Obligations.NodeLossDelivered : Prop :=
  ∀ (i : Fin 32) (s : State), s.inReset = false → nodeUsed s.tables i.val = true →
    (getNode s i.val).liveness = .live →
    (∃ e, (getNode s i.val).timer = .running e ∧ nodeTimeout s.tables i.val ≤ e) →
    ∀ r, nodeRole s.tables i.val = some r → binding s.tables r = some i.val →
    let stands := fun t : State => FlagsRaised [.nodeLost] [] s t ∧ t.recorder = s.recorder
    let triggered := fun (kind : TriggerKind) (flag : Machine.Flag) (t : State) =>
      FlagsRaised [.nodeLost, flag] [.incidentLost] s t
      ∧ t.recorder = (deliverTrigger s kind none none).1.recorder
      ∧ flagSet t .incidentLost = flagSet (deliverTrigger s kind none none).1 .incidentLost
    ∃ t, exec (.livenessExpiry i) s = .next t
      ∧ (r = .cabA → SourceSilenced .cabA s t) ∧ (r = .cabB → SourceSilenced .cabB s t)
      ∧ (r = .dp → SourceSilenced .dp s t)
      ∧ (r = .axleConc → s.slide.speedState = .valid →
          t.slide = { s.slide with speedState := .lost, staleTimer := .stopped }
          ∧ t.air = { s.air with standstill := .stopped } ∧ triggered .speedLost .speedLost t
          ∧ t.authority = s.authority ∧ t.brake = s.brake)
      ∧ (r = .axleConc → s.slide.speedState ≠ .valid → t.slide = s.slide ∧ t.air = s.air ∧ stands t)
      ∧ (r = .radar → t.slide = { s.slide with radar := none } ∧ stands t
          ∧ t.authority = s.authority ∧ t.brake = s.brake ∧ t.air = s.air)
      ∧ (r = .traction → s.brake.state = .active →
          t.brake = broughtOut s.brake .tripped (some .link)
          ∧ triggered .dbTrip .dbTrip t ∧ t.authority = s.authority ∧ t.slide = s.slide ∧ t.air = s.air)
      ∧ (r = .traction → s.brake.state ≠ .active → t.brake = s.brake ∧ stands t)
      ∧ (r = .valveT1 → t.air = { s.air with truck1 := { s.air.truck1 with condition := .link } }
        ∧ (s.air.truck1.condition = .clear → triggered .valveLost .valveLost t)
        ∧ (s.air.truck1.condition ≠ .clear → stands t))
      ∧ (r = .valveT2 → t.air = { s.air with truck2 := { s.air.truck2 with condition := .link } }
        ∧ (s.air.truck2.condition = .clear → triggered .valveLost .valveLost t)
        ∧ (s.air.truck2.condition ≠ .clear → stands t))
      ∧ (r = .locoComputer ∨ r = .recorder ∨ r = .tool ∨ r = .other → stands t)

/-! ## Demand Authority Unit -/

/-- R1, R2, R4: a delivered frame is stored as its source's last good record, field by field as received, with its
image; it moves its source's monitor by the table of R2, while the SOURCE table is LOADED (a count that is
reached at once needs an ACQUIRE_COUNT that R2 excludes: log entry 8).  R8, R16: a frame that makes its source VALID
completes the pending switch to it, or, with none pending and the mark set, the auto-switch of the preferred
source, with SOURCE_SWITCHED; any other frame leaves the active source, the phase, the pending switch and the mark.
The latch and its timer apart, nothing else of the unit changes; R46: the sand request follows the new demand.  A
frame that is too short does nothing. -/
def Obligations.DemandFrameMovesMonitor : Prop :=
  ∀ (k : Source) (gap : Bool) (f : Frame) (s : State), s.inReset = false →
    (f.payload.length < 6 → exec (.demandFrame k gap f) s = .next (syncOutputs s))
    ∧ (6 ≤ f.payload.length →
      let b := fun n => f.payload.getD n 0
      let need := tableField s.tables.source 1 0
      let m := s.authority.monitors.get k
      ∃ t, exec (.demandFrame k gap f) s = .next t
        ∧ t.authority.good = s.authority.good.set k (some
          { record :=
              { reduction := (b 0).toNat
                independent := 256 * (b 1).toNat + (b 2).toNat
                handle := (b 3).toNat
                emergency := (b 4).getLsbD 0
                bailOff := (b 4).getLsbD 1
                sand := (b 4).getLsbD 2
                direction := b 5 }
            image := f })
        ∧ t.authority.monitors = s.authority.monitors.set k
          (if s.tables.source.loaded then
            (match m.state with
            | .silent => if need ≤ 1 then ⟨.valid, 1⟩ else ⟨.acquiring, 1⟩
            | .acquiring =>
              if gap then ⟨.acquiring, 1⟩
              else if need ≤ m.count + 1 then ⟨.valid, m.count + 1⟩
              else ⟨.acquiring, m.count + 1⟩
            | .valid => m)
          else m)
        ∧ t.authority.lock = s.authority.lock
        ∧ (let code := match k with
            | .cabA => 1
            | .cabB => 2
            | .dp => 3
          let becomes := m.state ≠ .valid ∧ (t.authority.monitors.get k).state = .valid
          let completes := becomes ∧ s.authority.pendingSwitch = some k
          let starts := becomes ∧ s.authority.pendingSwitch = none ∧ s.authority.autoMark = true
            ∧ (s.authority.lock = some k ∨ s.authority.lock = none ∧ tableField s.tables.source 0 0 = code)
          let moved : Authority := { s.authority with
            good := t.authority.good
            monitors := t.authority.monitors
            latch := t.authority.latch
            resetTimer := t.authority.resetTimer }
          (completes ∨ starts →
            t.authority = { moved with
              active := .source k, pendingSwitch := none, phase := .none, lost := none, holdTimer := .stopped
              autoMark := t.authority.autoMark }
            ∧ FlagsRaised [.sourceSwitched] [.emergency, .incidentLost] s t)
          ∧ (completes → t.authority.autoMark = s.authority.autoMark)
          ∧ (starts → t.authority.autoMark = false)
          ∧ (¬ completes → ¬ starts →
            t.authority = moved ∧ FlagsRaised [] [.emergency, .incidentLost] s t))
        ∧ t = withTriggers (evalSand { s with authority := t.authority }) t)

/-- R19, R20, R21: a frame with the emergency flag from a source that is VALID after it sets the latch, with its
flag and output, and stops the reset timer; no other frame sets it.  A set latch clears at a frame exactly when
the reset timer has expired, no condition is present, the source is active after the frame, and the frame's
reduction as received reaches AUTO_FULL without the flag.  The setting delivers the EMERGENCY trigger; and the
reset timer starts from zero when the frame leaves no condition (R20). -/
def Obligations.DemandFrameActsOnLatch : Prop :=
  ∀ (k : Source) (gap : Bool) (f : Frame) (s : State), s.inReset = false → 6 ≤ f.payload.length →
    ∃ t, exec (.demandFrame k gap f) s = .next t ∧
      let flagged := (f.payload.getD 4 0).getLsbD 0
      let valid := (t.authority.monitors.get k).state = .valid
      (flagged = true ∧ valid →
        t.authority.latch = true ∧ t.authority.resetTimer = .stopped ∧ t.lines.outputs.emergActive = true
        ∧ (s.authority.latch = false → flagSet t .emergency = true))
      ∧ (¬ (flagged = true ∧ valid) → s.authority.latch = false → t.authority.latch = false)
      ∧ (s.authority.latch = true → (t.authority.latch = false ↔
          s.authority.resetTimer = .expired ∧ emergencyCondition t = false ∧ t.authority.active = .source k
          ∧ flagged = false ∧ s.tables.blend.loaded = true
          ∧ tableField s.tables.blend 7 0 ≤ (f.payload.getD 0 0).toNat))
      ∧ ResetTimerFollows s.authority.resetTimer t
      ∧ (flagged = true ∧ valid ∧ s.authority.latch = false → t.recorder =
          (deliverTrigger { s with authority := t.authority } .emergency none none).1.recorder)
      ∧ (¬ (flagged = true ∧ valid ∧ s.authority.latch = false) → t.recorder = s.recorder)

/-- R8, R16: the completion of a pending switch to a VALID target, and the start-up auto-switch to the preferred
source (the locked one, else PREFERRED); otherwise the command changes no authority. -/
def Obligations.SwitchCompletes : Prop :=
  (∀ (k : Source) (s : State), s.inReset = false →
    let due := s.authority.pendingSwitch = some k ∧ (s.authority.monitors.get k).state = .valid
    ∃ t, exec (.sourceSwitchComplete k) s = .next t
      ∧ (due → RaisedFrom [.sourceSwitched] []
        (evalSand { s with authority := { s.authority with
          active := .source k, pendingSwitch := none, phase := .none, lost := none, holdTimer := .stopped } }) t)
      ∧ (¬ due → t = syncOutputs (evalSand s)))
  ∧ ∀ (k : Source) (s : State), s.inReset = false →
    let code := match k with
      | .cabA => 1
      | .cabB => 2
      | .dp => 3
    let due := s.authority.autoMark = true ∧ s.authority.pendingSwitch = none
      ∧ (s.authority.lock = some k ∨ s.authority.lock = none ∧ tableField s.tables.source 0 0 = code)
      ∧ (s.authority.monitors.get k).state = .valid
    ∃ t, exec (.autoSwitch k) s = .next t
      ∧ (due → RaisedFrom [.sourceSwitched] []
        (evalSand { s with authority := { s.authority with
          active := .source k, pendingSwitch := none, phase := .none, lost := none, holdTimer := .stopped
          autoMark := false } }) t)
      ∧ (¬ due → t = syncOutputs (evalSand s))

/-- R13, R20, R21: the HOLD timer's expiry enters PENALTY, the emergency reset timer's expiry is kept as expired, and
the clearing test clears the latch exactly when it passes.  Before it is due an expiry has no effect (log
entry 7). -/
def Obligations.AuthorityTimersAndLatchClear : Prop :=
  (∀ s : State, s.inReset = false →
    let due := ∃ e, s.authority.holdTimer = .running e ∧ tableField s.tables.source 2 0 ≤ e
    ∃ t, exec .holdTimerExpiry s = .next t
      ∧ (due → t = syncOutputs (evalSand { s with authority := { s.authority with
          phase := .penalty, holdTimer := .stopped } }))
      ∧ (¬ due → t = syncOutputs s))
  ∧ (∀ s : State, s.inReset = false →
    let due := ∃ e, s.authority.resetTimer = .running e ∧ tableField s.tables.source 3 0 ≤ e
    ∃ t, exec .emergencyResetExpiry s = .next t
      ∧ (due → t = syncOutputs { s with authority := { s.authority with resetTimer := .expired } })
      ∧ (¬ due → t = syncOutputs s))
  ∧ ∀ (k : Source) (emergency : Bool) (reduction : Byte) (s : State), s.inReset = false →
    let passes := s.authority.latch = true ∧ s.authority.resetTimer = .expired ∧ s.authority.active = .source k
      ∧ emergency = false ∧ s.tables.blend.loaded = true ∧ tableField s.tables.blend 7 0 ≤ reduction.toNat
    ∃ t, exec (.emergencyLatchClear k emergency reduction) s = .next t
      ∧ (passes → t = syncOutputs { s with authority := { s.authority with
          latch := false, resetTimer := .stopped } })
      ∧ (¬ passes → t = syncOutputs s)

/-- R5, R6, R13, R15, R17, R18: the active demand record as formed while BLEND is LOADED: the presented demand of the
active source or of the fallback phase, the PENALTY line's full service, and the clamps to AUTO_FULL and
BC_MAX. -/
def Obligations.ActiveDemandFormed : Prop :=
  ∀ s : State, s.tables.blend.loaded = true →
    let full := tableField s.tables.blend 7 0
    let top := tableField s.tables.blend 5 0
    let penalty := (s.lines.inputs.get 1).accepted
    let formed := fun (g : GoodDemand) =>
      { reduction := some (if penalty then full else min g.record.reduction full)
        independent := some (min g.record.independent top)
        handle := g.record.handle
        emergency := g.record.emergency
        bailOff := g.record.bailOff
        sand := g.record.sand
        direction := if g.record.direction = 1 ∨ g.record.direction = 2 then g.record.direction else 0 : ActiveDemand }
    (∃ r p, (activeDemand s).reduction = some r ∧ r ≤ full ∧ (penalty = true → r = full)
      ∧ (activeDemand s).independent = some p ∧ p ≤ top)
    ∧ (∀ k g, s.authority.active = .source k → s.authority.good.get k = some g → activeDemand s = formed g)
    ∧ (∀ k g, s.authority.active = .fallback → s.authority.phase = .hold → s.authority.lost = some k →
      s.authority.good.get k = some g → activeDemand s = formed g)
    ∧ (s.authority.active = .fallback → s.authority.phase = .start →
      activeDemand s = ⟨some (if penalty then full else 0), some top, 0, false, false, false, 0⟩)
    ∧ (∀ k g, s.authority.active = .fallback → s.authority.phase = .penalty → s.authority.lost = some k →
      s.authority.good.get k = some g →
      activeDemand s = { formed g with
        reduction := some full, independent := some 0, handle := 0, emergency := false, bailOff := false
        sand := false })

/-- R7, R9, R11: SOURCE_SELECT, SOURCE_ABORT and SOURCE_LOCK, decided and answered.  The data of SOURCE_SELECT is the
active source's code and the optional pending target after the command (log entry 15). -/
def Obligations.SourceCommandsDecided : Prop :=
  (∀ (src tag target : Byte) (s : State), Ready s → MayIssue s src .sourceSelect [target] →
    let respond := responseFrame src tag .sourceSelect
    let now := [BitVec.ofNat 8 (activeCode s.authority.active)] ++ (match s.authority.pendingSwitch with
      | some p => [1, BitVec.ofNat 8 (sourceCode p)]
      | none => [0, 0])
    let select := exec (.sourceSelect src tag target) s
    (sourceOfCode target.toNat = none → select = .next (answered s (respond .badArg [])))
    ∧ ∀ k, sourceOfCode target.toNat = some k →
      (s.authority.active = .source k → select = .next (answered s (respond .redundant now)))
      ∧ (s.authority.active ≠ .source k → s.authority.lock ≠ none → s.authority.lock ≠ some k →
        select = .next (answered s (respond .locked now)))
      ∧ (s.authority.active ≠ .source k → s.authority.lock = none ∨ s.authority.lock = some k →
        (s.authority.monitors.get k).state ≠ .valid →
        select = .next (answered
          (evalSand { s with authority := { s.authority with pendingSwitch := some k, autoMark := false } })
          (respond .accepted
            [BitVec.ofNat 8 (activeCode s.authority.active), 1, BitVec.ofNat 8 (sourceCode k)])))
      ∧ (s.authority.active ≠ .source k → s.authority.lock = none ∨ s.authority.lock = some k →
        (s.authority.monitors.get k).state = .valid →
        ∃ t, select = .next t ∧ RaisedFrom [.sourceSwitched] [] (answered
          (evalSand { s with authority := { s.authority with
            active := .source k, pendingSwitch := none, phase := .none, lost := none, holdTimer := .stopped
            autoMark := false } })
          (respond .accepted [BitVec.ofNat 8 (sourceCode k), 0, 0])) t))
  ∧ (∀ (src tag : Byte) (s : State), Ready s → MayIssue s src .sourceAbort [] →
    exec (.sourceAbort src tag) s = .next
      (match s.authority.pendingSwitch with
      | some _ => answered { s with authority := { s.authority with pendingSwitch := none } }
          (responseFrame src tag .sourceAbort .ok [])
      | none => answered s (responseFrame src tag .sourceAbort .nonePending [])))
  ∧ ∀ (src tag : Byte) (s : State), Ready s → MayIssue s src .sourceLock [] →
    exec (.sourceLock src tag) s = .next
      (match s.authority.lock, s.authority.active with
      | some _, _ => answered s (responseFrame src tag .sourceLock .redundant [])
      | none, .fallback => answered s (responseFrame src tag .sourceLock .notAllowed [])
      | none, .source k => answered { s with authority := { s.authority with lock := some k, pendingSwitch := none } }
          (responseFrame src tag .sourceLock .ok []))

/-! ## Slide Control Unit -/

/-- R24, R26, R27, R30 to R33, R94: what a handled AXLE_SAMPLE measures: the interval, each axle's speed, previous
speed, deceleration and slip, the reference speed from the radar or from the candidates by the table of R32, the
thresholds, and the standstill timer.  A sample that is too short, or comes while AXLE or SLIDE is not LOADED,
does nothing. -/
def Obligations.AxleSampleMeasured : Prop :=
  ∀ (payload : List Byte) (s : State), s.inReset = false →
    (payload.length < 13 ∨ s.tables.axle.loaded = false ∨ s.tables.slide.loaded = false →
      exec (.axleSample payload) s = .next (syncOutputs s))
    ∧ (13 ≤ payload.length → s.tables.axle.loaded = true → s.tables.slide.loaded = true →
      let parameter := fun n => tableField s.tables.slide n 0
      let rate := fun i : Fin 6 => 256 * (payload.getD (2 * i.val) 0).toNat + (payload.getD (2 * i.val + 1) 0).toNat
      let valid := fun i : Fin 6 => (payload.getD 12 0).getLsbD i.val
      let interval : Option Nat := if s.slide.speedState = .valid then
          s.slide.prevArrival.map (fun p => min (max (s.control.localMs - p).toNat 5) 50)
        else none
      ∃ t, exec (.axleSample payload) s = .next t
        ∧ t.slide.speedState = .valid ∧ t.slide.prevArrival = some s.control.localMs
        ∧ t.slide.staleTimer = .running 0 ∧ t.slide.radar = s.slide.radar
        ∧ (∀ i : Fin 6,
          let a := s.slide.axles.get i
          let b := t.slide.axles.get i
          b.circumference = a.circumference ∧
          if valid i then
            b.v = min (rate i * a.circumference.getD 0 * 36 / 100000) 20000 ∧ b.vPrev = some a.v
            ∧ b.decel = (match interval with
              | some d => if a.lastValid then (((a.v : Int) - (b.v : Int)) * 1000).tdiv d else 0
              | none => 0)
            ∧ b.slip = t.slide.vRef - b.v ∧ b.lastValid = true
          else b.v = a.v ∧ b.vPrev = a.vPrev ∧ b.decel = a.decel ∧ b.slip = a.slip ∧ b.lastValid = false)
        ∧ (let candidate := ((six.filter (fun i => valid i &&
              (if s.slide.speedState = .lost then decide ((s.slide.axles.get i).state ≠ .isolated)
              else decide ((s.slide.axles.get i).state = .rolling ∨ (s.slide.axles.get i).state = .suspect)))).map
            (fun i => (t.slide.axles.get i).v)).max?
          let fresh := s.slide.radar.filter (fun r => parameter 3 = 1 ∧ r.valid
            ∧ (s.control.localMs - r.arrival).toNat ≤ 100)
          (∀ r, fresh = some r → t.slide.vRef = min r.speed 20000 ∧ t.slide.refSource = .radar)
          ∧ (fresh = none → t.slide.refSource = .axles ∧ t.slide.vRef =
            (match interval, candidate with
            | some d, some v =>
              max (s.slide.vRef - parameter 1 * d / 1000) (min v (s.slide.vRef + parameter 2 * d / 1000))
            | some d, none => s.slide.vRef - parameter 1 * d / 1000
            | none, some v => v
            | none, none => 0)))
        ∧ t.slide.t1 = max (parameter 4) (t.slide.vRef * parameter 6 / 1000)
        ∧ t.slide.t2 = max (parameter 5) (t.slide.vRef * parameter 7 / 1000)
        ∧ t.air = { s.air with standstill :=
            if t.slide.vRef = 0 then s.air.standstill.startIfStopped else .stopped }
        ∧ t.authority = s.authority ∧ t.brake = s.brake ∧ t.blend = s.blend ∧ t.tables = s.tables
        ∧ t.control = s.control ∧ t.link.ePort = s.link.ePort)

/-- R30, R34 to R42: each axle's state, slide factor and slide count after a handled sample, by its state before
(ROLLING after LOST), its measured speed and slip, the locked test and the low-speed inhibit; with the flags of
LOCKED and SENSOR_FAULT, and one AXLE_LOCKED trigger for each axle that enters LOCKED.  The runtime fields: the lock
timer (R40), not tested at the sample that ends SENSOR_FAULT (log entry 32); the fault-sample counter (R42); the
episode with its mark (R39); the confirm counter (R35) and the state timer (R40, R41).  Nothing else of the part
changes but the measurements, the standstill timer and the sand request (R46).  LOCK_MS is above 0, as its write
range has it. -/
def Obligations.AxleStateMachine : Prop :=
  ∀ (payload : List Byte) (s : State), s.inReset = false → 13 ≤ payload.length →
    s.tables.axle.loaded = true → s.tables.slide.loaded = true → 0 < tableField s.tables.slide 16 0 →
    let recovered := fun i : Fin 6 =>
      let old := s.slide.axles.get i
      if s.slide.speedState = .lost ∧ old.state ≠ .isolated then
        { old with
          state := .rolling, f := 1000, confirm := 0, faultCount := 0, lockTimer := .stopped
          stateTimer := .stopped, episode := .stopped, prolonged := false }
      else old
    ∃ t, exec (.axleSample payload) s = .next t
    ∧ (let entered := six.filter (fun i =>
        decide ((t.slide.axles.get i).state = .locked ∧ (recovered i).state ≠ .locked))
      t.recorder = (entered.foldl (fun u _ => (deliverTrigger u .axleLocked none none).1) s).recorder
      ∧ (entered = [] → flagSet t .axleLocked = flagSet s .axleLocked))
    ∧ ((∀ i : Fin 6, (t.slide.axles.get i).state = .sensorFault → (recovered i).state = .sensorFault) →
      flagSet t .sensorFault = flagSet s .sensorFault)
    ∧ t = withTriggers { s with slide := t.slide, air := { s.air with standstill := t.air.standstill } } t
    ∧ FlagsRaised [] [.sensorFault, .axleLocked, .incidentLost] s t
    ∧ (let sand := (evalSand { t with slide := { t.slide with
          sandRequest := s.slide.sandRequest, sandTimer := s.slide.sandTimer } }).slide
      t.slide.sandRequest = sand.sandRequest ∧ t.slide.sandTimer = sand.sandTimer)
    ∧ ∀ i : Fin 6,
      let parameter := fun n => tableField s.tables.slide n 0
      let old := s.slide.axles.get i
      let a := recovered i
      let b := t.slide.axles.get i
      let braked := 0 < s.blend.e.get i ∨ 0 < (if i.val < 3 then s.blend.p1 else s.blend.p2)
      let slides := braked ∧ (t.slide.t1 < b.slip ∨ (parameter 8 : Int) < b.decel)
      let locks := b.v < parameter 14 ∧ parameter 15 < t.slide.vRef
        ∧ ∃ e, a.lockTimer = .running e ∧ parameter 16 ≤ e
      let lowered := a.f - parameter 10
      let raised := min (a.f + parameter 11) 1000
      let more := min (a.slideCount + 1) 255
      let outcome : AxleState × Nat × Nat → Prop := fun x => b.state = x.1 ∧ b.f = x.2.1 ∧ b.slideCount = x.2.2
      let stays := outcome (a.state, a.f, a.slideCount)
      let valid := (payload.getD 12 0).getLsbD i.val
      let tested := a.state = .rolling ∨ a.state = .suspect ∨ a.state = .relief ∨ a.state = .hold ∨ a.state = .reapply
      let slow := b.v < parameter 14 ∧ parameter 15 < t.slide.vRef
      let faulted := b.state = .sensorFault ∧ a.state ≠ .sensorFault
      let locked := b.state = .locked ∧ a.state ≠ .locked
      let begins := a.state = .rolling ∧ (b.state = .suspect ∨ b.state = .locked)
      let ends := a.state ≠ .rolling ∧ b.state = .rolling ∨ faulted
      b.lockTimer = (if faulted ∨ locked then .stopped
        else if valid ∧ tested then (if slow then a.lockTimer.startIfStopped else .stopped)
        else a.lockTimer)
      ∧ b.faultCount = (match a.state with
        | .isolated => a.faultCount
        | .sensorFault => if valid ∧ a.faultCount + 1 < 10 then a.faultCount + 1 else 0
        | _ => if ¬ valid ∧ a.faultCount + 1 < 3 then a.faultCount + 1 else 0)
      ∧ b.episode = (if begins then .running 0 else if ends then .stopped else a.episode)
      ∧ b.prolonged = (if begins ∨ ends then false else a.prolonged)
      ∧ b.stateTimer = (if locked then .running 0
        else if faulted ∨ a.state = .locked ∧ b.state = .reapply then .stopped
        else a.stateTimer)
      ∧ b.confirm = (if faulted ∨ locked then 0
        else match a.state, b.state with
          | .rolling, .suspect => 1
          | .suspect, .suspect => if valid then a.confirm + 1 else a.confirm
          | .suspect, _ => 0
          | .reapply, .rolling => 0
          | _, _ => a.confirm)
      ∧ b.isolation = a.isolation
      ∧ (a.state = .isolated → stays)
      ∧ (a.state = .sensorFault →
        if (payload.getD 12 0).getLsbD i.val = true ∧ 10 ≤ a.faultCount + 1 then
          outcome (.rolling, 1000, a.slideCount)
        else stays)
      ∧ (a.state ≠ .isolated → a.state ≠ .sensorFault → (payload.getD 12 0).getLsbD i.val = false →
        if 3 ≤ a.faultCount + 1 then
          outcome (.sensorFault, 0, a.slideCount) ∧ flagSet t .sensorFault = true
        else stays)
      ∧ ((payload.getD 12 0).getLsbD i.val = true →
        (a.state = .locked →
          if b.slip < t.slide.t1 then outcome (.reapply, a.f, a.slideCount) else stays)
        ∧ (a.state = .rolling ∨ a.state = .suspect ∨ a.state = .relief ∨ a.state = .hold ∨ a.state = .reapply →
          locks → outcome (.locked, 0, a.slideCount) ∧ b.stateTimer = .running 0 ∧ flagSet t .axleLocked = true)
        ∧ (¬ locks → parameter 13 ≤ t.slide.vRef →
          (a.state = .rolling → if slides then outcome (.suspect, a.f, a.slideCount) ∧ b.confirm = 1 else stays)
          ∧ (a.state = .suspect →
            if t.slide.t2 < b.slip ∨ slides ∧ parameter 9 ≤ a.confirm + 1 then outcome (.relief, lowered, more)
            else if slides then stays ∧ b.confirm = a.confirm + 1
            else outcome (.rolling, 1000, a.slideCount))
          ∧ (a.state = .relief →
            if old.v ≤ b.v ∧ b.slip < t.slide.t2 then outcome (.hold, a.f, a.slideCount)
            else outcome (.relief, lowered, a.slideCount))
          ∧ (a.state = .hold →
            if t.slide.t2 ≤ b.slip then outcome (.relief, lowered, a.slideCount)
            else if b.slip < t.slide.t1 then outcome (.reapply, a.f, a.slideCount)
            else stays)
          ∧ (a.state = .reapply →
            if t.slide.t2 ≤ b.slip then outcome (.relief, lowered, more)
            else if raised = 1000 ∧ b.slip < t.slide.t1 then outcome (.rolling, 1000, a.slideCount)
            else outcome (.reapply, raised, a.slideCount)))
        ∧ (¬ locks → t.slide.vRef < parameter 13 →
          (a.state = .rolling → stays)
          ∧ (a.state = .suspect → outcome (.rolling, 1000, a.slideCount))
          ∧ (a.state = .relief ∨ a.state = .hold → outcome (.reapply, a.f, a.slideCount))
          ∧ (a.state = .reapply →
            if raised = 1000 then outcome (.rolling, 1000, a.slideCount)
            else outcome (.reapply, raised, a.slideCount))))

/-- R31, R134: a RADAR_SAMPLE and a TIME frame are stored with their arrival time, and change nothing else; one that
is too short is discarded. -/
def Obligations.RadarAndTimeStored : Prop :=
  (∀ (payload : List Byte) (s : State), s.inReset = false →
    let record : RadarRecord :=
      ⟨256 * (payload.getD 0 0).toNat + (payload.getD 1 0).toNat, (payload.getD 2 0).getLsbD 0, s.control.localMs⟩
    exec (.radarSample payload) s = .next (syncOutputs
      (if payload.length < 3 then s else { s with slide := { s.slide with radar := some record } })))
  ∧ ∀ (payload : List Byte) (s : State), s.inReset = false →
    let base : TimeBase :=
      ⟨payload.getD 0 0 ++ payload.getD 1 0 ++ payload.getD 2 0 ++ payload.getD 3 0, s.control.localMs⟩
    exec (.timeFrame payload) s = .next (syncOutputs
      (if payload.length < 4 then s else { s with control := { s.control with timeBase := some base } }))

/-- R28, R29: more than SPEED_STALE_MS after the last handled sample the speed state becomes LOST, v_ref and the axles
frozen, the standstill timer stopped, with the flag and trigger of SPEED_LOST.  R46: the sand request follows
its three conditions, and its hold timer's expiry turns it off.  Before it is due an expiry has no effect (log
entry 7). -/
def Obligations.SpeedLossAndSand : Prop :=
  (∀ s : State, s.inReset = false →
    let due := s.slide.speedState = .valid
      ∧ ∃ e, s.slide.staleTimer = .running e ∧ tableField s.tables.slide 0 0 < e
    ∃ t, exec .staleTimerExpiry s = .next t
      ∧ (due → TriggeredBy .speedLost [.speedLost]
        { s with
          slide := { s.slide with speedState := .lost, staleTimer := .stopped }
          air := { s.air with standstill := .stopped } } t)
      ∧ (¬ due → t = syncOutputs s))
  ∧ (∀ s : State, s.inReset = false →
    let due := ∃ e, s.slide.sandTimer = .running e ∧ tableField s.tables.slide 19 0 ≤ e
    ∃ t, exec .sandHoldExpiry s = .next t
      ∧ (due → t = syncOutputs { s with slide := { s.slide with sandRequest := false, sandTimer := .stopped } })
      ∧ (¬ due → t = syncOutputs s))
  ∧ ∀ s : State,
    let called := tableField s.tables.slide 18 0
        ≤ (six.filter (fun i => decide ((s.slide.axles.get i).state = .relief ∨ (s.slide.axles.get i).state = .hold))).length
      ∨ (∃ i, (s.slide.axles.get i).prolonged = true) ∨ (activeDemand s).sand = true
    (s.tables.slide.loaded = false → evalSand s = s)
    ∧ (s.tables.slide.loaded = true → called →
      evalSand s = { s with slide := { s.slide with sandRequest := true, sandTimer := .stopped } })
    ∧ (s.tables.slide.loaded = true → ¬ called →
      evalSand s = if s.slide.sandRequest = false then s
        else if tableField s.tables.slide 19 0 = 0 then
          { s with slide := { s.slide with sandRequest := false, sandTimer := .stopped } }
        else { s with slide := { s.slide with sandTimer := s.slide.sandTimer.startIfStopped } })

/-- R39, R41, R29: an episode that has passed PROLONG_MS is marked, its timer stopped, with the flag and trigger of
SLIDE_PROLONGED; an axle that has stood in LOCKED for LOCK_FAULT_MS is ISOLATED with cause LOCK_TIMEOUT and the
SENSOR_FAULT flag.  While the speed data is LOST neither timer expires; before it is due an expiry has no effect
(log entry 7). -/
def Obligations.AxleTimersExpire : Prop :=
  (∀ (i : Fin 6) (s : State), s.inReset = false →
    let a := s.slide.axles.get i
    let due := s.slide.speedState ≠ .lost ∧ ∃ e, a.episode = .running e ∧ tableField s.tables.slide 12 0 < e
    ∃ t, exec (.episodeTimerExpiry i) s = .next t
      ∧ (due → TriggeredBy .slideProlonged [.slideProlonged]
        (evalSand (setAxle s i { a with episode := .stopped, prolonged := true })) t)
      ∧ (¬ due → t = syncOutputs s))
  ∧ ∀ (i : Fin 6) (s : State), s.inReset = false →
    let a := s.slide.axles.get i
    let due := s.slide.speedState ≠ .lost ∧ a.state = .locked
      ∧ ∃ e, a.stateTimer = .running e ∧ tableField s.tables.slide 17 0 ≤ e
    ∃ t, exec (.lockedTimeout i) s = .next t
      ∧ (due → RaisedFrom [.sensorFault] []
        (evalSand (setAxle s i { a with
          state := .isolated, f := 0, confirm := 0, faultCount := 0, lockTimer := .stopped, stateTimer := .stopped
          isolation := some .lockTimeout, episode := .stopped, prolonged := false })) t)
      ∧ (¬ due → t = syncOutputs s)

/-- R43, R44: AXLE_ISOLATE and AXLE_RESTORE, decided and answered. -/
def Obligations.AxleIsolatedAndRestored : Prop :=
  (∀ (src tag axle : Byte) (s : State), Ready s → MayIssue s src .axleIsolate [axle] →
    let respond := responseFrame src tag .axleIsolate
    ((axle.toNat < 1 ∨ 6 < axle.toNat) →
      exec (.axleIsolate src tag axle) s = .next (answered s (respond .badArg [])))
    ∧ ∀ i : Fin 6, axle.toNat = i.val + 1 →
      let a := s.slide.axles.get i
      ∃ t, exec (.axleIsolate src tag axle) s = .next t
        ∧ (a.state = .isolated → t = answered s (respond .redundant []))
        ∧ (a.state ≠ .isolated → t = answered
          (evalSand (setAxle s i { a with
            state := .isolated, f := 0, confirm := 0, faultCount := 0, lockTimer := .stopped
            stateTimer := .stopped, isolation := some .command, episode := .stopped, prolonged := false }))
          (respond .ok [])))
  ∧ ∀ (src tag axle : Byte) (s : State), Ready s → MayIssue s src .axleRestore [axle] →
    let respond := responseFrame src tag .axleRestore
    ((axle.toNat < 1 ∨ 6 < axle.toNat) →
      exec (.axleRestore src tag axle) s = .next (answered s (respond .badArg [])))
    ∧ ∀ i : Fin 6, axle.toNat = i.val + 1 →
      let a := s.slide.axles.get i
      ∃ t, exec (.axleRestore src tag axle) s = .next t
        ∧ (a.state ≠ .isolated → t = answered s (respond .notIsolated []))
        ∧ (a.state = .isolated → t = answered
          (evalSand (setAxle s i { a with state := .rolling, f := 1000, isolation := none })) (respond .ok []))

/-! ## Dynamic Brake Channel -/

/-- R49, R51, R54, R55: a delivered status is stored, with clamped efforts and its sum, in every DB state.  In SETUP a
fault bit trips with cause CONVERTER, else a ready bit makes ACTIVE; in ACTIVE a fault bit trips, and that status
meets no shortfall test (log entry 29); nowhere else has it a further effect, but for the shortfall test of ACTIVE.
A short frame does nothing. -/
def Obligations.TractionStatusHandled : Prop :=
  ∀ (payload : List Byte) (s : State), s.inReset = false →
    (payload.length < 8 → exec (.tractionStatus payload) s = .next (syncOutputs s))
    ∧ (8 ≤ payload.length →
      let b := fun n => payload.getD n 0
      let effort : Six Nat := Six.ofFn (fun i => min (b i.val).toNat 120)
      let ready := (b 6).getLsbD 0
      let fault := (b 6).getLsbD 1
      let stored : Brake := { s.brake with
        status := some ⟨effort, ready, fault, decide (b 7 = 1)⟩, aLast := effort.sum }
      ∃ t, exec (.tractionStatus payload) s = .next t
        ∧ (s.brake.state = .off ∨ s.brake.state = .tripped ∨ s.brake.state = .cutout →
          t = syncOutputs { s with brake := stored })
        ∧ (s.brake.state = .setup ∨ s.brake.state = .active → fault = true →
          TriggeredBy .dbTrip [.dbTrip]
            { s with brake := broughtOut stored .tripped (some .converter) } t)
        ∧ (s.brake.state = .setup → fault = false → ready = true →
          t = syncOutputs { s with brake := broughtOut stored .active s.brake.cause })
        ∧ (s.brake.state = .setup → fault = false → ready = false → t = syncOutputs { s with brake := stored })
        ∧ (s.brake.state = .active → fault = false →
          t.brake = { stored with
            shortfall := t.brake.shortfall, shortSet := t.brake.shortSet, shortClear := t.brake.shortClear }
          ∧ t = withTriggers { s with brake := t.brake } t))

/-- R59, R60: the shortfall test at a clean status in ACTIVE.  With the latch clear, a deficit starts the set timer,
its absence stops it, and a deficit that has held for SHORT_MS sets the latch with flag and trigger of
DB_SHORTFALL.  With the latch set, recovery does the same for the clearing, without flag.  SHORT_MS is above 0,
as its write range has it (log entry 8). -/
def Obligations.ShortfallTested : Prop :=
  ∀ (payload : List Byte) (s : State), s.inReset = false → 8 ≤ payload.length → s.brake.state = .active →
    (payload.getD 6 0).getLsbD 1 = false → 0 < tableField s.tables.db 4 0 →
    let effort : Six Nat := Six.ofFn (fun i => min (payload.getD i.val 0).toNat 120)
    let stored : Brake := { s.brake with
      status := some ⟨effort, (payload.getD 6 0).getLsbD 0, false, decide (payload.getD 7 0 = 1)⟩
      aLast := effort.sum }
    let a := effort.sum
    let c := s.blend.e.sum
    let deficit := 20 ≤ c ∧ a * 1000 < c * tableField s.tables.db 2 0
    let recovery := c * tableField s.tables.db 3 0 ≤ a * 1000
    let hold := tableField s.tables.db 4 0
    ∃ t, exec (.tractionStatus payload) s = .next t
      ∧ (s.brake.shortfall = false →
        (¬ deficit → t = syncOutputs { s with brake := { stored with shortSet := .stopped } })
        ∧ (deficit → s.brake.shortSet = .stopped →
          t = syncOutputs { s with brake := { stored with shortSet := .running 0 } })
        ∧ (∀ e, deficit → s.brake.shortSet = .running e → e < hold → t = syncOutputs { s with brake := stored })
        ∧ (∀ e, deficit → s.brake.shortSet = .running e → hold ≤ e →
          TriggeredBy .dbShortfall [.dbShortfall]
            { s with brake := { stored with shortfall := true, shortSet := .stopped, shortClear := .stopped } } t))
      ∧ (s.brake.shortfall = true →
        (¬ recovery → t = syncOutputs { s with brake := { stored with shortClear := .stopped } })
        ∧ (recovery → s.brake.shortClear = .stopped →
          t = syncOutputs { s with brake := { stored with shortClear := .running 0 } })
        ∧ (∀ e, recovery → s.brake.shortClear = .running e → e < hold → t = syncOutputs { s with brake := stored })
        ∧ (∀ e, recovery → s.brake.shortClear = .running e → hold ≤ e →
          t = syncOutputs { s with brake := { stored with shortfall := false, shortClear := .stopped } }))

/-- R52, R53, R55: the SETUP timer's expiry trips with cause SETUP_TIMEOUT, with flag and trigger of DB_TRIP; the idle
timer's expiry leaves ACTIVE for OFF.  Before it is due an expiry has no effect (log entry 7). -/
def Obligations.SetupAndIdleExpire : Prop :=
  (∀ s : State, s.inReset = false →
    let due := s.brake.state = .setup ∧ ∃ e, s.brake.setupTimer = .running e ∧ tableField s.tables.db 0 0 ≤ e
    ∃ t, exec .setupTimerExpiry s = .next t
      ∧ (due → TriggeredBy .dbTrip [.dbTrip]
        { s with brake := broughtOut s.brake .tripped (some .setupTimeout) } t)
      ∧ (¬ due → t = syncOutputs s))
  ∧ ∀ s : State, s.inReset = false →
    let due := s.brake.state = .active ∧ ∃ e, s.brake.idleTimer = .running e ∧ tableField s.tables.db 1 0 ≤ e
    ∃ t, exec .idleTimerExpiry s = .next t
      ∧ (due → t = syncOutputs { s with brake := broughtOut s.brake .off s.brake.cause })
      ∧ (¬ due → t = syncOutputs s)

/-- R61, R62: a heat period adds A_last × v_ref / 18 and takes off the cooling share of H, floored at 0 and
saturated, and forms g from the new H; g's fall from 1000 sets THERMAL_DERATE.  While HEAT is not LOADED, H and g
stand.  Before 20 ms have passed the command has no effect (log entry 7). -/
def Obligations.HeatPeriodComputed : Prop :=
  ∀ s : State, s.inReset = false →
    let parameter := fun n => tableField s.tables.heat n 0
    let blowers := ∃ x, s.brake.status = some x ∧ x.blowerOk = true
    let old := s.brake.heat
    ∃ t, exec .heatPeriod s = .next t
      ∧ (s.brake.heatElapsed < 20 → t = syncOutputs s)
      ∧ (20 ≤ s.brake.heatElapsed → s.tables.heat.loaded = false →
        t = syncOutputs { s with brake := { s.brake with heatElapsed := 0 } })
      ∧ (20 ≤ s.brake.heatElapsed → s.tables.heat.loaded = true →
        ∀ k : Nat, (blowers → k = parameter 2) → (¬ blowers → k = parameter 3) →
        let heat := min (max ((old : Int) + s.brake.aLast * s.slide.vRef / 18 - old * k / 65536) 0) 4294967295
        ∀ h : Nat, (h : Int) = heat →
        let g := if parameter 1 ≤ h then 0
          else if h ≤ parameter 0 then 1000
          else 1000 * (parameter 1 - h) / (parameter 1 - parameter 0)
        let after : Brake := { s.brake with heat := h, g := g, heatElapsed := 0 }
        (s.brake.g = 1000 → g < 1000 → RaisedFrom [.thermalDerate] [] { s with brake := after } t)
        ∧ (s.brake.g ≠ 1000 ∨ g = 1000 → t = syncOutputs { s with brake := after }))

/-- R56: DB_TRIP_CLEAR, decided by the DB state, the TRACTION node's liveness and the latest status, and answered;
without such a node it answers as without a LIVE one (log entry 30). -/
def Obligations.DbTripClearDecided : Prop :=
  ∀ (src tag : Byte) (s : State), Ready s → MayIssue s src .dbTripClear [] →
    let respond := fun r => responseFrame src tag .dbTripClear r []
    let fit := (∃ i, binding s.tables .traction = some i ∧ (getNode s i).liveness = .live)
      ∧ ∃ x, s.brake.status = some x ∧ x.fault = false
    (s.brake.state ≠ .tripped → exec (.dbTripClear src tag) s = .next (answered s (respond .notTripped)))
    ∧ (s.brake.state = .tripped → fit → exec (.dbTripClear src tag) s = .next
      (answered { s with brake := { s.brake with state := .off, cause := none } } (respond .ok)))
    ∧ (s.brake.state = .tripped → ¬ fit →
      exec (.dbTripClear src tag) s = .next (answered s (respond .faultPersists)))

/-! ## Blend Engine -/

/-- R67: interp over a curve of 2 to 16 points with strictly rising x: y_1 up to the first point, y_n from the last
on, between two points the exact signed product over the distance, truncated toward zero; so y_k at x_k, and a
value between the smallest and the largest y. -/
def Obligations.InterpolationRule : Prop :=
  (∀ points : List (Nat × Nat), 2 ≤ points.length → points.length ≤ 16 →
    points.Pairwise (fun a b => a.1 < b.1) →
    let p := fun k => points.getD k (0, 0)
    let last := points.length - 1
    (∀ x, x ≤ (p 0).1 → interp points x = (p 0).2)
    ∧ (∀ x, (p last).1 ≤ x → interp points x = (p last).2)
    ∧ (∀ x k, k < last → (p k).1 ≤ x → x < (p (k + 1)).1 → (p 0).1 < x →
      (interp points x : Int) = ((p k).2 : Int)
        + ((((p (k + 1)).2 : Int) - (p k).2) * ((x : Int) - (p k).1)).tdiv (((p (k + 1)).1 : Int) - (p k).1))
    ∧ (∀ k, k ≤ last → interp points (p k).1 = (p k).2)
    ∧ ∀ x low high, (∀ q ∈ points, low ≤ q.2 ∧ q.2 ≤ high) → low ≤ interp points x ∧ interp points x ≤ high)
  ∧ interp [(2000, 80), (3000, 70)] 2500 = 75 ∧ interp [(2000, 80), (3000, 70)] 2499 = 76

/-- R73: the allocation places all of a goal that the caps can bear, gives no axle more than its cap, and shares as
evenly as the caps allow: an axle below its cap stands at most 1 behind any other, and of two axles below their
caps the lower-numbered has at least as much. -/
def Obligations.AllocationPlacesGoal : Prop :=
  ∀ (caps : Six Nat) (goal : Nat), goal ≤ caps.sum →
    let goals := waterFill caps goal
    goals.sum = goal
    ∧ (∀ i : Fin 6, goals.get i ≤ caps.get i)
    ∧ (∀ i j : Fin 6, goals.get i < caps.get i → goals.get j ≤ goals.get i + 1)
    ∧ ∀ i j : Fin 6, i.val < j.val → goals.get i < caps.get i → goals.get j < caps.get j →
      goals.get j ≤ goals.get i

/-- R65 to R80: what a due blend period computes from the state as it stood: the period record, the efforts and the
pressures, with the timer started anew; the units it reads stand.  F_dyn is the formula's in every phase (log entry 33).  K_BC
is above 0, as its write range has it. -/
def Obligations.BlendPeriodComputes : Prop :=
  ∀ s : State, s.inReset = false → s.control.mode = .service →
    (∃ e, s.blend.timer = .running e ∧ 20 ≤ e) → 0 < tableField s.tables.blend 4 0 →
    let parameter := fun n => tableField s.tables.blend n 0
    let d := activeDemand s
    let latch := s.authority.latch
    let flowing := (s.lines.inputs.get 3).accepted
    let axle := fun i : Fin 6 => s.slide.axles.get i
    let available := fun i : Fin 6 => s.slide.speedState = .valid
      ∧ (axle i).state ≠ .locked ∧ (axle i).state ≠ .sensorFault ∧ (axle i).state ≠ .isolated
    let curve := fun t : Table => interp (curvePoints t)
    let correction := fun i : Fin 6 =>
      if d.direction = 1 then tableField s.tables.axle (6 + i.val) 0
      else if d.direction = 2 then tableField s.tables.axle (12 + i.val) 0
      else 1000
    let adhesion := fun i : Fin 6 =>
      curve (if flowing then s.tables.adhSanded else s.tables.adhPlain) s.slide.vRef
        * (parameter 8 * correction i / 1000) / 1000
    let counted := fun i : Fin 6 =>
      if (axle i).state = .sensorFault ∨ (axle i).state = .isolated then 1000 else (axle i).f
    let service := fun share factor : Nat =>
      min (parameter 5) (max (d.independent.getD 0) ((share * 1000 + parameter 4 - 1) / parameter 4))
        * factor / 1000
    let emergency := fun (locked : Bool) (factor : Nat) =>
      parameter 6 * (if locked then factor else max factor 500) / 1000
    ∃ t r, exec .blendPeriod s = .next t ∧ t.blend.record = some r ∧ t.blend.timer = .running 0
      ∧ r.at_ = s.control.localMs ∧ r.latch = latch ∧ r.sanded = flowing
      ∧ r.fDyn = tableField s.tables.handle d.handle 0 * parameter 0 / 1000
      ∧ r.fAuto = curve s.tables.auto (d.reduction.getD 0)
      ∧ r.fTarget = max r.fDyn r.fAuto
      ∧ r.capability = curve s.tables.dbCurve s.slide.vRef
      ∧ r.capabilitySum = r.capability * (six.filter (fun i => decide (available i))).length
      ∧ (∀ i : Fin 6,
        (s.brake.state = .active → available i →
          r.caps.get i = min (r.capability * (axle i).f / 1000) (adhesion i) * s.brake.g / 1000)
        ∧ (s.brake.state ≠ .active ∨ ¬ available i → r.caps.get i = 0))
      ∧ r.goal = (if latch then 0 else min r.fTarget (min r.caps.sum (parameter 0)))
      ∧ r.goals = waterFill r.caps r.goal
      ∧ (∀ i : Fin 6, t.blend.e.get i = min (r.caps.get i)
        (if s.blend.e.get i ≤ r.goals.get i then min (r.goals.get i) (s.blend.e.get i + parameter 1)
        else max (r.goals.get i) (s.blend.e.get i - (if latch then parameter 3 else parameter 2))))
      ∧ r.fBack = (if d.bailOff then 0
        else r.fAuto - (if s.brake.shortfall then s.brake.aLast else t.blend.e.sum))
      ∧ r.f1 = (r.fBack + 1) / 2 ∧ r.f2 = r.fBack / 2
      ∧ r.fT1 = min 1000 (min (counted 0) (min (counted 1) (counted 2)))
      ∧ r.fT2 = min 1000 (min (counted 3) (min (counted 4) (counted 5)))
      ∧ t.blend.p1 = (if latch then
          emergency (decide ((axle 0).state = .locked ∨ (axle 1).state = .locked ∨ (axle 2).state = .locked)) r.fT1
        else service r.f1 r.fT1)
      ∧ t.blend.p2 = (if latch then
          emergency (decide ((axle 3).state = .locked ∨ (axle 4).state = .locked ∨ (axle 5).state = .locked)) r.fT2
        else service r.f2 r.fT2)
      ∧ t.authority = s.authority ∧ t.slide = s.slide ∧ t.air = s.air ∧ t.tables = s.tables
      ∧ t.control = s.control ∧ t.lines.inputs = s.lines.inputs ∧ t.management = s.management

/-- R71, R75, R79, R82, R83: what no setpoint of a blend period exceeds.  An effort is within its axle's cap; it is 0
for an axle that is LOCKED, SENSOR_FAULT or ISOLATED, for all while the channel is not ACTIVE or the speed is not
VALID, and for all while H is at or above H_MAX; in an emergency period no effort rises; no pressure is above
BC_MAX, where BC_EMERG is not. -/
def Obligations.SetpointsWithinLimits : Prop :=
  ∀ s : State, s.inReset = false → s.control.mode = .service →
    (∃ e, s.blend.timer = .running e ∧ 20 ≤ e) → FactorsOk s.slide →
    ∃ t r, exec .blendPeriod s = .next t ∧ t.blend.record = some r
      ∧ (∀ i : Fin 6, t.blend.e.get i ≤ r.caps.get i)
      ∧ (∀ i : Fin 6, (s.slide.axles.get i).state = .locked ∨ (s.slide.axles.get i).state = .sensorFault
          ∨ (s.slide.axles.get i).state = .isolated → t.blend.e.get i = 0)
      ∧ (s.brake.state ≠ .active ∨ s.slide.speedState ≠ .valid → t.blend.e = Six.all 0)
      ∧ (HeatFactorOk s → s.tables.heat.loaded = true → tableField s.tables.heat 1 0 ≤ s.brake.heat →
        t.blend.e = Six.all 0)
      ∧ (s.authority.latch = true → ∀ i : Fin 6, t.blend.e.get i ≤ s.blend.e.get i)
      ∧ (tableField s.tables.blend 6 0 ≤ tableField s.tables.blend 5 0 →
        t.blend.p1 ≤ tableField s.tables.blend 5 0 ∧ t.blend.p2 ≤ tableField s.tables.blend 5 0)

/-- R50, R52, R53, R81 to R83, R85: what a due blend period hands over: F_target and the capability sum to the
channel, which may enter SETUP, cancel it, or time an idle ACTIVE; one DB_SETPOINT and two BC_SETPOINT frames to
the E-port; the snapshot (R84) to the Recorder, each field limited to its width, with the saturation mark; and every
fifth period a report of 47 bytes to the C-port.  Both carry the DB state, g, shortfall latch and sand request as
read at the period's start (log entry 17).  Before it is due, or outside SERVICE, the command has no effect (log
entry 7). -/
def Obligations.BlendPeriodHandsOver : Prop :=
  (∀ s : State, s.inReset = false →
    (s.control.mode ≠ .service ∨ ∀ e, s.blend.timer = .running e → e < 20) →
    exec .blendPeriod s = .next (syncOutputs s))
  ∧ ∀ s : State, s.inReset = false → s.control.mode = .service → (∃ e, s.blend.timer = .running e ∧ 20 ≤ e) →
    ∀ traction valve1 valve2 : Byte,
    roleAddress s.tables .traction = some traction → roleAddress s.tables .valveT1 = some valve1 →
    roleAddress s.tables .valveT2 = some valve2 →
    ∃ t r, exec .blendPeriod s = .next t ∧ t.blend.record = some r
      ∧ (s.brake.state = .off → t.brake = (if 0 < r.fTarget ∧ 0 < r.capabilitySum then
          { s.brake with state := .setup, setupTimer := .running 0 } else s.brake))
      ∧ (s.brake.state = .setup → t.brake = (if r.fTarget = 0 then broughtOut s.brake .off s.brake.cause
          else s.brake))
      ∧ (s.brake.state = .active → t.brake = { s.brake with
          idleTimer := if t.blend.e.sum = 0 ∧ r.fTarget = 0 then s.brake.idleTimer.startIfStopped else .stopped })
      ∧ (s.brake.state = .tripped ∨ s.brake.state = .cutout → t.brake = s.brake)
      ∧ (let byte := fun n : Nat => BitVec.ofNat 8 n
        let excited := decide (t.brake.state = .setup ∨ t.brake.state = .active)
        let bc := fun (truck : Byte) (p : Nat) => [truck, byte (p / 256), byte p, byte s.authority.latch.toNat]
        let sent := handOver (handOver (handOver s
          .e ⟨traction, 0x70, byte excited.toNat :: six.map (fun i => byte (t.blend.e.get i))⟩)
          .e ⟨valve1, 0x74, bc 1 t.blend.p1⟩)
          .e ⟨valve2, 0x74, bc 2 t.blend.p2⟩
        t.link.ePort = sent.link.ePort ∧ t.link.own = s.link.own ∧ t.link.nodes = s.link.nodes)
      ∧ (let d := activeDemand s
        let limit := fun width n : Nat => min n (2 ^ width - 1)
        let achieved := fun i : Fin 6 => match s.brake.status with
          | some x => x.effort.get i
          | none => 0
        let axle := fun i : Fin 6 => s.slide.axles.get i
        let fields : List (Nat × Nat) :=
          [(8, d.reduction.getD 0), (10, d.independent.getD 0), (8, d.handle), (8, r.fTarget), (8, r.goal),
            (8, r.fBack), (16, s.slide.vRef), (10, s.brake.g), (10, t.blend.p1), (10, t.blend.p2),
            (10, s.air.truck1.pressure), (10, s.air.truck2.pressure)]
          ++ six.flatMap (fun i =>
            [(16, (axle i).v), (10, (axle i).f), (8, t.blend.e.get i), (8, achieved i)])
        let snapshot : Snapshot :=
          { at_ := s.control.localMs
            active := s.authority.active
            phase := s.authority.phase
            reduction := limit 8 (d.reduction.getD 0)
            independent := limit 10 (d.independent.getD 0)
            handle := limit 8 d.handle
            emergency := d.emergency
            bailOff := d.bailOff
            sandFlag := d.sand
            direction := d.direction
            fTarget := limit 8 r.fTarget
            goal := limit 8 r.goal
            fBack := limit 8 r.fBack
            vRef := limit 16 s.slide.vRef
            refSource := s.slide.refSource
            speedState := s.slide.speedState
            dbState := s.brake.state
            latch := s.authority.latch
            sandRequest := s.slide.sandRequest
            g := limit 10 s.brake.g
            axles := Six.ofFn (fun i =>
              { v := limit 16 (axle i).v
                state := (axle i).state
                f := limit 10 (axle i).f
                e := limit 8 (t.blend.e.get i)
                achieved := limit 8 (achieved i) })
            p1 := limit 10 t.blend.p1
            achieved1 := limit 10 s.air.truck1.pressure
            p2 := limit 10 t.blend.p2
            achieved2 := limit 10 s.air.truck2.pressure
            saturated := fields.any (fun x => decide (2 ^ x.1 ≤ x.2)) }
        t.recorder = (takeSnapshot s snapshot).recorder)
      ∧ t.blend.divider = (if s.blend.divider + 1 < 5 then s.blend.divider + 1 else 0)
      ∧ (let b := s.brake
        let report : List Byte := be 4 s.control.localMs.toNat
          ++ be 1 (activeCode s.authority.active) ++ be 1 (phaseCode s.authority.phase)
          ++ be 1 (s.authority.latch.toNat + 2 * b.shortfall.toNat + 4 * s.slide.sandRequest.toNat)
          ++ [r.fTarget, r.goal, t.blend.e.sum, b.aLast, r.fBack, t.blend.p1, t.blend.p2,
            s.air.truck1.pressure, s.air.truck2.pressure, r.fT1, r.fT2, s.slide.vRef].flatMap (be 2)
          ++ be 1 (refSourceCode s.slide.refSource + 2 * speedStateCode s.slide.speedState)
          ++ be 1 (dbStateCode b.state) ++ be 2 b.g
          ++ six.map (fun i => BitVec.ofNat 8 (axleStateCode (s.slide.axles.get i).state))
          ++ six.map (fun i => BitVec.ofNat 8 (t.blend.e.get i))
        report.length = 47
        ∧ (fillingCount s.recorder = 0 → t.link.cPort =
          (if s.blend.divider + 1 < 5 ∨ tableField s.tables.reporting 2 0 = 0 then s.link.cPort
          else (handOver s .c
            ⟨BitVec.ofNat 8 (tableField s.tables.reporting 2 0), 0x48, report⟩).link.cPort)))

/-! ## Air Channel -/

/-- R89 to R91: a delivered valve status is stored in its truck's record, the pressure clamped to 1000 kPa; a clean one
clears the condition, a fault one makes it LOST with cause FAULT, and only the move from CLEAR gives the flag and
trigger of VALVE_LOST.  A short frame does nothing. -/
def Obligations.ValveStatusHandled : Prop :=
  ∀ (truck : Truck) (payload : List Byte) (s : State), s.inReset = false →
    (payload.length < 3 → exec (.valveStatus truck payload) s = .next (syncOutputs s))
    ∧ (3 ≤ payload.length →
      let pressure := min (256 * (payload.getD 0 0).toNat + (payload.getD 1 0).toNat) 1000
      let fault := (payload.getD 2 0).getLsbD 0
      let before := match truck with
        | .t1 => s.air.truck1
        | .t2 => s.air.truck2
      let stored : TruckRecord := ⟨true, pressure, fault, if fault then .fault else .clear⟩
      let u : State := match truck with
        | .t1 => { s with air := { s.air with truck1 := stored } }
        | .t2 => { s with air := { s.air with truck2 := stored } }
      ∃ t, exec (.valveStatus truck payload) s = .next t
        ∧ (fault = false ∨ before.condition ≠ .clear → t = syncOutputs u)
        ∧ (fault = true → before.condition = .clear → TriggeredBy .valveLost [.valveLost] u t))

/-! ## Line and Flag Unit -/

/-- R152, R154, R155: the rise of a flag.  A set flag stays, with no change.  A rise outside NOTICE_ENABLE sets the
flag alone.  A rise in it forms a NOTICE of the flags, the edge flags and the slots as they then stand: without a
NOTICE_NODE the mark stays set; otherwise the notice is handed to the C-port, and the mark stays set exactly if
it finds no room. -/
def Obligations.FlagRiseFormsNotice : Prop :=
  ∀ (f : Machine.Flag) (s : State), s.deferred = none →
    let risen : State := { s with lines := { s.lines with flags := s.lines.flags ||| BitVec.ofNat 19 (2 ^ flagBit f) } }
    let enabled := (tableField s.tables.reporting 1 0).testBit (flagBit f)
    let node := BitVec.ofNat 8 (tableField s.tables.reporting 0 0)
    let edges := (six.map (fun n => (s.lines.inputs.get n).edge.toNat * 2 ^ n.val)).sum
    let notice : OriginatedFrame :=
      { dst := node
        cls := 0x44
        payload := be 4 s.control.localMs.toNat ++ be 4 (risen.lines.flags.toNat + 524288 * edges)
          ++ s.recorder.slots.map (fun k => BitVec.ofNat 8 (match k.state with
            | .free => 0
            | .filling => 1
            | .sealed => 2
            | .read => 3)) }
    let waiting := s.link.cPort.originated
    let room := waiting.length < 8 ∨ ∃ g ∈ waiting, g.cls = 0x44 ∧ g.dst = node
    let marked := fun (x : State) (m : Bool) => { x with lines := { x.lines with noticePending := m } }
    (flagSet s f = true → raise f s = s)
    ∧ (flagSet s f = false → enabled = false → raise f s = risen)
    ∧ (flagSet s f = false → enabled = true → tableField s.tables.reporting 0 0 = 0 → raise f s = marked risen true)
    ∧ (flagSet s f = false → enabled = true → tableField s.tables.reporting 0 0 ≠ 0 →
      (room → raise f s = marked (handOver risen .c notice) false)
      ∧ (¬ room → raise f s = marked (handOver risen .c notice) true))

/-- R147, R148: a pin that changes level gives a present level through the line's polarity.  Equal to the accepted
level, it stops the debounce timer; different, it starts or restarts it from zero; and with debounce 0 it is
accepted in the same event, as an expiry accepts it. -/
def Obligations.PinChangeCompared : Prop :=
  ∀ (n : Fin 6) (high : Bool) (s : State), s.inReset = false →
    let r := s.lines.inputs.get n
    let level := if tableField s.tables.discrete n.val 0 = 1 then !high else high
    let changed := { r with pin := high, present := level }
    let with_ := fun timer : Timer => setInput s n { changed with debounce := timer }
    (r.pin = high → exec (.discretePinChange n high) s = .next (syncOutputs s))
    ∧ (r.pin ≠ high → level = r.accepted →
      exec (.discretePinChange n high) s = .next (syncOutputs (with_ .stopped)))
    ∧ (r.pin ≠ high → level ≠ r.accepted → tableField s.tables.discrete n.val 1 ≠ 0 →
      exec (.discretePinChange n high) s = .next (syncOutputs (with_ (.running 0))))
    ∧ (r.pin ≠ high → level ≠ r.accepted → tableField s.tables.discrete n.val 1 = 0 →
      exec (.discretePinChange n high) s = exec (.debounceExpiry n) (with_ (.running 0)))

/-- R148, R149 with R17, R19, R20, R57: a due debounce expiry accepts the present level and stops the timer; a match
with the edge mode sets the edge flag and gives flag and trigger of DISCRETE_EDGE; and the line's consumer acts:
EMERG sets the latch with its trigger, or starts the reset timer when the last condition goes, PENALTY sets its
flag, DB_CUTOUT enters or leaves CUTOUT.  Before it is due an expiry has no effect (log entry 7). -/
def Obligations.TransitionAccepted : Prop :=
  ∀ (n : Fin 6) (s : State), s.inReset = false →
    let r := s.lines.inputs.get n
    let active := r.present
    let mode := tableField s.tables.discrete n.val 2
    let matches_ := mode = 1 ∧ active = true ∨ mode = 2 ∧ active = false ∨ mode = 3
    let due := ∃ e, r.debounce = .running e ∧ tableField s.tables.discrete n.val 1 ≤ e
    let emergency := n = 0 ∧ active = true ∧ s.authority.latch = false
    ∃ t, exec (.debounceExpiry n) s = .next t
      ∧ (¬ due → t = syncOutputs s)
      ∧ (due →
        t.lines.inputs = s.lines.inputs.set n { r with
          accepted := active, debounce := .stopped, edge := r.edge || decide matches_ }
        ∧ t.brake = (if n = 2 then
            (if active then
              if s.brake.state = .cutout then s.brake else broughtOut s.brake .cutout none
            else if s.brake.state = .cutout then { s.brake with state := .off } else s.brake)
          else s.brake)
        ∧ t.authority = { s.authority with
            latch := s.authority.latch || (decide (n = 0) && active), resetTimer := t.authority.resetTimer }
        ∧ (n = 0 → active = true → t.authority.resetTimer = .stopped)
        ∧ (n ≠ 0 → t.authority.resetTimer = s.authority.resetTimer)
        ∧ (matches_ → flagSet t .discreteEdge = true)
        ∧ (n = 1 → active = true → flagSet t .penalty = true)
        ∧ (emergency → flagSet t .emergency = true)
        ∧ FlagsRaised [] [.discreteEdge, .penalty, .emergency, .incidentLost] s t
        ∧ (¬ matches_ → flagSet t .discreteEdge = flagSet s .discreteEdge)
        ∧ (let first := if matches_ then (deliverTrigger s (.discreteEdge n) none none).1 else s
          t.recorder = (if emergency then (deliverTrigger first .emergency none none).1 else first).recorder)
        ∧ (¬ matches_ → ¬ emergency → t.recorder = s.recorder)
        ∧ (n = 0 → ResetTimerFollows s.authority.resetTimer t)
        ∧ (¬ matches_ → ¬ emergency → ¬ (n = 1 ∧ active = true) → t.link = s.link ∧ t.lines.flags = s.lines.flags)
        ∧ t = withTriggers { s with authority := t.authority, brake := t.brake, lines := t.lines } t)

/-- R153: FLAGS_CLEAR, in every mode: a mask beyond the 25 positions is refused BAD_ARG and clears nothing; otherwise
the named event and edge flags are cleared, each independently of the others, and the answer carries the flags as
they then stand, as the 4-byte flag word, which is the model's choice (log entry 34); a mask that names none clears
nothing.  Nothing else changes: no notice-pending mark, condition or
counter; FAULT is evaluated, and released when none of its seven flags remains.  Outside INIT it is permitted to
LOCO_COMPUTER and TOOL alone.  A named flag may rise again at a later event; one that rose before is cleared. -/
def Obligations.FlagsCleared : Prop :=
  (∀ (src tag : Byte) (mask : Word32) (s : State), Ready s →
    let respond := responseFrame src tag .flagsClear
    let role := (lookupNode s.tables .c src).bind (nodeRole s.tables)
    let permitted_ := s.control.mode = .init ∨ role = some .locoComputer ∨ role = some .tool
    let cleared : State := { s with lines := { s.lines with
      flags := s.lines.flags &&& ~~~ (mask.setWidth 19)
      inputs := Six.ofFn (fun n => { s.lines.inputs.get n with
        edge := (s.lines.inputs.get n).edge && !mask.getLsbD (19 + n.val) }) } }
    let edges := (six.map (fun n => (cleared.lines.inputs.get n).edge.toNat * 2 ^ n.val)).sum
    let clear := exec (.flagsClear src tag mask) s
    (¬ permitted_ → clear = .next (answered s (respond .notPermitted [])))
    ∧ (permitted_ → 33554432 ≤ mask.toNat → clear = .next (answered s (respond .badArg [])))
    ∧ (permitted_ → mask.toNat < 33554432 → clear = .next
      (answered cleared (respond .ok (be 4 (cleared.lines.flags.toNat + 524288 * edges)))))
    ∧ (permitted_ → mask = 0 → clear = .next
      (answered s (respond .ok (be 4 (s.lines.flags.toNat + 524288 * edges))))))
  ∧ (∀ (src tag : Byte) (mask : Word32) (s : State), Ready s →
    MayIssue s src .flagsClear (be 4 mask.toNat) → mask.toNat < 33554432 →
    ∃ t, exec (.flagsClear src tag mask) s = .next t
      ∧ (∀ f : Machine.Flag,
        flagSet t f = (flagSet s f && !mask.getLsbD (flagBit f))
        ∧ (mask.getLsbD (flagBit f) = true → flagSet (raise f t) f = true))
      ∧ (∀ n : Fin 6, (t.lines.inputs.get n).edge
        = ((s.lines.inputs.get n).edge && !mask.getLsbD (19 + n.val)))
      ∧ (t.lines.outputs.fault = true ↔ ∃ f ∈ [Flag.sourceLoss, .speedLost, .sensorFault, .axleLocked, .dbTrip,
          .valveLost, .nodeLost], flagSet s f = true ∧ mask.getLsbD (flagBit f) = false)
      ∧ t.lines.noticePending = s.lines.noticePending)
  ∧ ∀ (src tag : Byte) (mask : Word32) (f : Machine.Flag) (s : State), Ready (raise f s) →
    MayIssue s src .flagsClear (be 4 mask.toNat) → mask.toNat < 33554432 → mask.getLsbD (flagBit f) = true →
    ∃ t, exec (.flagsClear src tag mask) (raise f s) = .next t ∧ flagSet t f = false

/-- R160: a HELD response enters the C-port queue when there is room, and its buffer becomes FREE; without room, or
with nothing held, nothing changes.  The other buffer holds nothing that waits.  R155: a pending notice is formed
anew for a NOTICE_NODE, and the mark is cleared exactly if it finds room. -/
def Obligations.HeldResponseAndNoticeEnter : Prop :=
  (∀ s : State, s.inReset = false →
    let a := s.management.bufA
    let b := s.management.bufB
    let room := s.link.cPort.originated.length < 8
    (a.state ≠ .held → b.state ≠ .held → exec .heldResponseEntry s = .next (syncOutputs s))
    ∧ (a.state = .held ∨ b.state = .held → ¬ room → exec .heldResponseEntry s = .next (syncOutputs s))
    ∧ (∀ f, a.state = .held → a.response = some f → (b.state = .free ∨ b.state = .inFlight) → room →
      exec .heldResponseEntry s = .next (syncOutputs
        { enterResponse f s with management := { s.management with bufA := Buffer.free } }))
    ∧ ∀ f, b.state = .held → b.response = some f → (a.state = .free ∨ a.state = .inFlight) → room →
      exec .heldResponseEntry s = .next (syncOutputs
        { enterResponse f s with management := { s.management with bufB := Buffer.free } }))
  ∧ ∀ s : State, s.inReset = false → s.deferred = none →
    let notice := formNotice s
    let waiting := s.link.cPort.originated
    let room := waiting.length < 8 ∨ ∃ g ∈ waiting, g.cls = 0x44 ∧ g.dst = notice.dst
    let marked := fun (x : State) (m : Bool) => { x with lines := { x.lines with noticePending := m } }
    (s.lines.noticePending = false ∨ tableField s.tables.reporting 0 0 = 0 →
      exec .noticeReform s = .next (syncOutputs s))
    ∧ (s.lines.noticePending = true → tableField s.tables.reporting 0 0 ≠ 0 →
      (room → exec .noticeReform s = .next (syncOutputs (marked (handOver s .c notice) false)))
      ∧ (¬ room → exec .noticeReform s = .next (syncOutputs (marked (handOver s .c notice) true))))

/-! ## Incident Recorder -/

/-- R100, R101, R110: every RECORD_DIV-th snapshot enters the ring, in the place of the oldest where 256 are held, and
the FILLING incident; the snapshot that completes the span 256 − PRE seals the slot with cause COMPLETE and sets
INCIDENT_SEALED.  Any other snapshot only counts. -/
def Obligations.SnapshotEntersRing : Prop :=
  ∀ (n : Snapshot) (s : State),
    let r := s.recorder
    let div := tableField s.tables.recorder 1 0
    let pushed : Recorder := { r with
      divider := 0
      ring := if r.ring.length < 256 then r.ring ++ [n] else r.ring.drop 1 ++ [n] }
    (r.divider + 1 ≠ div → takeSnapshot s n = { s with recorder := { r with divider := r.divider + 1 } })
    ∧ (r.divider + 1 = div → (∀ k ∈ r.slots, k.state ≠ .filling) → takeSnapshot s n = { s with recorder := pushed })
    ∧ ∀ (i : Nat) (k : Slot), r.divider + 1 = div → r.slots[i]? = some k → k.state = .filling →
      fillingCount r ≤ 1 →
      let whole := k.preCount + (256 - tableField s.tables.recorder 0 0)
      (k.snapshots.length + 1 ≠ whole → takeSnapshot s n = { s with recorder := { pushed with
        slots := r.slots.set i { k with snapshots := k.snapshots ++ [n] } } })
      ∧ (k.snapshots.length + 1 = whole →
        let u : State := { s with recorder := { pushed with
          slots := r.slots.set i { k with
            snapshots := k.snapshots ++ [n], state := .sealed, endCause := some .complete } } }
        takeSnapshot s n = raise .incidentSealed u)

/-- R115 to R118: which frame a pattern matches: enabled, on its port, of its class, long enough for every selected
position, and with the expected CRC over the selected bytes in ascending position.  Under LONG_PAIRS the
even pattern takes its partner's mask for the positions from 32 on, and the odd one is not tested.  An offered
frame is tested in SERVICE while PATTERNS is LOADED, and each matching pattern in turn delivers FRAME_MATCH.  R114:
a taken one captures the frame, once, at the lowest empty position among 2, 3 and 4, and its entry records it. -/
def Obligations.PatternMatchesFrame : Prop :=
  (∀ (ts : Tables) (p : Fin 8) (port : Port) (f : Frame),
    let fld := fun (n k : Nat) => tableField ts.patterns n k
    let bytes := [f.dst, f.src, f.cls, f.seq, BitVec.ofNat 8 f.payload.length] ++ f.payload
    let low := (List.range 32).filter (fun j => (fld p.val 3).testBit j)
    let high := ((List.range 32).filter (fun j => (fld (p.val + 1) 3).testBit j)).map (fun j => 32 + j)
    let matches_ := fun positions : List Nat =>
      fld p.val 0 = 1 ∧ (fld p.val 1 = 2 ∨ fld p.val 1 = (match port with
        | .c => 0
        | .e => 1)) ∧ fld p.val 2 = f.cls.toNat
      ∧ (∀ j ∈ positions, j < bytes.length) ∧ (crc16 (positions.map (fun j => bytes.getD j 0))).toNat = fld p.val 4
    (tableField ts.recorder 4 0 ≠ 1 → (patternMatches ts p port f = true ↔ matches_ low))
    ∧ (tableField ts.recorder 4 0 = 1 → p.val % 2 = 0 → (patternMatches ts p port f = true ↔ matches_ (low ++ high)))
    ∧ (tableField ts.recorder 4 0 = 1 → p.val % 2 = 1 → patternMatches ts p port f = false))
  ∧ (∀ (port : Port) (f : Frame) (s : State),
    let image := fun p : Fin 8 => (
      { source := .pattern p
        port := port
        length := min f.payload.length 32
        truncated := decide (32 < f.payload.length)
        image := [f.dst, f.src, f.cls, f.seq, BitVec.ofNat 8 f.payload.length]
          ++ (f.payload ++ List.replicate 32 0).take 32 } : Capture)
    let turn := fun (x : State × Option Nat) (p : Fin 8) =>
      let after := deliverTrigger x.1 (.frameMatch p) (some (image p)) x.2
      (after.1, after.2.2)
    let matching := (List.finRange 8).filter (fun p => patternMatches s.tables p port f)
    (s.control.mode ≠ .service ∨ s.tables.patterns.loaded = false → offerFrame port f s = s)
    ∧ (s.control.mode = .service → s.tables.patterns.loaded = true →
      offerFrame port f s = (matching.foldl turn (s, none)).1))
  ∧ ∀ (p : Fin 8) (c : Capture) (captured : Option Nat) (s : State), s.control.mode = .service →
    let r := s.recorder
    let enabled := (tableField s.tables.recorder 2 0).testBit (14 + p.val)
    let guarded := (tableField s.tables.recorder 3 0).testBit (14 + p.val)
    let after := deliverTrigger s (.frameMatch p) (some c) captured
    (enabled = false → after.1 = s ∧ after.2.2 = captured)
    ∧ (∀ (i : Nat) (k : Slot), enabled = true → fillingCount r ≤ 1 → r.slots[i]? = some k → k.state = .filling →
      let placed_ : Slot × Option Nat :=
        if captured ≠ none then (k, captured)
        else if k.capture2 = none then ({ k with capture2 := some c }, some 2)
        else if k.capture3 = none then ({ k with capture3 := some c }, some 3)
        else if k.capture4 = none then ({ k with capture4 := some c }, some 4)
        else (k, none)
      let joined : Slot := if k.triggers.length < 8 then
          { placed_.1 with triggers := k.triggers ++ [⟨.frameMatch p, s.control.localMs, placed_.2⟩] }
        else { placed_.1 with dropped := min (k.dropped + 1) 255 }
      after.1 = { s with recorder := { r with
        slots := r.slots.set i { joined with protected_ := k.protected_ || guarded } } }
      ∧ after.2.2 = placed_.2)
    ∧ (∀ (i : Nat) (k : Slot), enabled = true → captured = none → (∀ j ∈ r.slots, j.state ≠ .filling) →
      r.nextSeq ≠ 0 → r.slots[i]? = some k → k.state = .free → (∀ j, j < i → (getSlot r j).state ≠ .free) →
      let pre := min (tableField s.tables.recorder 0 0) r.ring.length
      let opened : Slot :=
        { state := .filling
          seq := some r.nextSeq
          openTime := s.control.localMs
          timeOfDay := s.control.timeBase.map (fun b =>
            b.seconds + BitVec.ofNat 32 ((s.control.localMs - b.at_).toNat / 1000))
          triggers := [⟨.frameMatch p, s.control.localMs, some 2⟩]
          dropped := 0
          preCount := pre
          snapshots := r.ring.drop (r.ring.length - pre)
          capture1 := demandCapture s
          capture2 := some c
          capture3 := none
          capture4 := none
          protected_ := guarded
          endCause := none }
      after.1 = { s with recorder := { r with
        slots := r.slots.set i opened
        nextSeq := if r.nextSeq = 4294967295 then 0 else r.nextSeq + 1 } }
      ∧ after.2.2 = some 2)

/-- R102, R105 to R109, R111, R123: INCIDENT_MARK outside SERVICE, or with MANUAL not enabled, is NOT_ALLOWED.  A taken
one joins the FILLING incident; or opens one in the lowest FREE slot; or overwrites the unprotected incident of
the lowest number, counted, with INCIDENT_LOST; or is lost, counted, with INCIDENT_LOST.  The answer reports
which. -/
def Obligations.IncidentMarked : Prop :=
  ∀ (src tag : Byte) (s : State), Ready s → MayIssue s src .incidentMark [] → NumbersOk s.recorder →
    fillingCount s.recorder ≤ 1 →
    let r := s.recorder
    let mark_ := fun u : State => exec (.incidentMark src tag) u
    let enabled := (tableField s.tables.recorder 2 0).testBit 22
    let guarded := (tableField s.tables.recorder 3 0).testBit 22
    let entry : TriggerEntry := ⟨.manual, s.control.localMs, none⟩
    let pre := min (tableField s.tables.recorder 0 0) r.ring.length
    let opened : Slot :=
      { state := .filling
        seq := some r.nextSeq
        openTime := s.control.localMs
        timeOfDay := s.control.timeBase.map (fun b =>
          b.seconds + BitVec.ofNat 32 ((s.control.localMs - b.at_).toNat / 1000))
        triggers := [entry]
        dropped := 0
        preCount := pre
        snapshots := r.ring.drop (r.ring.length - pre)
        capture1 := demandCapture s
        capture2 := none
        capture3 := none
        capture4 := none
        protected_ := guarded
        endCause := none }
    let following := if r.nextSeq = 4294967295 then 0 else r.nextSeq + 1
    let byte := fun n : Nat => BitVec.ofNat 8 n
    let respond := fun data => responseFrame src tag .incidentMark .ok data
    let idle := ∀ k ∈ r.slots, k.state ≠ .filling
    let full := ∀ k ∈ r.slots, k.state ≠ .free
    let open_ := fun k : Slot => (k.state = .sealed ∨ k.state = .read) ∧ k.protected_ = false
    (s.control.mode ≠ .service ∨ enabled = false →
      mark_ s = .next (answered s (responseFrame src tag .incidentMark .notAllowed [])))
    ∧ (s.control.mode = .service → enabled = true →
      (∀ (i : Nat) (k : Slot), r.slots[i]? = some k → k.state = .filling →
        let joined : Slot := if k.triggers.length < 8 then { k with triggers := k.triggers ++ [entry] }
          else { k with dropped := min (k.dropped + 1) 255 }
        mark_ s = .next (answered { s with recorder := { r with
            slots := r.slots.set i { joined with protected_ := k.protected_ || guarded } } }
          (respond ([2, byte i] ++ be 4 (k.seq.getD 0) ++ [if k.triggers.length < 8 then 0 else 1]))))
      ∧ (∀ (i : Nat) (k : Slot), idle → r.nextSeq ≠ 0 → r.slots[i]? = some k → k.state = .free →
        (∀ j, j < i → (getSlot r j).state ≠ .free) →
        mark_ s = .next (answered { s with recorder := { r with
            slots := r.slots.set i opened, nextSeq := following } }
          (respond ([0, byte i] ++ be 4 r.nextSeq))))
      ∧ (∀ (i : Nat) (k : Slot), idle → full → r.nextSeq ≠ 0 → r.slots[i]? = some k → open_ k → ∀ q, k.seq = some q →
        (∀ j ∈ r.slots, open_ j → q ≤ j.seq.getD 0) →
        ∃ t, mark_ s = .next t ∧ RaisedFrom [.incidentLost] [] (answered { s with recorder := { r with
            slots := r.slots.set i opened, nextSeq := following, overwrites := min (r.overwrites + 1) 65535 } }
          (respond ([1, byte i] ++ be 4 r.nextSeq ++ be 4 q))) t)
      ∧ (idle → r.nextSeq = 0 ∨ full ∧ (∀ k ∈ r.slots, ¬ open_ k) →
        ∃ t, mark_ s = .next t ∧ RaisedFrom [.incidentLost] [] (answered { s with recorder := { r with
            lostCount := min (r.lostCount + 1) 65535 } } (respond [3])) t))

/-- R121, R122: INCIDENT_READ and INCIDENT_RELEASE, decided in order and answered.  A read moves SEALED to READ and
answers the chunk of the slot as it stood (log entry 16): chunk 0 the 234 bytes of header, triggers and captures,
chunk k the three snapshots from 3(k - 1) on, 64 bytes each, as chapter 11 lays them out; a release makes the slot
FREE.  Nothing else changes. -/
def Obligations.IncidentReadAndReleased : Prop :=
  (∀ (src tag slot chunk : Byte) (number : Word32) (s : State), Ready s →
    MayIssue s src .incidentRead ([slot] ++ be 4 number.toNat ++ [chunk]) →
    let respond := responseFrame src tag .incidentRead
    let read := exec (.incidentRead src tag slot number chunk) s
    let i := slot.toNat
    let k := getSlot s.recorder i
    let ready := k.state = .sealed ∨ k.state = .read
    let last := (k.snapshots.length + 2) / 3
    (7 < i → read = .next (answered s (respond .badArg [])))
    ∧ (i ≤ 7 → ¬ ready → read = .next (answered s (respond .notReady [])))
    ∧ (i ≤ 7 → ready → k.seq ≠ some number.toNat → read = .next (answered s (respond .stale [])))
    ∧ (i ≤ 7 → ready → k.seq = some number.toNat → last < chunk.toNat →
      read = .next (answered s (respond .badArg [])))
    ∧ (i ≤ 7 → ready → k.seq = some number.toNat → chunk.toNat ≤ last →
      let part := (k.snapshots.drop (3 * (chunk.toNat - 1))).take 3
      let byte := fun n : Nat => [BitVec.ofNat 8 n]
      let trigger_ := fun x : TriggerEntry =>
        byte (triggerCode x.kind) ++ be 4 x.at_.toNat ++ byte (x.capture.getD 0)
      let capture := fun x : Option Capture => match x with
        | none => List.replicate 41 (0 : Byte)
        | some c => byte (1 + 2 * c.truncated.toNat)
          ++ byte (match c.source with
            | .pattern p => p.val
            | .demand => 8)
          ++ byte (portCode c.port) ++ byte c.length ++ c.image
      let header := byte i ++ byte (slotStateCode k.state) ++ be 4 (k.seq.getD 0) ++ be 4 k.openTime.toNat
        ++ (match k.timeOfDay with
          | some x => 1 :: be 4 x.toNat
          | none => [0, 0, 0, 0, 0])
        ++ byte k.dropped ++ byte k.preCount ++ be 2 k.snapshots.length ++ byte k.protected_.toNat
        ++ byte (endCauseCode k.endCause) ++ byte k.triggers.length ++ k.triggers.flatMap trigger_
        ++ List.replicate (6 * (8 - k.triggers.length)) 0
        ++ capture k.capture1 ++ capture k.capture2 ++ capture k.capture3 ++ capture k.capture4
      let snapshot := fun n : Snapshot => be 4 n.at_.toNat
        ++ byte (16 * activeCode n.active + phaseCode n.phase) ++ byte n.reduction ++ be 2 n.independent
        ++ byte n.handle
        ++ byte (n.emergency.toNat + 2 * n.bailOff.toNat + 4 * n.sandFlag.toNat + 8 * n.direction.toNat)
        ++ byte n.fTarget ++ byte n.goal ++ byte n.fBack ++ be 2 n.vRef
        ++ byte (refSourceCode n.refSource + 2 * speedStateCode n.speedState + 8 * dbStateCode n.dbState
          + 64 * n.latch.toNat + 128 * n.sandRequest.toNat)
        ++ be 2 n.g
        ++ six.flatMap (fun j =>
          let a := n.axles.get j
          be 2 a.v ++ be 2 (8192 * axleStateCode a.state + a.f) ++ byte a.e ++ byte a.achieved)
        ++ be 2 n.p1 ++ be 2 n.achieved1 ++ be 2 n.p2 ++ be 2 n.achieved2 ++ byte n.saturated.toNat ++ byte 0
      (∀ n, (snapshot n).length = 64)
      ∧ (k.triggers.length ≤ 8 → (∀ c ∈ [k.capture1, k.capture2, k.capture3, k.capture4],
        ∀ x, c = some x → x.image.length = 37) → header.length = 234)
      ∧ read = .next (answered
        { s with recorder := { s.recorder with slots := s.recorder.slots.set i { k with state := .read } } }
        (respond .ok (if chunk = 0 then header
          else [chunk] ++ byte part.length ++ part.flatMap snapshot)))))
  ∧ ∀ (src tag slot : Byte) (number : Word32) (s : State), Ready s →
    MayIssue s src .incidentRelease ([slot] ++ be 4 number.toNat) →
    let respond := responseFrame src tag .incidentRelease
    let release := exec (.incidentRelease src tag slot number) s
    let i := slot.toNat
    let k := getSlot s.recorder i
    let ready := k.state = .sealed ∨ k.state = .read
    (7 < i → release = .next (answered s (respond .badArg [])))
    ∧ (i ≤ 7 → ¬ ready → release = .next (answered s (respond .notReady [])))
    ∧ (i ≤ 7 → ready → k.seq ≠ some number.toNat → release = .next (answered s (respond .stale [])))
    ∧ (i ≤ 7 → ready → k.seq = some number.toNat → release = .next (answered
        { s with recorder := { s.recorder with slots := s.recorder.slots.set i Slot.free } } (respond .ok [])))

/-! ## Management Unit -/

/-- R120: INCIDENT_LIST is answered OK in every mode, with each slot's state, number (0 for FREE), first trigger kind
(255, the code of none, for FREE), protection mark and snapshot count, and the next number, the two counters and
the ring count.  R167: NODE_STATUS_GET refuses a first index above 31, a count of 0 or above 7 and a sum above 32,
and otherwise answers the entries in index order, each in the order of log entry 11; an unused one with its index
and that it is unused.  Neither changes anything else. -/
def Obligations.IncidentsAndNodesListed : Prop :=
  (∀ (src tag : Byte) (s : State), Ready s → MayIssue s src .incidentList [] → IncidentsOk s.recorder →
    let r := s.recorder
    let line := fun k : Slot =>
      [BitVec.ofNat 8 (match k.state with
        | .free => 0
        | .filling => 1
        | .sealed => 2
        | .read => 3)]
      ++ be 4 (if k.state = .free then 0 else k.seq.getD 0)
      ++ [BitVec.ofNat 8 (match k.triggers with
        | x :: _ => if k.state = .free then 255 else triggerCode x.kind
        | [] => 255)]
      ++ [if k.protected_ then 1 else 0] ++ be 2 k.snapshots.length
    exec (.incidentList src tag) s = .next (answered s (responseFrame src tag .incidentList .ok
      (r.slots.flatMap line ++ be 4 r.nextSeq ++ be 2 r.overwrites ++ be 2 r.lostCount ++ be 2 r.ring.length))))
  ∧ ∀ (src tag first count : Byte) (s : State), Ready s → MayIssue s src .nodeStatusGet [first, count] →
    let respond := responseFrame src tag .nodeStatusGet
    let get := exec (.nodeStatusGet src tag first count) s
    let fld := fun i k : Nat => tableField s.tables.nodes i k
    let timer := fun x : Timer => match x with
      | .stopped => [(0 : Byte), 0, 0, 0, 0]
      | .running e => 1 :: be 4 e
      | .expired => [2, 0, 0, 0, 0]
    let entry := fun i : Nat =>
      let n := getNode s i
      if fld i 0 = 1 then
        [BitVec.ofNat 8 i, 1] ++ be 1 (fld i 1) ++ be 1 (fld i 2) ++ be 1 (fld i 3) ++ be 2 (fld i 4)
          ++ [match n.liveness with
            | .unseen => (0 : Byte)
            | .live => 1
            | .lost => 2]
          ++ timer n.timer ++ (match n.lastSeq with
            | some q => [1, q]
            | none => [0, 0])
          ++ be 4 n.good ++ be 4 n.duplicate ++ be 4 n.gap ++ be 4 n.error
      else [BitVec.ofNat 8 i, 0]
    (31 < first.toNat ∨ count.toNat = 0 ∨ 7 < count.toNat ∨ 32 < first.toNat + count.toNat →
      get = .next (answered s (respond .badArg [])))
    ∧ (first.toNat ≤ 31 → 1 ≤ count.toNat → count.toNat ≤ 7 → first.toNat + count.toNat ≤ 32 →
      get = .next (answered s (respond .ok
        ((List.range count.toNat).flatMap (fun j => entry (first.toNat + j))))))

/-- R166, R173: STATUS_GET and TABLE_READ answer from the state as it stands, or refuse, and change nothing else.  The
ten sections carry what R166 lists, in the encodings of chapter 11 and the order of log entry 11; in section MODE
the requesting buffer reports itself WAITING (log entry 11). -/
def Obligations.StatusAndTablesRead : Prop :=
  (∀ (src tag sect : Byte) (s : State), Ready s → MayIssue s src .statusGet [sect] →
    let respond := responseFrame src tag .statusGet
    let get := exec (.statusGet src tag sect) s
    let holding := placed s.management (waitingBuffer src [tag, 1, sect])
    let opt := fun (k : Nat) (x : Option Nat) => match x with
      | some n => (1 : Byte) :: be k n
      | none => 0 :: be k 0
    let timer := fun x : Timer => match x with
      | .stopped => [(0 : Byte), 0, 0, 0, 0]
      | .running e => 1 :: be 4 e
      | .expired => [2, 0, 0, 0, 0]
    let byte := fun n : Nat => [BitVec.ofNat 8 n]
    let flag := fun b : Bool => [if b then (1 : Byte) else 0]
    let source := fun x : Option Source => match x with
      | some k => [(1 : Byte), BitVec.ofNat 8 (sourceCode k)]
      | none => [0, 0]
    let a := s.authority
    let d := activeDemand s
    let monitor := fun m : Monitor => byte (monitorCode m.state) ++ byte m.count
    let axle := fun x : AxleRecord => opt 2 x.circumference ++ be 2 x.v ++ opt 2 x.vPrev
      ++ be 4 (BitVec.ofInt 32 x.decel).toNat ++ be 2 x.slip ++ byte (axleStateCode x.state) ++ be 2 x.f
      ++ byte x.confirm ++ byte x.faultCount ++ timer x.stateTimer ++ timer x.episode ++ timer x.lockTimer
      ++ flag x.prolonged ++ byte x.slideCount ++ byte (isolationCode x.isolation)
    let truck := fun x : TruckRecord =>
      flag x.held ++ be 2 x.pressure ++ flag x.fault ++ byte (conditionCode x.condition)
    let b := s.brake
    let period := fun r : PeriodRecord => be 4 r.at_.toNat ++ flag r.latch ++ be 2 r.fDyn ++ be 2 r.fAuto
      ++ be 2 r.fTarget ++ byte r.capability ++ be 2 r.capabilitySum ++ six.flatMap (fun i => byte (r.caps.get i))
      ++ be 2 r.goal ++ six.flatMap (fun i => byte (r.goals.get i)) ++ be 2 r.fBack ++ be 2 r.f1 ++ be 2 r.f2
      ++ be 2 r.fT1 ++ be 2 r.fT2 ++ flag r.sanded
    let counters := fun k : PortCounters => [k.rxGood, k.runt, k.long, k.lengthMismatch, k.checkError, k.unknown,
      k.ownDropped, k.notPassed, k.forwardDrop, k.originatedDrop, k.txOriginated, k.txForwarded].flatMap (be 4)
    let busy := fun x : Transmitter => byte (match x with
      | .idle => 0
      | .sending _ _ _ => 1)
    let runs := fun x : Timer => flag (match x with
      | .running _ => true
      | _ => false)
    let factor := fun i j k : Fin 6 =>
      let counted := fun n : Fin 6 => if (s.slide.axles.get n).state = .sensorFault
        ∨ (s.slide.axles.get n).state = .isolated then 1000 else (s.slide.axles.get n).f
      min 1000 (min (counted i) (min (counted j) (counted k)))
    let edges := (six.map (fun n => (s.lines.inputs.get n).edge.toNat * 2 ^ n.val)).sum
    let sections : List (List Byte) := [
      byte (modeCode s.control.mode) ++ flag s.control.validation.isSome
        ++ tableIds.flatMap (fun id => flag (getTable s.tables id).loaded) ++ be 4 s.control.localMs.toNat
        ++ (match s.control.timeBase with
          | some x => [1] ++ be 4 x.seconds.toNat ++ be 4 x.at_.toNat
          | none => List.replicate 9 0)
        ++ [s.link.own] ++ byte (bufferCode holding.bufA.state) ++ byte (bufferCode holding.bufB.state),
      opt 1 d.reduction ++ opt 2 d.independent ++ byte d.handle ++ flag d.emergency ++ flag d.bailOff
        ++ flag d.sand ++ [d.direction] ++ monitor a.monitors.cabA ++ monitor a.monitors.cabB
        ++ monitor a.monitors.dp ++ byte (activeCode a.active) ++ byte (phaseCode a.phase) ++ source a.lost
        ++ source a.pendingSwitch ++ source a.lock ++ flag a.latch ++ timer a.holdTimer ++ timer a.resetTimer
        ++ flag a.autoMark,
      byte (speedStateCode s.slide.speedState) ++ be 2 s.slide.vRef ++ byte (refSourceCode s.slide.refSource)
        ++ opt 4 (s.slide.prevArrival.map BitVec.toNat) ++ timer s.slide.staleTimer
        ++ (match s.slide.radar with
          | some x => [1] ++ be 2 x.speed ++ flag x.valid ++ be 4 x.arrival.toNat
          | none => List.replicate 8 0)
        ++ be 2 (factor 0 1 2) ++ be 2 (factor 3 4 5) ++ flag s.slide.sandRequest ++ timer s.slide.sandTimer,
      be 2 s.slide.t1 ++ be 2 s.slide.t2 ++ six.flatMap (fun i => axle (s.slide.axles.get i)),
      byte (dbStateCode b.state) ++ byte (tripCauseCode b.cause)
        ++ timer (match b.setupTimer with
          | .running e => .running e
          | _ => b.idleTimer)
        ++ (match b.status with
          | some x => [1] ++ six.flatMap (fun i => byte (x.effort.get i)) ++ flag x.ready ++ flag x.fault
            ++ flag x.blowerOk
          | none => List.replicate 10 0)
        ++ be 2 b.aLast ++ flag b.shortfall ++ timer b.shortSet ++ timer b.shortClear ++ be 4 b.heat ++ be 2 b.g,
      six.flatMap (fun i => byte (s.blend.e.get i)) ++ be 2 s.blend.p1 ++ be 2 s.blend.p2 ++ byte s.blend.divider
        ++ timer s.blend.timer ++ (match s.blend.record with
          | some r => [1] ++ period r
          | none => List.replicate 40 0),
      truck s.air.truck1 ++ truck s.air.truck2 ++ timer s.air.standstill,
      be 2 s.recorder.ring.length ++ byte s.recorder.divider
        ++ opt 1 (s.recorder.slots.findIdx? (fun k => decide (k.state = .filling))) ++ be 4 s.recorder.nextSeq
        ++ be 2 s.recorder.overwrites ++ be 2 s.recorder.lostCount,
      counters s.link.cPort.counters ++ counters s.link.ePort.counters ++ byte s.link.ePort.forward.length
        ++ byte s.link.cPort.forward.length ++ byte s.link.cPort.originated.length
        ++ byte s.link.ePort.originated.length ++ busy s.link.cPort.transmitter ++ busy s.link.ePort.transmitter
        ++ [s.link.cPort.sequence, s.link.ePort.sequence],
      six.flatMap (fun n =>
          let x := s.lines.inputs.get n
          flag x.present ++ flag x.accepted ++ runs x.debounce ++ flag x.edge)
        ++ flag s.slide.sandRequest ++ flag s.authority.latch
        ++ flag ([Flag.sourceLoss, .speedLost, .sensorFault, .axleLocked, .dbTrip, .valveLost, .nodeLost].any
          (flagSet s))
        ++ be 4 (s.lines.flags.toNat + 524288 * edges) ++ flag s.lines.noticePending]
    (9 < sect.toNat → get = .next (answered s (respond .badArg [])))
    ∧ (∀ data, sections[sect.toNat]? = some data → get = .next (answered s (respond .ok data)))
    ∧ (sect.toNat = 0 → get = .next (answered s (respond .ok
        (modeSection { s with management := holding }))))
    ∧ (1 ≤ sect.toNat → sect.toNat ≤ 9 → ∃ data, statusSection s sect.toNat = some data
      ∧ sections[sect.toNat]? = some data ∧ get = .next (answered s (respond .ok data))))
  ∧ ∀ (src tag table count : Byte) (first : BitVec 16) (s : State), Ready s →
    MayIssue s src .tableRead ([table] ++ be 2 first.toNat ++ [count]) →
    let respond := responseFrame src tag .tableRead
    let read := exec (.tableRead src tag table first count) s
    (16 < table.toNat → read = .next (answered s (respond .badArg [])))
    ∧ ∀ id, tableOfId table.toNat = some id →
      let range := count.toNat = 0 ∨ tableEntries id < first.toNat + count.toNat
        ∨ 232 < count.toNat * entrySize id
      let values := (((getTable s.tables id).entries.drop first.toNat).take count.toNat).flatMap (fun fields =>
        (List.zipWith be (fieldWidths id) fields).flatten)
      (range → read = .next (answered s (respond .badArg [])))
      ∧ (¬ range → read = .next (answered s (respond .ok
        ([table] ++ be 2 first.toNat ++ [count] ++ [if (getTable s.tables id).loaded then 1 else 0] ++ values))))

/-- R158, R160 to R163: a request that finds both buffers occupied is answered BUSY; one that finds a FREE buffer but
a full queue waits in it, as received; a taken one is refused in the order of the checks: tag and command present,
a known command, the requester's role, the count of argument bytes, a cab's own role.  One that passes them is
carried out and answered in the same event, here STATUS_GET of a section and SOURCE_ABORT of a pending switch
(R9, R166). -/
def Obligations.RequestsCheckedInOrder : Prop :=
  (∀ (src : Byte) (payload : List Byte) (s : State), s.inReset = false →
    let a := s.management.bufA
    let b := s.management.bufB
    let tag := payload.getD 0 0
    let code := if payload.length < 2 then 0 else payload.getD 1 0
    let waiting : Buffer := ⟨.waiting, src, payload[0]?, payload[1]?, payload.drop 2, none⟩
    let give := exec (.mgmtRequest src payload) s
    (a.state ≠ .free → b.state ≠ .free →
      give = .next (syncOutputs (handOver s .c ⟨src, 0x41, [tag, code, 2]⟩)))
    ∧ (8 ≤ s.link.cPort.originated.length → a.state = .free → give = .next (syncOutputs
      { s with management := { s.management with bufA := waiting, bFirst := decide (b.state ≠ .free) } }))
    ∧ (8 ≤ s.link.cPort.originated.length → a.state ≠ .free → b.state = .free → give = .next (syncOutputs
      { s with management := { s.management with bufB := waiting, bFirst := false } })))
  ∧ (∀ (src : Byte) (payload : List Byte) (s : State), Ready s →
    let tag := payload.getD 0 0
    let code := payload.getD 1 0
    let refused := fun (c r : Byte) =>
      exec (.mgmtRequest src payload) s = .next (answered s ⟨src, 0x41, [tag, c, r]⟩)
    let args := payload.drop 2
    let known := 1 ≤ code.toNat ∧ code.toNat ≤ 17
    let role := (lookupNode s.tables .c src).bind (nodeRole s.tables)
    let roles : List Role := match code.toNat with
      | 1 | 2 => [.cabA, .cabB, .dp, .locoComputer, .recorder, .tool, .axleConc, .valveT1, .valveT2, .traction,
          .radar, .other]
      | 13 | 14 | 15 => [.recorder, .locoComputer, .tool]
      | 16 | 7 => [.cabA, .cabB, .locoComputer, .tool]
      | _ => [.locoComputer, .tool]
    let allowed := s.control.mode = .init ∨ ∃ x ∈ roles, role = some x
    let plain := fun n : Nat => match n with
      | 1 | 4 | 7 | 11 | 12 => 1
      | 2 => 2
      | 3 | 6 => 4
      | 14 => 6
      | 15 => 5
      | _ => 0
    let fits := if code.toNat = 5 then
        4 ≤ args.length ∧ ∃ id, tableOfId (args.getD 0 0).toNat = some id
          ∧ args.length = 4 + (args.getD 3 0).toNat * entrySize id
      else args.length = plain code.toNat
    let foreign := code.toNat = 7 ∧ s.control.mode ≠ .init
      ∧ (role = some .cabA ∧ args.getD 0 0 ≠ 1 ∨ role = some .cabB ∧ args.getD 0 0 ≠ 2)
    (payload.length < 2 → refused 0 5)
    ∧ (2 ≤ payload.length → ¬ known → refused code 6)
    ∧ (2 ≤ payload.length → known → ¬ allowed → refused code 3)
    ∧ (2 ≤ payload.length → known → allowed → ¬ fits → refused code 5)
    ∧ (2 ≤ payload.length → known → allowed → fits → foreign → refused code 3))
  ∧ (∀ (src tag sect : Byte) (s : State), Ready s → MayIssue s src .statusGet [sect] →
    1 ≤ sect.toNat → sect.toNat ≤ 9 → ∃ data, statusSection s sect.toNat = some data
      ∧ exec (.mgmtRequest src [tag, 1, sect]) s = .next (answered s ⟨src, 0x41, [tag, 1, 0] ++ data⟩))
  ∧ ∀ (src tag : Byte) (k : Source) (s : State), Ready s → MayIssue s src .sourceAbort [] →
    s.authority.pendingSwitch = some k →
    exec (.mgmtRequest src [tag, 8]) s = .next (answered
      { s with authority := { s.authority with pendingSwitch := none } } ⟨src, 0x41, [tag, 8, 0]⟩)

/-! ## Tables and modes -/

/-- R96, R174: MODE_SET by its target and the mode: refused BAD_ARG, BUSY, REDUNDANT, REFUSED_MODE, EMERGENCY_LATCHED
or NOT_SECURED with the failing items; to SERVICE from INIT or MAINTENANCE it starts a validation, its buffer IN_FLIGHT
without a response.  A target that is no mode is refused before the mark is looked at (log entry 13). -/
def Obligations.ModeSetDecided : Prop :=
  (∀ (src tag target : Byte) (s : State), Ready s → MayIssue s src .modeSet [target] →
    let respond := fun r data => answered s (responseFrame src tag .modeSet r data)
    let set := exec (.modeSet src tag target) s
    let mode := s.control.mode
    let free := s.control.validation = none
    (target ≠ 1 → target ≠ 2 → set = .next (respond .badArg []))
    ∧ (target = 1 ∨ target = 2 → ¬ free → set = .next (respond .busy []))
    ∧ (target = 2 → free → mode = .service → set = .next (respond .redundant []))
    ∧ (target = 1 → free → mode = .init → set = .next (respond .refusedMode []))
    ∧ (target = 1 → free → mode = .maintenance → set = .next (respond .redundant []))
    ∧ (target = 1 → free → mode = .service → s.authority.latch = true → set = .next (respond .emergencyLatched []))
    ∧ (target = 1 → free → mode = .service → s.authority.latch = false → failingItems s ≠ 0 →
      set = .next (respond .notSecured [BitVec.ofNat 8 (failingItems s)]))
    ∧ (target = 2 → free → mode ≠ .service → set = .next (syncOutputs { s with
        control := { s.control with validation := some 0 }
        management := placed s.management ⟨.inFlight, src, some tag, some 0x04, [target], none⟩
        deferred := none })))
  ∧ ∀ s : State,
    let live := fun r : Role => ∃ i, binding s.tables r = some i ∧ (getNode s i).liveness = .live
    let sound := fun k : TruckRecord => k.condition = .clear ∧ k.held = true ∧ k.fault = false
    let least := tableField s.tables.blend 9 0
    let holds := fun n : Nat => (failingItems s).testBit n = false
    (holds 0 ↔ ∃ e, s.air.standstill = .running e ∧ 5000 ≤ e)
    ∧ (holds 1 ↔ live .valveT1 ∧ sound s.air.truck1)
    ∧ (holds 2 ↔ live .valveT2 ∧ sound s.air.truck2)
    ∧ (holds 3 ↔ least ≤ s.air.truck1.pressure)
    ∧ (holds 4 ↔ least ≤ s.air.truck2.pressure)
    ∧ failingItems s < 32

/-- R10, R58, R86, R112, R172, R175: a secured SERVICE is left for MAINTENANCE: the channel goes to OFF from SETUP or
ACTIVE, the blend timer stops, the final setpoints (efforts 0, both pressures BC_MAX, marks clear) go to the
E-port, a FILLING slot is sealed with MODE_CHANGE, the pending switch is cleared and CONFIG_CHANGED is set; the
rest stands, and the notices follow the response. -/
def Obligations.ServiceLeftForMaintenance : Prop :=
  ∀ (src tag : Byte) (s : State), Ready s → MayIssue s src .modeSet [1] →
    s.control.mode = .service → s.control.validation = none → s.authority.latch = false → failingItems s = 0 →
    ∀ traction valve1 valve2 : Byte,
    roleAddress s.tables .traction = some traction → roleAddress s.tables .valveT1 = some valve1 →
    roleAddress s.tables .valveT2 = some valve2 →
    let top := tableField s.tables.blend 5 0
    let bc := fun truck : Byte => [truck, BitVec.ofNat 8 (top / 256), BitVec.ofNat 8 top, 0]
    let sent := handOver (handOver (handOver s .e ⟨traction, 0x70, [0, 0, 0, 0, 0, 0, 0]⟩)
      .e ⟨valve1, 0x74, bc 1⟩) .e ⟨valve2, 0x74, bc 2⟩
    let brake := if s.brake.state = .setup ∨ s.brake.state = .active then broughtOut s.brake .off s.brake.cause
      else s.brake
    let left := fun slots : List Slot =>
      ({ s with
        control := { s.control with mode := .maintenance }
        brake := brake
        blend := { s.blend with timer := .stopped, e := Six.all 0, p1 := top, p2 := top }
        authority := { s.authority with pendingSwitch := none }
        recorder := { s.recorder with slots := slots }
        link := { s.link with ePort := sent.link.ePort } } : State)
    let respond := responseFrame src tag .modeSet .ok [1]
    ∃ t, exec (.modeSet src tag 1) s = .next t
      ∧ ((∀ k ∈ s.recorder.slots, k.state ≠ .filling) →
        RaisedFrom [.configChanged] [] (answered (left s.recorder.slots) respond) t)
      ∧ ∀ (i : Nat) (k : Slot), s.recorder.slots[i]? = some k → k.state = .filling → fillingCount s.recorder ≤ 1 →
        RaisedFrom [.incidentSealed, .configChanged] []
          (answered (left (s.recorder.slots.set i { k with state := .sealed, endCause := some .modeChange }))
            respond) t

/-- R136, R165, R176, R178: the completion of a validation in flight, at any age (log entry 7), clears the mark.  A
failure changes nothing else and answers TABLE_INVALID; a success makes the mode SERVICE, starts the blend timer,
empties the ring, removes the C-port's setpoints from the E-port, counted, and stops one being sent, sets
CONFIG_CHANGED and answers 02h (log entry 12).  The response, of the request in either buffer, enters, or is HELD
when the queue is full.  Without a validation in flight the command has no effect.  R177: validation makes its checks
in order, and reports the first that fails. -/
def Obligations.ValidationCompletes : Prop :=
  (∀ s : State, s.inReset = false → s.control.validation = none →
    exec .validationComplete s = .next (syncOutputs s))
  ∧ (∀ (s : State) (n : Nat) (isB : Bool), s.inReset = false → s.control.validation = some n →
    let b := if isB then s.management.bufB else s.management.bufA
    let other := if isB then s.management.bufA else s.management.bufB
    let room := s.link.cPort.originated.length < 8
    b.state = .inFlight → (other.state = .free ∨ other.state = .waiting ∧ ¬ room) →
    (s.link.cPort.transmitter = .idle → s.link.cPort.originated = []) →
    let replaced := fun x : Buffer =>
      if isB then { s.management with bufB := x } else { s.management with bufA := x }
    let frame := fun (r : Byte) (data : List Byte) =>
      (⟨b.src, 0x41, [b.tag.getD 0, b.command.getD 0, r] ++ data⟩ : OriginatedFrame)
    let ended := fun (u : State) (f : OriginatedFrame) =>
      if room then { enterResponse f u with management := replaced Buffer.free, deferred := none }
      else { u with management := replaced { b with state := .held, response := some f }, deferred := none }
    (∀ x, validate s.link.own s.tables = some x →
      exec .validationComplete s = .next (syncOutputs (ended
        { s with control := { s.control with validation := none } }
        (frame 0x0D ([BitVec.ofNat 8 (tableCode x.table)] ++ be 2 (x.entry.getD 65535)
          ++ [BitVec.ofNat 8 (checkCode x.check)])))))
    ∧ (validate s.link.own s.tables = none →
      let setpoint := fun raw : List Byte => raw.getD 2 0 = 0x70 ∨ raw.getD 2 0 = 0x74
      let e := s.link.ePort
      let kept := e.forward.filter (fun raw => decide (¬ setpoint raw))
      let sending := ∃ raw m, e.transmitter = .sending false raw m ∧ setpoint raw
      let removed := e.forward.length - kept.length
      ∃ t, exec .validationComplete s = .next t
        ∧ (∀ gone : Nat, ∀ port : PortState,
          (sending → gone = removed + 1 ∧ port = takeNext s.link.own 0 { e with forward := kept }) →
          (¬ sending → gone = removed ∧ port = { e with forward := kept }) →
          s.link.cPort.counters.notPassed + gone ≤ 4294967295 →
          let c := s.link.cPort
          RaisedFrom [.configChanged] [] (ended
            { s with
              control := { s.control with mode := .service, validation := none }
              blend := { s.blend with timer := .running 0, divider := 0 }
              recorder := { s.recorder with ring := [], divider := 0 }
              link := { s.link with
                ePort := port
                cPort := { c with counters := { c.counters with notPassed := c.counters.notPassed + gone } } } }
            (frame 0 [2])) t)))
  ∧ ∀ (own : Byte) (ts : Tables),
    let fld := tableField
    let used := fun i : Nat => decide (fld ts.nodes i 0 = 1)
    let lower := fun i : Nat => (List.range i).filter used
    let held := fun code : Nat => (List.range 32).any (fun i => used i && decide (fld ts.nodes i 3 = code))
    let once := fun code : Nat => decide (code ∈ [1, 2, 3, 7, 8, 9, 10, 11])
    let curve := fun (t : Table) (x y : Nat) =>
      let count := fld t 0 0
      let points := (t.entries.drop 1).take count
      let value := fun k c : Nat => (points.getD k []).getD c 0
      (decide (2 ≤ count ∧ count ≤ 16), some 0, Check.curvePoints)
        :: (List.range points.length).flatMap (fun k =>
          (decide (value k 0 ≤ x ∧ value k 1 ≤ y), some (k + 1), Check.curveRange)
            :: (if k = 0 then [] else [(decide (value (k - 1) 0 < value k 0), some (k + 1), Check.curveOrder)]))
    let ownChecks_ : TableId → List (Bool × Option Nat × Check) := fun id => match id with
      | .nodes => (List.range 32).flatMap (fun i => if used i then
            [(decide (fld ts.nodes i 1 ≠ own.toNat), some i, .ownAddress),
              ((lower i).all (fun j => decide (fld ts.nodes j 1 ≠ fld ts.nodes i 1)), some i, .duplicateAddress),
              (!once (fld ts.nodes i 3) || (lower i).all (fun j => decide (fld ts.nodes j 3 ≠ fld ts.nodes i 3)),
                some i, .duplicateRole)]
          else [])
        ++ [(held 7 && held 8 && held 9 && held 10, none, .requiredRole)]
      | .handle => (List.range 256).map (fun i => (decide (fld ts.handle i 0 ≤ 1000), some i, .handleRange))
      | .auto => curve ts.auto 255 720
      | .dbCurve => curve ts.dbCurve 20000 120
      | .adhPlain => curve ts.adhPlain 20000 1000
      | .adhSanded => curve ts.adhSanded 20000 1000
      | .blend => [(decide (fld ts.blend 5 0 ≤ 600), some 5, .pressureLimit),
          (decide (fld ts.blend 6 0 ≤ fld ts.blend 5 0), some 6, .pressureLimit)]
      | .heat => [(decide (fld ts.heat 0 0 < fld ts.heat 1 0), some 1, .order)]
      | .db => [(decide (fld ts.db 2 0 ≤ fld ts.db 3 0), some 3, .order)]
      | .slide => [(decide (fld ts.slide 4 0 < fld ts.slide 5 0), some 5, .order),
          (decide (fld ts.slide 6 0 < fld ts.slide 7 0), some 7, .order)]
      | .source =>
        [(decide (1 ≤ fld ts.source 0 0 ∧ fld ts.source 0 0 ≤ 3) && held (fld ts.source 0 0), some 0, .roleAbsent)]
      | .recorder => [(decide (16 ≤ fld ts.recorder 0 0 ∧ fld ts.recorder 0 0 ≤ 240), some 0, .preRange)]
      | _ => []
    let checks := fun id : TableId =>
      let t := getTable ts id
      (t.loaded, none, Check.notLoaded)
        :: (List.range t.entries.length).map (fun i =>
          (entryInRange id i (t.entries.getD i []), some i, Check.fieldRange))
        ++ ownChecks_ id
    validate own ts = (tableIds.flatMap (fun id => (checks id).map (fun c => (id, c)))).findSome? (fun x =>
      if x.2.1 then none else some ⟨x.1, x.2.2.1, x.2.2.2⟩)

/-- R171: TABLE_WRITE is refused in SERVICE, while a validation is in flight, for a count of 0 or past the table's end,
and for any field outside its write range, with nothing written; otherwise the named entries are replaced, the
table is LOADED, CONFIG_CHANGED is set and the three numbers are answered.  R170: the write ranges, field by field
(an unused NODES entry may hold role 0: log entry 9).  R172: what each write does to the state that is derived from
the table: node fields and monitors (R144, R3, log entry 18), circumferences (R25), the authority's timers (R13,
R20), the slide timers and sand (R28, R39, R46), g (R62), the lines (R150), a pending notice (R154, log entry 14); the
plain tables have none.  That a SLIDE write leaves an axle that is LOCKED beyond the new LOCK_FAULT_MS as it is, its
isolation (R41) being left to a step of its own, is the model's choice (log entry 21). -/
def Obligations.TableWritten : Prop :=
  (∀ (id : TableId) (n : Nat) (fields : List Nat), n < tableEntries id →
    let v := fun k : Nat => fields.getD k 0
    let within_ := fun limits : List (Nat × Nat) => (limits.getD n (0, 0)).1 ≤ v 0 ∧ v 0 ≤ (limits.getD n (0, 0)).2
    entryInRange id n fields = true ↔ match id with
      | .nodes => v 0 ≤ 1 ∧ (1 ≤ v 1 ∧ v 1 ≤ 254 ∨ v 0 = 0 ∧ v 1 = 0) ∧ v 2 ≤ 1
        ∧ (1 ≤ v 3 ∧ v 3 ≤ 12 ∨ v 0 = 0 ∧ v 3 = 0) ∧ (v 4 = 0 ∨ 20 ≤ v 4 ∧ v 4 ≤ 5000)
      | .classSets => v 0 ≤ 1
      | .handle => v 0 ≤ 65535
      | .auto | .dbCurve | .adhPlain | .adhSanded =>
        if n = 0 then v 0 ≤ 16 else v 0 ≤ 65535 ∧ v 1 ≤ 65535
      | .axle => if n < 6 then 900 ≤ v 0 ∧ v 0 ≤ 1270 else 500 ≤ v 0 ∧ v 0 ≤ 1500
      | .blend => within_ [(0, 720), (1, 120), (1, 120), (1, 120), (1, 1000), (0, 1000), (0, 1000), (1, 255),
          (1, 600), (0, 1000)]
      | .heat => within_ [(0, 4294967294), (1, 4294967295), (0, 65535), (0, 65535)]
      | .db => within_ [(100, 10000), (100, 60000), (0, 1000), (0, 1000), (100, 10000)]
      | .slide => within_ [(20, 500), (5, 1000), (5, 1000), (0, 1), (0, 2000), (0, 2000), (0, 500), (0, 500),
          (0, 10000), (2, 8), (1, 1000), (1, 1000), (500, 30000), (0, 1000), (0, 1000), (0, 5000), (100, 5000),
          (1000, 60000), (1, 6), (0, 30000)]
      | .source => within_ [(1, 3), (2, 16), (100, 60000), (10000, 120000)]
      | .recorder => within_ [(0, 255), (1, 10), (0, 8388607), (0, 8388607), (0, 1)]
      | .patterns => v 0 ≤ 1 ∧ v 1 ≤ 2 ∧ v 2 ≤ 255 ∧ v 3 ≤ 4294967295 ∧ v 4 ≤ 65535
      | .discrete => v 0 ≤ 1 ∧ v 1 ≤ 100 ∧ v 2 ≤ 3
      | .reporting => within_ [(0, 255), (0, 524287), (0, 255)])
  ∧ ∀ (src tag table count : Byte) (first : BitVec 16) (values : List Byte) (id : TableId) (s : State), Ready s →
    MayIssue s src .tableWrite ([table] ++ be 2 first.toNat ++ [count] ++ values) →
    tableOfId table.toNat = some id → values.length = count.toNat * entrySize id →
    let respond := fun r data => responseFrame src tag .tableWrite r data
    let write := exec (.tableWrite src tag table first count values) s
    let open_ := s.control.mode ≠ .service ∧ s.control.validation = none
    let fits := 1 ≤ count.toNat ∧ first.toNat + count.toNat ≤ tableEntries id
    let number := fun bytes : List Byte => bytes.foldl (fun (n : Nat) (b : Byte) => 256 * n + b.toNat) 0
    let layout : List (Nat × Nat) := match id with
      | .nodes => [(0, 1), (1, 1), (2, 1), (3, 1), (4, 2)]
      | .classSets => [(0, 1)]
      | .auto | .dbCurve | .adhPlain | .adhSanded => [(0, 2), (2, 2)]
      | .handle | .axle | .blend | .db | .slide => [(0, 2)]
      | .heat | .source | .recorder | .reporting => [(0, 4)]
      | .patterns => [(0, 1), (1, 1), (2, 1), (3, 4), (7, 2)]
      | .discrete => [(0, 1), (1, 1), (2, 1)]
    let size := (layout.map Prod.snd).sum
    let curve := id = .auto ∨ id = .dbCurve ∨ id = .adhPlain ∨ id = .adhSanded
    let entries := (List.range count.toNat).map (fun j =>
      let raw := (values.drop (j * size)).take size
      let fields := layout.map (fun x => number ((raw.drop x.1).take x.2))
      if curve ∧ first.toNat + j = 0 then [fields.getD 0 0, 0] else fields)
    let sound := ∀ j, j < count.toNat → entryInRange id (first.toNat + j) (entries.getD j []) = true
    let old := getTable s.tables id
    let tables := setTable s.tables id
      ⟨old.entries.take first.toNat ++ entries ++ old.entries.drop (first.toNat + count.toNat), true⟩
    let done := respond .ok ([table] ++ be 2 first.toNat ++ [count])
    let written := fun i : Nat => first.toNat ≤ i ∧ i < first.toNat + count.toNat
    let reached := fun (x : Timer) (limit : Nat) => ∃ e, x = .running e ∧ limit ≤ e
    let passed := fun (x : Timer) (limit : Nat) => ∃ e, x = .running e ∧ limit < e
    (s.control.mode = .service → write = .next (answered s (respond .refusedMode [])))
    ∧ (s.control.mode ≠ .service → s.control.validation ≠ none → write = .next (answered s (respond .busy [])))
    ∧ (open_ → ¬ fits ∨ ¬ sound → write = .next (answered s (respond .badArg [])))
    ∧ (open_ → fits → sound → ∃ t, write = .next t
      ∧ t.tables = tables ∧ flagSet t .configChanged = true ∧ t.control = s.control
      ∧ t.recorder.ring = s.recorder.ring ∧ t.blend = s.blend ∧ t.link.ePort = s.link.ePort
      ∧ t.link.own = s.link.own ∧ t.recorder = s.recorder
      ∧ (id = .classSets ∨ id = .handle ∨ id = .auto ∨ id = .dbCurve ∨ id = .adhPlain ∨ id = .adhSanded
          ∨ id = .blend ∨ id = .db ∨ id = .recorder ∨ id = .patterns →
        RaisedFrom [.configChanged] [] (answered { s with tables := tables } done) t)
      ∧ (id = .axle → RaisedFrom [.configChanged] [] (answered
        { s with
          tables := tables
          slide := { s.slide with axles := Six.ofFn (fun i => { s.slide.axles.get i with
            circumference := some ((tableField tables.axle i.val 0 * 355 + 56) / 113) }) } } done) t)
      ∧ (id = .heat →
        let parameter := fun n => tableField tables.heat n 0
        let g := if parameter 1 ≤ s.brake.heat then 0
          else if s.brake.heat ≤ parameter 0 then 1000
          else 1000 * (parameter 1 - s.brake.heat) / (parameter 1 - parameter 0)
        RaisedFrom (if s.brake.g = 1000 ∧ g < 1000 then [.thermalDerate, .configChanged] else [.configChanged]) []
          (answered { s with tables := tables, brake := { s.brake with g := g } } done) t)
      ∧ (id = .nodes →
        let same := fun i : Nat => nodeUsed s.tables i = nodeUsed tables i
          ∧ nodeAddress s.tables i = nodeAddress tables i ∧ nodePort s.tables i = nodePort tables i
          ∧ nodeRole s.tables i = nodeRole tables i
        let limit := nodeTimeout tables
        let node := getNode s
        let retimed := fun i : Nat =>
          written i ∧ same i ∧ nodeTimeout s.tables i ≠ limit i ∧ (node i).liveness = .live
        let expires := fun i : Nat =>
          retimed i ∧ nodeUsed tables i = true ∧ limit i ≠ 0 ∧ reached (node i).timer (limit i)
        let place := fun (ts : Tables) (k : Source) =>
          (binding ts (sourceRole k)).map (fun i => (i, nodeAddress ts i, nodePort ts i))
        let rebound := fun k : Source => place s.tables k ≠ place tables k
        let none_ := ∀ i : Fin 32, ¬ expires i.val
        RaisedFrom [.configChanged]
          [.nodeLost, .sourceLoss, .speedLost, .dbTrip, .valveLost] (answered
          { s with
            tables := tables
            link := { s.link with nodes := t.link.nodes }
            authority := t.authority
            slide := t.slide
            brake := t.brake
            air := t.air } done) t
        ∧ (∀ i : Fin 32,
          (written i.val → ¬ same i.val → getNode t i.val = NodeRuntime.fresh)
          ∧ (¬ written i.val ∨ same i.val → ¬ retimed i.val → getNode t i.val = node i.val)
          ∧ (retimed i.val → limit i.val = 0 → getNode t i.val = { node i.val with timer := .stopped })
          ∧ (retimed i.val → limit i.val ≠ 0 → ¬ expires i.val →
            getNode t i.val = { node i.val with timer := (node i.val).timer.startIfStopped })
          ∧ (expires i.val → getNode t i.val = { node i.val with liveness := .lost, timer := .stopped }
            ∧ flagSet t .nodeLost = true
            ∧ ∀ r, nodeRole tables i.val = some r → binding tables r = some i.val →
              (r = .axleConc → t.slide.speedState ≠ .valid) ∧ (r = .radar → t.slide.radar = none)
              ∧ (r = .valveT1 → t.air.truck1.condition = .link) ∧ (r = .valveT2 → t.air.truck2.condition = .link)
              ∧ ∀ k, r = sourceRole k → t.authority.monitors.get k = ⟨.silent, 0⟩))
        ∧ (∀ k, rebound k → t.authority.monitors.get k = ⟨.silent, 0⟩)
        ∧ (none_ → (∀ k, ¬ rebound k → t.authority.monitors.get k = s.authority.monitors.get k)
          ∧ (∀ k, rebound k → (∀ j, j ≠ k → ¬ rebound j) → SourceSilenced k { s with tables := tables } t)
          ∧ (∀ k, rebound k → (s.authority.monitors.get k).state = .valid → s.authority.active = .source k →
            t.authority.active = .fallback ∧ t.authority.phase = .hold ∧ t.authority.lost = some k
            ∧ t.authority.holdTimer = .running 0 ∧ flagSet t .sourceLoss = true)
          ∧ ((∀ k, ¬ rebound k) → RaisedFrom [.configChanged] [] (answered
            { s with tables := tables, link := { s.link with nodes := t.link.nodes } } done) t)))
      ∧ (id = .source →
        let ends := reached s.authority.holdTimer (tableField tables.source 2 0)
        RaisedFrom [.configChanged] [] (answered
          (withSand { s with
            tables := tables
            authority := { s.authority with
              phase := t.authority.phase
              holdTimer := t.authority.holdTimer
              resetTimer := t.authority.resetTimer } } t) done) t
        ∧ (ends → t.authority.phase = .penalty ∧ t.authority.holdTimer = .stopped
          ∧ t.slide = (evalSand { s with tables := tables, authority := t.authority }).slide)
        ∧ (¬ ends → t.authority.phase = s.authority.phase ∧ t.authority.holdTimer = s.authority.holdTimer
          ∧ t.slide = s.slide)
        ∧ ∀ before : Timer, ResetTimerFollows s.authority.resetTimer
            { t with authority := { t.authority with resetTimer := before } } →
          (reached before (tableField tables.source 3 0) → t.authority.resetTimer = .expired)
          ∧ (¬ reached before (tableField tables.source 3 0) → t.authority.resetTimer = before))
      ∧ (id = .slide →
        let axle := fun i : Fin 6 => s.slide.axles.get i
        let long := fun i : Fin 6 =>
          s.slide.speedState ≠ .lost ∧ passed (axle i).episode (tableField tables.slide 12 0)
        let stale := s.slide.speedState = .valid ∧ passed s.slide.staleTimer (tableField tables.slide 0 0)
        let hold := tableField tables.slide 19 0
        let called := tableField tables.slide 18 0 ≤ (six.filter (fun i =>
            decide ((axle i).state = .relief ∨ (axle i).state = .hold))).length
          ∨ (∃ i, (axle i).prolonged = true) ∨ (∃ i, long i) ∨ (activeDemand s).sand = true
        let sand := fun (on : Bool) (timer : Timer) => t.slide.sandRequest = on ∧ t.slide.sandTimer = timer
        RaisedFrom [.configChanged] [.slideProlonged, .speedLost] (answered
          { s with
            tables := tables
            slide := { s.slide with
              axles := t.slide.axles
              speedState := t.slide.speedState
              staleTimer := t.slide.staleTimer
              sandRequest := t.slide.sandRequest
              sandTimer := t.slide.sandTimer }
            air := { s.air with standstill := t.air.standstill } } done) t
        ∧ (∀ i, (long i → t.slide.axles.get i = { axle i with episode := .stopped, prolonged := true }
            ∧ flagSet t .slideProlonged = true)
          ∧ (¬ long i → t.slide.axles.get i = axle i))
        ∧ (stale → t.slide.speedState = .lost ∧ t.slide.staleTimer = .stopped ∧ t.air.standstill = .stopped
          ∧ flagSet t .speedLost = true)
        ∧ (¬ stale → t.slide.speedState = s.slide.speedState ∧ t.slide.staleTimer = s.slide.staleTimer
          ∧ t.air = s.air ∧ flagSet t .speedLost = flagSet s .speedLost)
        ∧ (called → sand true .stopped)
        ∧ (¬ called → reached s.slide.sandTimer hold → sand false .stopped)
        ∧ (¬ called → ¬ reached s.slide.sandTimer hold → s.slide.sandRequest = false →
          sand false s.slide.sandTimer)
        ∧ (¬ called → ¬ reached s.slide.sandTimer hold → s.slide.sandRequest = true →
          if hold = 0 then sand false .stopped else sand true s.slide.sandTimer.startIfStopped))
      ∧ (id = .discrete →
        let setting := fun (ts : Tables) (n : Fin 6) (k : Nat) => tableField ts.discrete n.val k
        let line := fun n : Fin 6 => s.lines.inputs.get n
        let inverted := fun n : Fin 6 => written n.val
          ∧ ¬ (setting s.tables n 0 = 1 ↔ setting tables n 0 = 1)
        let level := fun n : Fin 6 => if inverted n then
            (if setting tables n 0 = 1 then !(line n).pin else (line n).pin)
          else (line n).present
        let accepts := fun n : Fin 6 =>
          inverted n ∧ level n ≠ (line n).accepted ∧ setting tables n 1 = 0
          ∨ written n.val ∧ ¬ inverted n ∧ setting s.tables n 1 ≠ setting tables n 1
            ∧ reached (line n).debounce (setting tables n 1)
        let matches_ := fun n : Fin 6 => setting tables n 2 = 1 ∧ level n = true
          ∨ setting tables n 2 = 2 ∧ level n = false ∨ setting tables n 2 = 3
        RaisedFrom [.configChanged] [.discreteEdge, .penalty, .emergency] (answered
          { s with
            tables := tables
            lines := { s.lines with inputs := t.lines.inputs }
            authority := t.authority
            brake := t.brake } done) t
        ∧ (∀ n,
          (¬ accepts n → ¬ inverted n → t.lines.inputs.get n = line n)
          ∧ (¬ accepts n → inverted n → t.lines.inputs.get n = { line n with
            present := level n
            debounce := if level n = (line n).accepted then .stopped else .running 0 })
          ∧ (accepts n → matches_ n → t.lines.inputs.get n = ⟨(line n).pin, level n, level n, .stopped, true⟩
            ∧ flagSet t .discreteEdge = true)
          ∧ (accepts n → ¬ matches_ n →
            t.lines.inputs.get n = ⟨(line n).pin, level n, level n, .stopped, (line n).edge⟩))
        ∧ (accepts 0 → t.authority = { s.authority with
            latch := s.authority.latch || level 0, resetTimer := t.authority.resetTimer }
          ∧ ResetTimerFollows s.authority.resetTimer t
          ∧ (level 0 = true → s.authority.latch = false → flagSet t .emergency = true))
        ∧ (¬ accepts 0 → t.authority = s.authority)
        ∧ (accepts 1 → level 1 = true → flagSet t .penalty = true)
        ∧ (accepts 2 → t.brake = (if level 2 then
              if s.brake.state = .cutout then s.brake else broughtOut s.brake .cutout none
            else if s.brake.state = .cutout then { s.brake with state := .off } else s.brake))
        ∧ (¬ accepts 2 → t.brake = s.brake)
        ∧ FlagsRaised [.configChanged] [.discreteEdge, .penalty, .emergency] s t
        ∧ ((∀ n, ¬ accepts n) → RaisedFrom [.configChanged] [] (answered
          { s with tables := tables, lines := { s.lines with inputs := t.lines.inputs } } done) t))
      ∧ (id = .reporting →
        let node := tableField tables.reporting 0 0
        let asked := s.lines.noticePending
          || !flagSet s .configChanged && (tableField tables.reporting 1 0).testBit 18
        let u : State := { s with
          tables := tables
          lines := { s.lines with flags := s.lines.flags ||| 262144, noticePending := asked } }
        let after := answered u done
        let notice := formNotice u
        let waiting := after.link.cPort.originated
        let room := waiting.length < 8 ∨ ∃ g ∈ waiting, g.cls = 0x44 ∧ g.dst = notice.dst
        let given := handOver after .c notice
        (asked = false ∨ node = 0 → t = after)
        ∧ (asked = true → node ≠ 0 →
          t = { given with lines := { given.lines with noticePending := !decide room } })))

/-- R168, R179 with R23, R48, R64, R88, R99, R126, R146, R157: RESTART is refused in SERVICE and while a validation is in
flight; otherwise its response enters and every block takes its restart state: the lock, H, g and the heat timer,
the slots and counters of the Recorder, the tables, the mode and the counters of time are kept, and the
circumferences recomputed.  R157, R147 to R149: a line that reads ACTIVE starts its debounce, or, with debounce 0,
is accepted in the same event, with its edge flag and DISCRETE_EDGE, and EMERG sets the latch with its flag,
PENALTY its flag, DB_CUTOUT enters CUTOUT; the notices these flags form come after the response.  Where no line
reads ACTIVE, nothing else happens. -/
def Obligations.RestartTakesRestartState : Prop :=
  ∀ (src tag : Byte) (s : State), Ready s → MayIssue s src .restart [] →
    let respond := fun r => responseFrame src tag .restart r []
    let restart_ := exec (.restart src tag) s
    (s.control.mode = .service → restart_ = .next (answered s (respond .refusedMode)))
    ∧ (s.control.mode ≠ .service → s.control.validation ≠ none → restart_ = .next (answered s (respond .busy)))
    ∧ (s.control.mode ≠ .service → s.control.validation = none →
      ∃ t, restart_ = .next t
        ∧ t.tables = s.tables ∧ t.control = s.control ∧ t.authority.lock = s.authority.lock
        ∧ t.brake.heat = s.brake.heat ∧ t.brake.g = s.brake.g ∧ t.brake.heatElapsed = s.brake.heatElapsed
        ∧ t.recorder.nextSeq = s.recorder.nextSeq ∧ t.management = Management.reset ∧ t.link.own = s.link.own
        ∧ (let pin := fun n : Fin 6 => (s.lines.inputs.get n).pin
          let setting := fun (n : Fin 6) (k : Nat) => tableField s.tables.discrete n.val k
          let active := fun n : Fin 6 => if setting n 0 = 1 then !pin n else pin n
          let accepted := fun n : Fin 6 => active n && decide (setting n 1 = 0)
          let edge := fun n : Fin 6 => accepted n && decide (setting n 2 = 1 ∨ setting n 2 = 3)
          let frame := wholeFrame ⟨src, s.link.own, 0x41, 0, [tag, 0x11, 0]⟩
          let quiet := fun x : Transmitter => { PortState.reset with transmitter := x }
          let fresh : State := { s with
            authority := { Authority.reset with lock := s.authority.lock, latch := accepted 0 }
            slide := { Slide.reset with axles := Six.ofFn (fun i => { AxleRecord.reset with
              circumference := if s.tables.axle.loaded then
                  some ((tableField s.tables.axle i.val 0 * 355 + 56) / 113)
                else none }) }
            brake := { Brake.reset with
              state := if accepted 2 then .cutout else .off
              heat := s.brake.heat, g := s.brake.g, heatElapsed := s.brake.heatElapsed }
            blend := Blend.reset
            air := Air.reset
            recorder := { s.recorder with ring := [], divider := 0 }
            link :=
              { own := s.link.own
                nodes := List.replicate 32 NodeRuntime.fresh
                cPort := match s.link.cPort.transmitter with
                  | .idle => { quiet (.sending true frame 0) with sequence := 1 }
                  | x => { quiet x with originated := [respond .ok] }
                ePort := quiet s.link.ePort.transmitter }
            lines := { Lines.reset with inputs := Six.ofFn (fun n =>
              ⟨pin n, active n, accepted n, if active n && !accepted n then .running 0 else .stopped, edge n⟩) }
            management := Management.reset
            deferred := none }
          RaisedFrom ((if accepted 0 then [.emergency] else []) ++ (if accepted 1 then [.penalty] else [])
            ++ (if six.any edge then [.discreteEdge] else [])) [] fresh t
          ∧ ((∀ n, active n = false) → t = fresh)))

/-! ## What every step keeps -/

/-- R6, R12, R13, R26, R32, R45: from every state, a step keeps what the manual says of the active source, the
fallback phase, the lost source, the lock and the HOLD timer; the axles' slide factors in agreement with their
states; and the speeds in their range. -/
def Obligations.StepKeepsAuthorityAndAxles : Prop :=
  ∀ s t : State, step s = .next t →
    (AuthorityOk s.authority → AuthorityOk t.authority)
    ∧ (FactorsOk s.slide → FactorsOk t.slide) ∧ (SpeedsOk s.slide → SpeedsOk t.slide)

/-- R101, R104, R106, R111: from every state, a step keeps at most one slot FILLING and that in SERVICE alone, the ring
and the trigger lists within their capacities, and the numbers of the slots distinct and rising. -/
def Obligations.StepKeepsIncidents : Prop :=
  ∀ s t : State, step s = .next t →
    (SlotsOk s → SlotsOk t) ∧ (IncidentsOk s.recorder → IncidentsOk t.recorder)
    ∧ (NumbersOk s.recorder → fillingCount s.recorder ≤ 1 → NumbersOk t.recorder)

/-- R136, R137, R140: from every state, a step keeps the queues within their capacities, and empty at an IDLE
transmitter; and in SERVICE no setpoint that arrived on the C-port waits for the E-port or is being sent there. -/
def Obligations.StepKeepsQueues : Prop :=
  ∀ s t : State, step s = .next t →
    (QueuesOk s.link → QueuesOk t.link) ∧ (IdleOk s.link → IdleOk t.link)
    ∧ (NoForeignSetpoints s → NoForeignSetpoints t)

/-- R58, R65, R159, R178: from every state, a step keeps SERVICE over validated tables, the channel's excitation and the
blend timer in SERVICE alone, and the request buffers in agreement with the validation and the held response. -/
def Obligations.StepKeepsModes : Prop :=
  ∀ s t : State, step s = .next t → BuffersOk s →
    BuffersOk t ∧ (TablesOk s → TablesOk t) ∧ (ServiceOnlyOk s → ServiceOnlyOk t)

/-- R49, R61, R62, R82, R89, R90, R94, R151: from every state, a step keeps the outputs driven from their conditions, the
standstill timer, the truck records, the heat and its factor within what the manual says of them. -/
def Obligations.StepKeepsOutputsAndRecords : Prop :=
  ∀ s t : State, step s = .next t →
    (OutputsOk s → OutputsOk t) ∧ (StandstillOk s → StandstillOk t)
    ∧ (TruckOk s.air.truck1 → TruckOk t.air.truck1) ∧ (TruckOk s.air.truck2 → TruckOk t.air.truck2)
    ∧ (BrakeOk s.brake → BrakeOk t.brake)
    ∧ (HeatFactorOk s → HeatFactorOk t)

/-- The state after power-on reset meets every one of these invariants. -/
def Obligations.ResetMeetsInvariants : Prop :=
  let s := State.reset
  AuthorityOk s.authority ∧ FactorsOk s.slide ∧ SpeedsOk s.slide ∧ SlotsOk s ∧ IncidentsOk s.recorder
  ∧ NumbersOk s.recorder ∧ QueuesOk s.link ∧ IdleOk s.link ∧ NoForeignSetpoints s ∧ TablesOk s ∧ ServiceOnlyOk s ∧ BuffersOk s
  ∧ OutputsOk s ∧ StandstillOk s ∧ TruckOk s.air.truck1 ∧ TruckOk s.air.truck2 ∧ BrakeOk s.brake ∧ HeatFactorOk s
end

