-- ==== Sys2Proof/Laws/State.lean ====
section
/-! SUPPORT. What each update of the state leaves as it is and what it writes: one small lemma per field per
update, so that no later proof unfolds a record update. -/

namespace Sys2Proof.Machine

variable (s : State)

/-! ## Outputs (R151) -/

@[simp] theorem syncOutputs_hold  : (syncOutputs s).hold = s.hold := rfl
@[simp] theorem syncOutputs_inReset  : (syncOutputs s).inReset = s.inReset := rfl
@[simp] theorem syncOutputs_authority  : (syncOutputs s).authority = s.authority := rfl
@[simp] theorem syncOutputs_slide  : (syncOutputs s).slide = s.slide := rfl
@[simp] theorem syncOutputs_brake  : (syncOutputs s).brake = s.brake := rfl
@[simp] theorem syncOutputs_blend  : (syncOutputs s).blend = s.blend := rfl
@[simp] theorem syncOutputs_air  : (syncOutputs s).air = s.air := rfl
@[simp] theorem syncOutputs_recorder  : (syncOutputs s).recorder = s.recorder := rfl
@[simp] theorem syncOutputs_link  : (syncOutputs s).link = s.link := rfl
@[simp] theorem syncOutputs_management  : (syncOutputs s).management = s.management := rfl
@[simp] theorem syncOutputs_tables  : (syncOutputs s).tables = s.tables := rfl
@[simp] theorem syncOutputs_control  : (syncOutputs s).control = s.control := rfl
@[simp] theorem syncOutputs_pending  : (syncOutputs s).pending = s.pending := rfl
@[simp] theorem syncOutputs_deferred  : (syncOutputs s).deferred = s.deferred := rfl
@[simp] theorem syncOutputs_choice  : (syncOutputs s).choice = s.choice := rfl

@[simp] theorem syncOutputs_inputs : (syncOutputs s).lines.inputs = s.lines.inputs := rfl
@[simp] theorem syncOutputs_flags : (syncOutputs s).lines.flags = s.lines.flags := rfl
@[simp] theorem syncOutputs_noticePending : (syncOutputs s).lines.noticePending = s.lines.noticePending := rfl
@[simp] theorem syncOutputs_outputs : (syncOutputs s).lines.outputs = drivenOutputs s := rfl
@[simp] theorem drivenOutputs_syncOutputs : drivenOutputs (syncOutputs s) = drivenOutputs s := rfl
@[simp] theorem syncOutputs_idem : syncOutputs (syncOutputs s) = syncOutputs s := rfl

/-! ## Ports -/

@[simp] theorem setPort_hold (p : Port) (ps : PortState) : (setPort s p ps).hold = s.hold := by cases p <;> rfl
@[simp] theorem setPort_inReset (p : Port) (ps : PortState) : (setPort s p ps).inReset = s.inReset := by cases p <;> rfl
@[simp] theorem setPort_authority (p : Port) (ps : PortState) : (setPort s p ps).authority = s.authority := by cases p <;> rfl
@[simp] theorem setPort_slide (p : Port) (ps : PortState) : (setPort s p ps).slide = s.slide := by cases p <;> rfl
@[simp] theorem setPort_brake (p : Port) (ps : PortState) : (setPort s p ps).brake = s.brake := by cases p <;> rfl
@[simp] theorem setPort_blend (p : Port) (ps : PortState) : (setPort s p ps).blend = s.blend := by cases p <;> rfl
@[simp] theorem setPort_air (p : Port) (ps : PortState) : (setPort s p ps).air = s.air := by cases p <;> rfl
@[simp] theorem setPort_recorder (p : Port) (ps : PortState) : (setPort s p ps).recorder = s.recorder := by cases p <;> rfl
@[simp] theorem setPort_lines (p : Port) (ps : PortState) : (setPort s p ps).lines = s.lines := by cases p <;> rfl
@[simp] theorem setPort_management (p : Port) (ps : PortState) : (setPort s p ps).management = s.management := by cases p <;> rfl
@[simp] theorem setPort_tables (p : Port) (ps : PortState) : (setPort s p ps).tables = s.tables := by cases p <;> rfl
@[simp] theorem setPort_control (p : Port) (ps : PortState) : (setPort s p ps).control = s.control := by cases p <;> rfl
@[simp] theorem setPort_pending (p : Port) (ps : PortState) : (setPort s p ps).pending = s.pending := by cases p <;> rfl
@[simp] theorem setPort_deferred (p : Port) (ps : PortState) : (setPort s p ps).deferred = s.deferred := by cases p <;> rfl
@[simp] theorem setPort_choice (p : Port) (ps : PortState) : (setPort s p ps).choice = s.choice := by cases p <;> rfl

@[simp] theorem setPort_own (p : Port) (ps : PortState) : (setPort s p ps).link.own = s.link.own := by cases p <;> rfl
@[simp] theorem setPort_nodes (p : Port) (ps : PortState) : (setPort s p ps).link.nodes = s.link.nodes := by cases p <;> rfl
@[simp] theorem getPort_setPort_same (p : Port) (ps : PortState) : getPort (setPort s p ps) p = ps := by cases p <;> rfl
@[simp] theorem setPort_c_ePort (ps : PortState) : (setPort s .c ps).link.ePort = s.link.ePort := rfl
@[simp] theorem setPort_c_cPort (ps : PortState) : (setPort s .c ps).link.cPort = ps := rfl
@[simp] theorem setPort_e_cPort (ps : PortState) : (setPort s .e ps).link.cPort = s.link.cPort := rfl
@[simp] theorem setPort_e_ePort (ps : PortState) : (setPort s .e ps).link.ePort = ps := rfl
@[simp] theorem setPort_setPort (p : Port) (a b : PortState) : setPort (setPort s p a) p b = setPort s p b := by cases p <;> rfl
@[simp] theorem setPort_getPort (p : Port) : setPort s p (getPort s p) = s := by cases p <;> rfl
@[simp] theorem getPort_setPort_other (p : Port) (ps : PortState) : getPort (setPort s p ps) (Port.other p) = getPort s (Port.other p) := by
  cases p <;> rfl

/-! ## Port counters -/

@[simp] theorem countAt_hold (p : Port) (f : PortCounters → PortCounters) : (countAt s p f).hold = s.hold := by cases p <;> rfl
@[simp] theorem countAt_inReset (p : Port) (f : PortCounters → PortCounters) : (countAt s p f).inReset = s.inReset := by cases p <;> rfl
@[simp] theorem countAt_authority (p : Port) (f : PortCounters → PortCounters) : (countAt s p f).authority = s.authority := by cases p <;> rfl
@[simp] theorem countAt_slide (p : Port) (f : PortCounters → PortCounters) : (countAt s p f).slide = s.slide := by cases p <;> rfl
@[simp] theorem countAt_brake (p : Port) (f : PortCounters → PortCounters) : (countAt s p f).brake = s.brake := by cases p <;> rfl
@[simp] theorem countAt_blend (p : Port) (f : PortCounters → PortCounters) : (countAt s p f).blend = s.blend := by cases p <;> rfl
@[simp] theorem countAt_air (p : Port) (f : PortCounters → PortCounters) : (countAt s p f).air = s.air := by cases p <;> rfl
@[simp] theorem countAt_recorder (p : Port) (f : PortCounters → PortCounters) : (countAt s p f).recorder = s.recorder := by cases p <;> rfl
@[simp] theorem countAt_lines (p : Port) (f : PortCounters → PortCounters) : (countAt s p f).lines = s.lines := by cases p <;> rfl
@[simp] theorem countAt_management (p : Port) (f : PortCounters → PortCounters) : (countAt s p f).management = s.management := by cases p <;> rfl
@[simp] theorem countAt_tables (p : Port) (f : PortCounters → PortCounters) : (countAt s p f).tables = s.tables := by cases p <;> rfl
@[simp] theorem countAt_control (p : Port) (f : PortCounters → PortCounters) : (countAt s p f).control = s.control := by cases p <;> rfl
@[simp] theorem countAt_pending (p : Port) (f : PortCounters → PortCounters) : (countAt s p f).pending = s.pending := by cases p <;> rfl
@[simp] theorem countAt_deferred (p : Port) (f : PortCounters → PortCounters) : (countAt s p f).deferred = s.deferred := by cases p <;> rfl
@[simp] theorem countAt_choice (p : Port) (f : PortCounters → PortCounters) : (countAt s p f).choice = s.choice := by cases p <;> rfl

@[simp] theorem countAt_own (p : Port) (f : PortCounters → PortCounters) : (countAt s p f).link.own = s.link.own := by cases p <;> rfl
@[simp] theorem countAt_nodes (p : Port) (f : PortCounters → PortCounters) : (countAt s p f).link.nodes = s.link.nodes := by
  cases p <;> rfl
@[simp] theorem getPort_countAt_same (p : Port) (f : PortCounters → PortCounters) :
    getPort (countAt s p f) p = { getPort s p with counters := f (getPort s p).counters } := by cases p <;> rfl
@[simp] theorem getPort_countAt_other (p : Port) (f : PortCounters → PortCounters) :
    getPort (countAt s p f) (Port.other p) = getPort s (Port.other p) := by cases p <;> rfl

/-! ## Node table entries -/

@[simp] theorem setNode_hold (i : Nat) (r : NodeRuntime) : (setNode s i r).hold = s.hold := rfl
@[simp] theorem setNode_inReset (i : Nat) (r : NodeRuntime) : (setNode s i r).inReset = s.inReset := rfl
@[simp] theorem setNode_authority (i : Nat) (r : NodeRuntime) : (setNode s i r).authority = s.authority := rfl
@[simp] theorem setNode_slide (i : Nat) (r : NodeRuntime) : (setNode s i r).slide = s.slide := rfl
@[simp] theorem setNode_brake (i : Nat) (r : NodeRuntime) : (setNode s i r).brake = s.brake := rfl
@[simp] theorem setNode_blend (i : Nat) (r : NodeRuntime) : (setNode s i r).blend = s.blend := rfl
@[simp] theorem setNode_air (i : Nat) (r : NodeRuntime) : (setNode s i r).air = s.air := rfl
@[simp] theorem setNode_recorder (i : Nat) (r : NodeRuntime) : (setNode s i r).recorder = s.recorder := rfl
@[simp] theorem setNode_lines (i : Nat) (r : NodeRuntime) : (setNode s i r).lines = s.lines := rfl
@[simp] theorem setNode_management (i : Nat) (r : NodeRuntime) : (setNode s i r).management = s.management := rfl
@[simp] theorem setNode_tables (i : Nat) (r : NodeRuntime) : (setNode s i r).tables = s.tables := rfl
@[simp] theorem setNode_control (i : Nat) (r : NodeRuntime) : (setNode s i r).control = s.control := rfl
@[simp] theorem setNode_pending (i : Nat) (r : NodeRuntime) : (setNode s i r).pending = s.pending := rfl
@[simp] theorem setNode_deferred (i : Nat) (r : NodeRuntime) : (setNode s i r).deferred = s.deferred := rfl
@[simp] theorem setNode_choice (i : Nat) (r : NodeRuntime) : (setNode s i r).choice = s.choice := rfl

@[simp] theorem setNode_own (i : Nat) (r : NodeRuntime) : (setNode s i r).link.own = s.link.own := rfl
@[simp] theorem setNode_cPort (i : Nat) (r : NodeRuntime) : (setNode s i r).link.cPort = s.link.cPort := rfl
@[simp] theorem setNode_ePort (i : Nat) (r : NodeRuntime) : (setNode s i r).link.ePort = s.link.ePort := rfl
@[simp] theorem setNode_nodes (i : Nat) (r : NodeRuntime) : (setNode s i r).link.nodes = s.link.nodes.set i r := rfl
theorem getNode_setNode_same (i : Nat) (r : NodeRuntime) (h : i < s.link.nodes.length) :
    getNode (setNode s i r) i = r := by
  simp [getNode, List.getD_eq_getElem?_getD, h]
theorem getNode_setNode_other (i j : Nat) (r : NodeRuntime) (h : i ≠ j) :
    getNode (setNode s i r) j = getNode s j := by
  simp [getNode, List.getD_eq_getElem?_getD, h]

/-! ## Axle records -/

@[simp] theorem setAxle_hold (i : Fin 6) (a : AxleRecord) : (setAxle s i a).hold = s.hold := rfl
@[simp] theorem setAxle_inReset (i : Fin 6) (a : AxleRecord) : (setAxle s i a).inReset = s.inReset := rfl
@[simp] theorem setAxle_authority (i : Fin 6) (a : AxleRecord) : (setAxle s i a).authority = s.authority := rfl
@[simp] theorem setAxle_brake (i : Fin 6) (a : AxleRecord) : (setAxle s i a).brake = s.brake := rfl
@[simp] theorem setAxle_blend (i : Fin 6) (a : AxleRecord) : (setAxle s i a).blend = s.blend := rfl
@[simp] theorem setAxle_air (i : Fin 6) (a : AxleRecord) : (setAxle s i a).air = s.air := rfl
@[simp] theorem setAxle_recorder (i : Fin 6) (a : AxleRecord) : (setAxle s i a).recorder = s.recorder := rfl
@[simp] theorem setAxle_link (i : Fin 6) (a : AxleRecord) : (setAxle s i a).link = s.link := rfl
@[simp] theorem setAxle_lines (i : Fin 6) (a : AxleRecord) : (setAxle s i a).lines = s.lines := rfl
@[simp] theorem setAxle_management (i : Fin 6) (a : AxleRecord) : (setAxle s i a).management = s.management := rfl
@[simp] theorem setAxle_tables (i : Fin 6) (a : AxleRecord) : (setAxle s i a).tables = s.tables := rfl
@[simp] theorem setAxle_control (i : Fin 6) (a : AxleRecord) : (setAxle s i a).control = s.control := rfl
@[simp] theorem setAxle_pending (i : Fin 6) (a : AxleRecord) : (setAxle s i a).pending = s.pending := rfl
@[simp] theorem setAxle_deferred (i : Fin 6) (a : AxleRecord) : (setAxle s i a).deferred = s.deferred := rfl
@[simp] theorem setAxle_choice (i : Fin 6) (a : AxleRecord) : (setAxle s i a).choice = s.choice := rfl

@[simp] theorem setAxle_axles (i : Fin 6) (a : AxleRecord) : (setAxle s i a).slide.axles = s.slide.axles.set i a := rfl
@[simp] theorem setAxle_vRef (i : Fin 6) (a : AxleRecord) : (setAxle s i a).slide.vRef = s.slide.vRef := rfl
@[simp] theorem setAxle_refSource (i : Fin 6) (a : AxleRecord) : (setAxle s i a).slide.refSource = s.slide.refSource := rfl
@[simp] theorem setAxle_speedState (i : Fin 6) (a : AxleRecord) : (setAxle s i a).slide.speedState = s.slide.speedState := rfl
@[simp] theorem setAxle_prevArrival (i : Fin 6) (a : AxleRecord) : (setAxle s i a).slide.prevArrival = s.slide.prevArrival := rfl
@[simp] theorem setAxle_staleTimer (i : Fin 6) (a : AxleRecord) : (setAxle s i a).slide.staleTimer = s.slide.staleTimer := rfl
@[simp] theorem setAxle_radar (i : Fin 6) (a : AxleRecord) : (setAxle s i a).slide.radar = s.slide.radar := rfl
@[simp] theorem setAxle_sandRequest (i : Fin 6) (a : AxleRecord) : (setAxle s i a).slide.sandRequest = s.slide.sandRequest := rfl
@[simp] theorem setAxle_sandTimer (i : Fin 6) (a : AxleRecord) : (setAxle s i a).slide.sandTimer = s.slide.sandTimer := rfl
@[simp] theorem setAxle_t1 (i : Fin 6) (a : AxleRecord) : (setAxle s i a).slide.t1 = s.slide.t1 := rfl
@[simp] theorem setAxle_t2 (i : Fin 6) (a : AxleRecord) : (setAxle s i a).slide.t2 = s.slide.t2 := rfl

/-! ## Truck records -/

@[simp] theorem setTruck_hold (t : Truck) (r : TruckRecord) : (setTruck s t r).hold = s.hold := by cases t <;> rfl
@[simp] theorem setTruck_inReset (t : Truck) (r : TruckRecord) : (setTruck s t r).inReset = s.inReset := by cases t <;> rfl
@[simp] theorem setTruck_authority (t : Truck) (r : TruckRecord) : (setTruck s t r).authority = s.authority := by cases t <;> rfl
@[simp] theorem setTruck_slide (t : Truck) (r : TruckRecord) : (setTruck s t r).slide = s.slide := by cases t <;> rfl
@[simp] theorem setTruck_brake (t : Truck) (r : TruckRecord) : (setTruck s t r).brake = s.brake := by cases t <;> rfl
@[simp] theorem setTruck_blend (t : Truck) (r : TruckRecord) : (setTruck s t r).blend = s.blend := by cases t <;> rfl
@[simp] theorem setTruck_recorder (t : Truck) (r : TruckRecord) : (setTruck s t r).recorder = s.recorder := by cases t <;> rfl
@[simp] theorem setTruck_link (t : Truck) (r : TruckRecord) : (setTruck s t r).link = s.link := by cases t <;> rfl
@[simp] theorem setTruck_lines (t : Truck) (r : TruckRecord) : (setTruck s t r).lines = s.lines := by cases t <;> rfl
@[simp] theorem setTruck_management (t : Truck) (r : TruckRecord) : (setTruck s t r).management = s.management := by cases t <;> rfl
@[simp] theorem setTruck_tables (t : Truck) (r : TruckRecord) : (setTruck s t r).tables = s.tables := by cases t <;> rfl
@[simp] theorem setTruck_control (t : Truck) (r : TruckRecord) : (setTruck s t r).control = s.control := by cases t <;> rfl
@[simp] theorem setTruck_pending (t : Truck) (r : TruckRecord) : (setTruck s t r).pending = s.pending := by cases t <;> rfl
@[simp] theorem setTruck_deferred (t : Truck) (r : TruckRecord) : (setTruck s t r).deferred = s.deferred := by cases t <;> rfl
@[simp] theorem setTruck_choice (t : Truck) (r : TruckRecord) : (setTruck s t r).choice = s.choice := by cases t <;> rfl

@[simp] theorem setTruck_standstill (t : Truck) (r : TruckRecord) : (setTruck s t r).air.standstill = s.air.standstill := by
  cases t <;> rfl
@[simp] theorem getTruck_setTruck_same (t : Truck) (r : TruckRecord) : getTruck (setTruck s t r) t = r := by cases t <;> rfl
@[simp] theorem setTruck_setTruck (t : Truck) (a b : TruckRecord) : setTruck (setTruck s t a) t b = setTruck s t b := by
  cases t <;> rfl

/-! ## Input records -/

@[simp] theorem setInput_hold (n : Fin 6) (r : InputRecord) : (setInput s n r).hold = s.hold := rfl
@[simp] theorem setInput_inReset (n : Fin 6) (r : InputRecord) : (setInput s n r).inReset = s.inReset := rfl
@[simp] theorem setInput_authority (n : Fin 6) (r : InputRecord) : (setInput s n r).authority = s.authority := rfl
@[simp] theorem setInput_slide (n : Fin 6) (r : InputRecord) : (setInput s n r).slide = s.slide := rfl
@[simp] theorem setInput_brake (n : Fin 6) (r : InputRecord) : (setInput s n r).brake = s.brake := rfl
@[simp] theorem setInput_blend (n : Fin 6) (r : InputRecord) : (setInput s n r).blend = s.blend := rfl
@[simp] theorem setInput_air (n : Fin 6) (r : InputRecord) : (setInput s n r).air = s.air := rfl
@[simp] theorem setInput_recorder (n : Fin 6) (r : InputRecord) : (setInput s n r).recorder = s.recorder := rfl
@[simp] theorem setInput_link (n : Fin 6) (r : InputRecord) : (setInput s n r).link = s.link := rfl
@[simp] theorem setInput_management (n : Fin 6) (r : InputRecord) : (setInput s n r).management = s.management := rfl
@[simp] theorem setInput_tables (n : Fin 6) (r : InputRecord) : (setInput s n r).tables = s.tables := rfl
@[simp] theorem setInput_control (n : Fin 6) (r : InputRecord) : (setInput s n r).control = s.control := rfl
@[simp] theorem setInput_pending (n : Fin 6) (r : InputRecord) : (setInput s n r).pending = s.pending := rfl
@[simp] theorem setInput_deferred (n : Fin 6) (r : InputRecord) : (setInput s n r).deferred = s.deferred := rfl
@[simp] theorem setInput_choice (n : Fin 6) (r : InputRecord) : (setInput s n r).choice = s.choice := rfl

@[simp] theorem setInput_inputs (n : Fin 6) (r : InputRecord) : (setInput s n r).lines.inputs = s.lines.inputs.set n r := rfl
@[simp] theorem setInput_outputs (n : Fin 6) (r : InputRecord) : (setInput s n r).lines.outputs = s.lines.outputs := rfl
@[simp] theorem setInput_flags (n : Fin 6) (r : InputRecord) : (setInput s n r).lines.flags = s.lines.flags := rfl
@[simp] theorem setInput_noticePending (n : Fin 6) (r : InputRecord) : (setInput s n r).lines.noticePending = s.lines.noticePending := rfl

/-! ## Request buffers -/

@[simp] theorem setBuffer_hold (isB : Bool) (b : Buffer) : (setBuffer s isB b).hold = s.hold := by cases isB <;> rfl
@[simp] theorem setBuffer_inReset (isB : Bool) (b : Buffer) : (setBuffer s isB b).inReset = s.inReset := by cases isB <;> rfl
@[simp] theorem setBuffer_authority (isB : Bool) (b : Buffer) : (setBuffer s isB b).authority = s.authority := by cases isB <;> rfl
@[simp] theorem setBuffer_slide (isB : Bool) (b : Buffer) : (setBuffer s isB b).slide = s.slide := by cases isB <;> rfl
@[simp] theorem setBuffer_brake (isB : Bool) (b : Buffer) : (setBuffer s isB b).brake = s.brake := by cases isB <;> rfl
@[simp] theorem setBuffer_blend (isB : Bool) (b : Buffer) : (setBuffer s isB b).blend = s.blend := by cases isB <;> rfl
@[simp] theorem setBuffer_air (isB : Bool) (b : Buffer) : (setBuffer s isB b).air = s.air := by cases isB <;> rfl
@[simp] theorem setBuffer_recorder (isB : Bool) (b : Buffer) : (setBuffer s isB b).recorder = s.recorder := by cases isB <;> rfl
@[simp] theorem setBuffer_link (isB : Bool) (b : Buffer) : (setBuffer s isB b).link = s.link := by cases isB <;> rfl
@[simp] theorem setBuffer_lines (isB : Bool) (b : Buffer) : (setBuffer s isB b).lines = s.lines := by cases isB <;> rfl
@[simp] theorem setBuffer_tables (isB : Bool) (b : Buffer) : (setBuffer s isB b).tables = s.tables := by cases isB <;> rfl
@[simp] theorem setBuffer_control (isB : Bool) (b : Buffer) : (setBuffer s isB b).control = s.control := by cases isB <;> rfl
@[simp] theorem setBuffer_pending (isB : Bool) (b : Buffer) : (setBuffer s isB b).pending = s.pending := by cases isB <;> rfl
@[simp] theorem setBuffer_deferred (isB : Bool) (b : Buffer) : (setBuffer s isB b).deferred = s.deferred := by cases isB <;> rfl
@[simp] theorem setBuffer_choice (isB : Bool) (b : Buffer) : (setBuffer s isB b).choice = s.choice := by cases isB <;> rfl

@[simp] theorem getBuffer_setBuffer_same (isB : Bool) (b : Buffer) : getBuffer (setBuffer s isB b) isB = b := by cases isB <;> rfl
@[simp] theorem getBuffer_setBuffer_other (isB : Bool) (b : Buffer) : getBuffer (setBuffer s isB b) (!isB) = getBuffer s (!isB) := by
  cases isB <;> rfl
@[simp] theorem setBuffer_bFirst (isB : Bool) (b : Buffer) : (setBuffer s isB b).management.bFirst = s.management.bFirst := by
  cases isB <;> rfl

/-! ## The device mode -/

@[simp] theorem setMode_hold (m : Mode) : (setMode m s).hold = s.hold := rfl
@[simp] theorem setMode_inReset (m : Mode) : (setMode m s).inReset = s.inReset := rfl
@[simp] theorem setMode_authority (m : Mode) : (setMode m s).authority = s.authority := rfl
@[simp] theorem setMode_slide (m : Mode) : (setMode m s).slide = s.slide := rfl
@[simp] theorem setMode_brake (m : Mode) : (setMode m s).brake = s.brake := rfl
@[simp] theorem setMode_blend (m : Mode) : (setMode m s).blend = s.blend := rfl
@[simp] theorem setMode_air (m : Mode) : (setMode m s).air = s.air := rfl
@[simp] theorem setMode_recorder (m : Mode) : (setMode m s).recorder = s.recorder := rfl
@[simp] theorem setMode_link (m : Mode) : (setMode m s).link = s.link := rfl
@[simp] theorem setMode_lines (m : Mode) : (setMode m s).lines = s.lines := rfl
@[simp] theorem setMode_management (m : Mode) : (setMode m s).management = s.management := rfl
@[simp] theorem setMode_tables (m : Mode) : (setMode m s).tables = s.tables := rfl
@[simp] theorem setMode_pending (m : Mode) : (setMode m s).pending = s.pending := rfl
@[simp] theorem setMode_deferred (m : Mode) : (setMode m s).deferred = s.deferred := rfl
@[simp] theorem setMode_choice (m : Mode) : (setMode m s).choice = s.choice := rfl

@[simp] theorem setMode_mode (m : Mode) : (setMode m s).control.mode = m := rfl
@[simp] theorem setMode_validation (m : Mode) : (setMode m s).control.validation = s.control.validation := rfl
@[simp] theorem setMode_localMs (m : Mode) : (setMode m s).control.localMs = s.control.localMs := rfl
@[simp] theorem setMode_timeBase (m : Mode) : (setMode m s).control.timeBase = s.control.timeBase := rfl

/-! ## The queue of waiting commands -/

@[simp] theorem withQueue_hold (q : List Instr) : (withQueue s q).hold = s.hold := rfl
@[simp] theorem withQueue_inReset (q : List Instr) : (withQueue s q).inReset = s.inReset := rfl
@[simp] theorem withQueue_authority (q : List Instr) : (withQueue s q).authority = s.authority := rfl
@[simp] theorem withQueue_slide (q : List Instr) : (withQueue s q).slide = s.slide := rfl
@[simp] theorem withQueue_brake (q : List Instr) : (withQueue s q).brake = s.brake := rfl
@[simp] theorem withQueue_blend (q : List Instr) : (withQueue s q).blend = s.blend := rfl
@[simp] theorem withQueue_air (q : List Instr) : (withQueue s q).air = s.air := rfl
@[simp] theorem withQueue_recorder (q : List Instr) : (withQueue s q).recorder = s.recorder := rfl
@[simp] theorem withQueue_link (q : List Instr) : (withQueue s q).link = s.link := rfl
@[simp] theorem withQueue_lines (q : List Instr) : (withQueue s q).lines = s.lines := rfl
@[simp] theorem withQueue_management (q : List Instr) : (withQueue s q).management = s.management := rfl
@[simp] theorem withQueue_tables (q : List Instr) : (withQueue s q).tables = s.tables := rfl
@[simp] theorem withQueue_control (q : List Instr) : (withQueue s q).control = s.control := rfl
@[simp] theorem withQueue_deferred (q : List Instr) : (withQueue s q).deferred = s.deferred := rfl
@[simp] theorem withQueue_choice (q : List Instr) : (withQueue s q).choice = s.choice := rfl

@[simp] theorem withQueue_pending (q : List Instr) : (withQueue s q).pending = q := rfl

/-! ## The count of free choices -/

@[simp] theorem countChoice_hold  : (countChoice s).hold = s.hold := rfl
@[simp] theorem countChoice_inReset  : (countChoice s).inReset = s.inReset := rfl
@[simp] theorem countChoice_authority  : (countChoice s).authority = s.authority := rfl
@[simp] theorem countChoice_slide  : (countChoice s).slide = s.slide := rfl
@[simp] theorem countChoice_brake  : (countChoice s).brake = s.brake := rfl
@[simp] theorem countChoice_blend  : (countChoice s).blend = s.blend := rfl
@[simp] theorem countChoice_air  : (countChoice s).air = s.air := rfl
@[simp] theorem countChoice_recorder  : (countChoice s).recorder = s.recorder := rfl
@[simp] theorem countChoice_link  : (countChoice s).link = s.link := rfl
@[simp] theorem countChoice_lines  : (countChoice s).lines = s.lines := rfl
@[simp] theorem countChoice_management  : (countChoice s).management = s.management := rfl
@[simp] theorem countChoice_tables  : (countChoice s).tables = s.tables := rfl
@[simp] theorem countChoice_control  : (countChoice s).control = s.control := rfl
@[simp] theorem countChoice_pending  : (countChoice s).pending = s.pending := rfl
@[simp] theorem countChoice_deferred  : (countChoice s).deferred = s.deferred := rfl

@[simp] theorem countChoice_choice : (countChoice s).choice = s.choice + 1 := rfl

/-! ## Groups of six -/

@[simp] theorem Six.get_set_same {α : Type} (x : Six α) (i : Fin 6) (v : α) : (x.set i v).get i = v := by
  fin_cases i <;> rfl
theorem Six.get_set_other {α : Type} (x : Six α) (i j : Fin 6) (v : α) (h : i ≠ j) :
    (x.set i v).get j = x.get j := by
  fin_cases i <;> fin_cases j <;> first | rfl | exact absurd rfl h
@[simp] theorem Six.get_ofFn {α : Type} (f : Fin 6 → α) (i : Fin 6) : (Six.ofFn f).get i = f i := by
  fin_cases i <;> rfl
@[simp] theorem Six.get_map {α β : Type} (f : α → β) (x : Six α) (i : Fin 6) : (x.map f).get i = f (x.get i) := by
  fin_cases i <;> rfl
@[simp] theorem Six.get_zipWith {α β γ : Type} (f : α → β → γ) (x : Six α) (y : Six β) (i : Fin 6) :
    (Six.zipWith f x y).get i = f (x.get i) (y.get i) := by
  fin_cases i <;> rfl
@[simp] theorem Six.get_all {α : Type} (v : α) (i : Fin 6) : (Six.all v).get i = v := by
  fin_cases i <;> rfl
@[simp] theorem PerSource.get_set_same {α : Type} (x : PerSource α) (k : Source) (v : α) : (x.set k v).get k = v := by
  cases k <;> rfl
theorem PerSource.get_set_other {α : Type} (x : PerSource α) (k j : Source) (v : α) (h : k ≠ j) :
    (x.set k v).get j = x.get j := by
  cases k <;> cases j <;> first | rfl | exact absurd rfl h

/-! ## Power-on reset (R182) -/

@[simp] theorem heldInReset_hold (hold : Hold) : (heldInReset hold s).hold = hold := rfl
@[simp] theorem heldInReset_inReset (hold : Hold) :
    (heldInReset hold s).inReset = (hold.pinLow || hold.powerUp) := rfl
@[simp] theorem heldInReset_own (hold : Hold) : (heldInReset hold s).link.own = s.link.own := rfl
@[simp] theorem heldInReset_pending (hold : Hold) : (heldInReset hold s).pending = s.pending := rfl
@[simp] theorem heldInReset_choice (hold : Hold) : (heldInReset hold s).choice = s.choice := rfl
@[simp] theorem holdAfter_holds (hold : Hold) (cause : ResetCause) :
    ((holdAfter hold cause).pinLow || (holdAfter hold cause).powerUp) = true := by cases cause <;> simp [holdAfter]

end Sys2Proof.Machine
end

