-- ==== Sys2Proof/Laws/Ops.lean ====
section
/-! SUPPORT. What the shared operations can do: the frame of an event, timers, a transmit opportunity, and the
entry of an originated frame. -/

namespace Sys2Proof.Machine

variable (s : State)

/-! ## Events -/

/-- An event always answers a next state: `s` itself in reset, else the effect with its outputs driven. -/
theorem event_next (effect : State → State) :
    event s effect = .next (if s.inReset then s else syncOutputs (effect s)) := by
  unfold event; split <;> rfl

theorem event_live (effect : State → State) (h : s.inReset = false) :
    event s effect = .next (syncOutputs (effect s)) := by
  simp [event, h]

theorem event_held (effect : State → State) (h : s.inReset = true) : event s effect = .next s := by
  simp [event, h]

/-! ## Timers -/

theorem Timer.reached_iff (t : Timer) (limit : Nat) : t.reached limit = true ↔ ∃ n, t = .running n ∧ limit ≤ n := by
  cases t <;> simp [Timer.reached]

theorem Timer.exceeded_iff (t : Timer) (limit : Nat) : t.exceeded limit = true ↔ ∃ n, t = .running n ∧ limit < n := by
  cases t <;> simp [Timer.exceeded]

@[simp] theorem Timer.startIfStopped_runs (t : Timer) : t.startIfStopped.runs = true := by
  cases t <;> rfl

@[simp] theorem Timer.startIfStopped_ne_stopped (t : Timer) : t.startIfStopped ≠ .stopped := by
  cases t <;> simp [Timer.startIfStopped]

theorem bump_le (n : Nat) : bump n ≤ Config.maxU32 := Nat.min_le_right _ _

/-! ## A transmit opportunity (R140, R141) -/

/-- Everything an opportunity can do to a port: it takes the head of the originated queue, else of the
forward queue, else it is IDLE. -/
theorem takeNext_cases (own : Byte) (carry : Nat) (ps : PortState) :
    (∃ f rest, ps.originated = f :: rest ∧ takeNext own carry ps =
      { ps with
        originated := rest
        transmitter := .sending true (sentBytes own ps.sequence f) carry
        sequence := ps.sequence + 1 })
    ∨ (∃ raw rest, ps.originated = [] ∧ ps.forward = raw :: rest ∧ takeNext own carry ps =
      { ps with forward := rest, transmitter := .sending false raw carry })
    ∨ (ps.originated = [] ∧ ps.forward = [] ∧ takeNext own carry ps = { ps with transmitter := .idle }) := by
  unfold takeNext
  cases ps.originated with
  | cons f rest => exact .inl ⟨f, rest, rfl, rfl⟩
  | nil =>
    cases ps.forward with
    | cons raw rest => exact .inr (.inl ⟨raw, rest, rfl, rfl, rfl⟩)
    | nil => exact .inr (.inr ⟨rfl, rfl, rfl⟩)

@[simp] theorem takeNext_counters (own : Byte) (carry : Nat) (ps : PortState) :
    (takeNext own carry ps).counters = ps.counters := by
  unfold takeNext; split <;> [rfl; split <;> rfl]

theorem takeNext_forward (own : Byte) (carry : Nat) (ps : PortState) :
    (takeNext own carry ps).forward <:+ ps.forward := by
  rcases takeNext_cases own carry ps with ⟨f, rest, _, h⟩ | ⟨raw, rest, _, hf, h⟩ | ⟨_, _, h⟩ <;>
    simp [*]

theorem takeNext_originated (own : Byte) (carry : Nat) (ps : PortState) :
    (takeNext own carry ps).originated <:+ ps.originated := by
  rcases takeNext_cases own carry ps with ⟨f, rest, hf, h⟩ | ⟨raw, rest, _, _, h⟩ | ⟨_, _, h⟩ <;>
    simp [*]

/-- An opportunity touches its own port alone. -/
theorem opportunity_eq (p : Port) (carry : Nat) :
    opportunity s p carry = setPort s p (takeNext s.link.own carry (getPort s p)) := rfl

/-- What an IDLE transmitter's opportunity, or none, leaves at the port. -/
theorem opportunityIfIdle_eq (p : Port) :
    opportunityIfIdle s p = setPort s p
      (match (getPort s p).transmitter with
        | .idle => takeNext s.link.own 0 (getPort s p)
        | .sending _ _ _ => getPort s p) := by
  unfold opportunityIfIdle
  split <;> simp [opportunity_eq, *]

/-! ## Originated queues (R138, R139) -/

theorem replaceFirst_length (f : OriginatedFrame) (q : List OriginatedFrame) :
    (replaceFirst f q).length = q.length := by
  induction q with
  | nil => rfl
  | cons g rest ih => unfold replaceFirst; split <;> simp [ih]

theorem mem_replaceFirst (f g : OriginatedFrame) (q : List OriginatedFrame) (h : g ∈ replaceFirst f q) :
    g = f ∨ g ∈ q := by
  induction q with
  | nil => simp [replaceFirst] at h
  | cons a rest ih =>
    unfold replaceFirst at h
    split at h <;> rcases List.mem_cons.mp h with h | h
    · exact .inl h
    · exact .inr (List.mem_cons_of_mem _ h)
    · exact .inr (h ▸ List.mem_cons_self)
    · exact (ih h).imp id (List.mem_cons_of_mem _)

/-- Everything that a hand-over can do to a queue: replace in place, add at the tail, or find no room. -/
theorem queueOriginated_cases (p : Port) (q : List OriginatedFrame) (f : OriginatedFrame) :
    (supersedes p f.cls = true ∧ q.any (sameKind f) = true ∧ queueOriginated p q f = some (replaceFirst f q))
    ∨ (q.length < Config.originatedCapacity ∧ queueOriginated p q f = some (q ++ [f]))
    ∨ (Config.originatedCapacity ≤ q.length ∧ queueOriginated p q f = none) := by
  unfold queueOriginated
  split
  · rename_i h
    simp only [Bool.and_eq_true] at h
    exact .inl ⟨h.1, h.2, rfl⟩
  · split
    · rename_i h; exact .inr (.inl ⟨h, rfl⟩)
    · rename_i h; exact .inr (.inr ⟨Nat.le_of_not_lt h, rfl⟩)

theorem queueOriginated_length (p : Port) (q q' : List OriginatedFrame) (f : OriginatedFrame)
    (hq : q.length ≤ Config.originatedCapacity) (h : queueOriginated p q f = some q') :
    q'.length ≤ Config.originatedCapacity := by
  rcases queueOriginated_cases p q f with ⟨_, _, h'⟩ | ⟨hl, h'⟩ | ⟨_, h'⟩ <;> rw [h'] at h <;> cases h
  · rw [replaceFirst_length]; exact hq
  · simpa using hl

theorem mem_queueOriginated (p : Port) (q q' : List OriginatedFrame) (f g : OriginatedFrame)
    (h : queueOriginated p q f = some q') (hg : g ∈ q') : g = f ∨ g ∈ q := by
  rcases queueOriginated_cases p q f with ⟨_, _, h'⟩ | ⟨_, h'⟩ | ⟨_, h'⟩ <;> rw [h'] at h <;> cases h
  · exact mem_replaceFirst f g q hg
  · rcases List.mem_append.mp hg with hg | hg
    · exact .inr hg
    · exact .inl (List.mem_singleton.mp hg)

/-- An originated frame enters a port, or finds no room. -/
theorem enterOriginated_cases (p : Port) (f : OriginatedFrame) :
    (∃ q, queueOriginated p (getPort s p).originated f = some q ∧ enterOriginated s p f =
      some (opportunityIfIdle (setPort s p { getPort s p with originated := q }) p))
    ∨ (queueOriginated p (getPort s p).originated f = none ∧ enterOriginated s p f = none) := by
  unfold enterOriginated
  cases queueOriginated p (getPort s p).originated f with
  | some q => exact .inl ⟨q, rfl, rfl⟩
  | none => exact .inr ⟨rfl, rfl⟩

/-- Behind a frame that is being sent, with room and nothing to supersede, a frame enters at the tail and
nothing else happens. -/
theorem enterOriginated_busy (p : Port) (f : OriginatedFrame)
    (hs : supersedes p f.cls = false) (hr : (getPort s p).originated.length < Config.originatedCapacity)
    (ht : (getPort s p).transmitter ≠ .idle) :
    enterOriginated s p f =
      some (setPort s p { getPort s p with originated := (getPort s p).originated ++ [f] }) := by
  simp only [enterOriginated, queueOriginated, hs, Bool.false_and, Bool.false_eq_true, if_false, hr, if_true,
    Option.map_some, opportunityIfIdle_eq, getPort_setPort_same, setPort_setPort]
  cases h : (getPort s p).transmitter with
  | idle => exact absurd h ht
  | sending a b c => rfl

end Sys2Proof.Machine
end

