-- ==== Sys2Proof/Laws/Flags.lean ====
section
/-! SUPPORT. What the rise of a flag and the notices it causes can do, said once (R152, R154, R155), and one
small lemma per field that they leave. -/

namespace Sys2Proof.Machine

variable (s : State)

/-! ## Frames: a state that equals `withNotices s` of itself is like `s` elsewhere -/

theorem withNotices_self : withNotices s s = s := rfl

theorem withNotices_trans {a b c : State} (hb : b = withNotices a b) (hc : c = withNotices b c) :
    c = withNotices a c := by
  rw [hc, hb]; rfl

theorem withTriggers_of_notices {a b : State} (h : b = withNotices a b) : b = withTriggers a b := by
  rw [h]; rfl

theorem withTriggers_trans {a b c : State} (hb : b = withTriggers a b) (hc : c = withTriggers b c) :
    c = withTriggers a c := by
  rw [hc, hb]; rfl

/-! ## Notices -/

theorem handNotice_frame (f : OriginatedFrame) : handNotice s f = withNotices s (handNotice s f) := by
  unfold handNotice
  rcases enterOriginated_cases s .c f with ⟨q, _, h⟩ | ⟨_, h⟩ <;> rw [h]
  · simp only [opportunityIfIdle_eq]; rfl
  · rfl

theorem notify_frame : notify s = withNotices s (notify s) := by
  unfold notify
  split
  · rfl
  · split
    · exact handNotice_frame s _
    · rfl

theorem foldl_handNotice_frame (fs : List OriginatedFrame) (s : State) :
    fs.foldl handNotice s = withNotices s (fs.foldl handNotice s) := by
  induction fs generalizing s with
  | nil => rfl
  | cons f fs ih => exact withNotices_trans (handNotice_frame s f) (ih (handNotice s f))

/-- Kept notices, handed over, touch only what notices touch. -/
theorem handNotices_frame (held : List OriginatedFrame) (s : State) :
    handNotices held s = withNotices s (handNotices held s) := foldl_handNotice_frame held s

theorem flushNotices_frame : flushNotices s = withNotices s (flushNotices s) := by
  unfold flushNotices
  split
  · rfl
  · rename_i held _
    have h : ({ s with deferred := none } : State) = withNotices s { s with deferred := none } := rfl
    exact withNotices_trans h (foldl_handNotice_frame held _)

theorem reformNotice_frame : reformNotice s = withNotices s (reformNotice s) := by
  unfold reformNotice; split
  · exact notify_frame s
  · rfl

/-! ## Rises -/

theorem raise_frame (f : Flag) : raise f s = withNotices s (raise f s) := by
  unfold raise
  split
  · rfl
  · dsimp only
    split
    · refine withNotices_trans (b := { s with lines := { s.lines with
        flags := s.lines.flags ||| flagMask f, noticePending := true } }) rfl (notify_frame _)
    · rfl

@[simp] theorem handNotice_flags (f : OriginatedFrame) : (handNotice s f).lines.flags = s.lines.flags := by
  unfold handNotice
  rcases enterOriginated_cases s .c f with ⟨q, _, h⟩ | ⟨_, h⟩ <;> rw [h]
  · simp only [opportunityIfIdle_eq]; rfl
  · rfl

@[simp] theorem notify_flags : (notify s).lines.flags = s.lines.flags := by
  unfold notify
  split
  · rfl
  · split
    · exact handNotice_flags s _
    · rfl

theorem flagMask_bit (f : Flag) (i : Fin 19) : (flagMask f).getLsbD i.val = decide (i.val = flagBit f) := by
  cases f <;> revert i <;> decide

theorem flagBit_lt (f : Flag) : flagBit f < 19 := by cases f <;> decide

theorem flagBit_injective (f g : Flag) (h : flagBit f = flagBit g) : f = g := by
  cases f <;> cases g <;> first | rfl | exact absurd h (by decide)

/-- The flags after a rise: the flag's bit is added (R152). -/
theorem raise_flags (f : Flag) : (raise f s).lines.flags = s.lines.flags ||| flagMask f := by
  unfold raise
  split
  · rename_i h
    ext i hi
    have hb : (flagMask f).getLsbD i = decide (i = flagBit f) := flagMask_bit f ⟨i, hi⟩
    rw [← BitVec.getLsbD_eq_getElem, ← BitVec.getLsbD_eq_getElem, BitVec.getLsbD_or, hb]
    by_cases hf : i = flagBit f
    · subst hf; simp [flagSet] at h; simp [h]
    · simp [hf]
  · dsimp only
    split
    · simp
    · rfl

/-- Which flags stand after a rise (R152): the flag itself and those that stood. -/
theorem flagSet_raise (f g : Flag) : flagSet (raise f s) g = (flagSet s g || decide (g = f)) := by
  have hb : (flagMask f).getLsbD (flagBit g) = decide (flagBit g = flagBit f) :=
    flagMask_bit f ⟨flagBit g, flagBit_lt g⟩
  simp only [flagSet, raise_flags, BitVec.getLsbD_or, hb]
  by_cases h : g = f
  · simp [h]
  · simp [h, mt (flagBit_injective g f) h]

theorem flagSet_raise_self (f : Flag) : flagSet (raise f s) f = true := by simp [flagSet_raise]

/-! ## Fields that `handNotice` leaves -/

@[simp] theorem handNotice_hold (f : OriginatedFrame) : (handNotice s f).hold = s.hold :=
  (congrArg State.hold (handNotice_frame s f)).trans rfl
@[simp] theorem handNotice_inReset (f : OriginatedFrame) : (handNotice s f).inReset = s.inReset :=
  (congrArg State.inReset (handNotice_frame s f)).trans rfl
@[simp] theorem handNotice_authority (f : OriginatedFrame) : (handNotice s f).authority = s.authority :=
  (congrArg State.authority (handNotice_frame s f)).trans rfl
@[simp] theorem handNotice_slide (f : OriginatedFrame) : (handNotice s f).slide = s.slide :=
  (congrArg State.slide (handNotice_frame s f)).trans rfl
@[simp] theorem handNotice_brake (f : OriginatedFrame) : (handNotice s f).brake = s.brake :=
  (congrArg State.brake (handNotice_frame s f)).trans rfl
@[simp] theorem handNotice_blend (f : OriginatedFrame) : (handNotice s f).blend = s.blend :=
  (congrArg State.blend (handNotice_frame s f)).trans rfl
@[simp] theorem handNotice_air (f : OriginatedFrame) : (handNotice s f).air = s.air :=
  (congrArg State.air (handNotice_frame s f)).trans rfl
@[simp] theorem handNotice_recorder (f : OriginatedFrame) : (handNotice s f).recorder = s.recorder :=
  (congrArg State.recorder (handNotice_frame s f)).trans rfl
@[simp] theorem handNotice_management (f : OriginatedFrame) : (handNotice s f).management = s.management :=
  (congrArg State.management (handNotice_frame s f)).trans rfl
@[simp] theorem handNotice_tables (f : OriginatedFrame) : (handNotice s f).tables = s.tables :=
  (congrArg State.tables (handNotice_frame s f)).trans rfl
@[simp] theorem handNotice_control (f : OriginatedFrame) : (handNotice s f).control = s.control :=
  (congrArg State.control (handNotice_frame s f)).trans rfl
@[simp] theorem handNotice_pending (f : OriginatedFrame) : (handNotice s f).pending = s.pending :=
  (congrArg State.pending (handNotice_frame s f)).trans rfl
@[simp] theorem handNotice_choice (f : OriginatedFrame) : (handNotice s f).choice = s.choice :=
  (congrArg State.choice (handNotice_frame s f)).trans rfl
@[simp] theorem handNotice_own (f : OriginatedFrame) : (handNotice s f).link.own = s.link.own :=
  (congrArg (fun x : State => x.link.own) (handNotice_frame s f)).trans rfl
@[simp] theorem handNotice_nodes (f : OriginatedFrame) : (handNotice s f).link.nodes = s.link.nodes :=
  (congrArg (fun x : State => x.link.nodes) (handNotice_frame s f)).trans rfl
@[simp] theorem handNotice_ePort (f : OriginatedFrame) : (handNotice s f).link.ePort = s.link.ePort :=
  (congrArg (fun x : State => x.link.ePort) (handNotice_frame s f)).trans rfl
@[simp] theorem handNotice_inputs (f : OriginatedFrame) : (handNotice s f).lines.inputs = s.lines.inputs :=
  (congrArg (fun x : State => x.lines.inputs) (handNotice_frame s f)).trans rfl

/-! ## Fields that `notify` leaves -/

@[simp] theorem notify_hold  : (notify s).hold = s.hold :=
  (congrArg State.hold (notify_frame s)).trans rfl
@[simp] theorem notify_inReset  : (notify s).inReset = s.inReset :=
  (congrArg State.inReset (notify_frame s)).trans rfl
@[simp] theorem notify_authority  : (notify s).authority = s.authority :=
  (congrArg State.authority (notify_frame s)).trans rfl
@[simp] theorem notify_slide  : (notify s).slide = s.slide :=
  (congrArg State.slide (notify_frame s)).trans rfl
@[simp] theorem notify_brake  : (notify s).brake = s.brake :=
  (congrArg State.brake (notify_frame s)).trans rfl
@[simp] theorem notify_blend  : (notify s).blend = s.blend :=
  (congrArg State.blend (notify_frame s)).trans rfl
@[simp] theorem notify_air  : (notify s).air = s.air :=
  (congrArg State.air (notify_frame s)).trans rfl
@[simp] theorem notify_recorder  : (notify s).recorder = s.recorder :=
  (congrArg State.recorder (notify_frame s)).trans rfl
@[simp] theorem notify_management  : (notify s).management = s.management :=
  (congrArg State.management (notify_frame s)).trans rfl
@[simp] theorem notify_tables  : (notify s).tables = s.tables :=
  (congrArg State.tables (notify_frame s)).trans rfl
@[simp] theorem notify_control  : (notify s).control = s.control :=
  (congrArg State.control (notify_frame s)).trans rfl
@[simp] theorem notify_pending  : (notify s).pending = s.pending :=
  (congrArg State.pending (notify_frame s)).trans rfl
@[simp] theorem notify_choice  : (notify s).choice = s.choice :=
  (congrArg State.choice (notify_frame s)).trans rfl
@[simp] theorem notify_own  : (notify s).link.own = s.link.own :=
  (congrArg (fun x : State => x.link.own) (notify_frame s)).trans rfl
@[simp] theorem notify_nodes  : (notify s).link.nodes = s.link.nodes :=
  (congrArg (fun x : State => x.link.nodes) (notify_frame s)).trans rfl
@[simp] theorem notify_ePort  : (notify s).link.ePort = s.link.ePort :=
  (congrArg (fun x : State => x.link.ePort) (notify_frame s)).trans rfl
@[simp] theorem notify_inputs  : (notify s).lines.inputs = s.lines.inputs :=
  (congrArg (fun x : State => x.lines.inputs) (notify_frame s)).trans rfl

/-! ## Fields that `flushNotices` leaves -/

@[simp] theorem flushNotices_hold  : (flushNotices s).hold = s.hold :=
  (congrArg State.hold (flushNotices_frame s)).trans rfl
@[simp] theorem flushNotices_inReset  : (flushNotices s).inReset = s.inReset :=
  (congrArg State.inReset (flushNotices_frame s)).trans rfl
@[simp] theorem flushNotices_authority  : (flushNotices s).authority = s.authority :=
  (congrArg State.authority (flushNotices_frame s)).trans rfl
@[simp] theorem flushNotices_slide  : (flushNotices s).slide = s.slide :=
  (congrArg State.slide (flushNotices_frame s)).trans rfl
@[simp] theorem flushNotices_brake  : (flushNotices s).brake = s.brake :=
  (congrArg State.brake (flushNotices_frame s)).trans rfl
@[simp] theorem flushNotices_blend  : (flushNotices s).blend = s.blend :=
  (congrArg State.blend (flushNotices_frame s)).trans rfl
@[simp] theorem flushNotices_air  : (flushNotices s).air = s.air :=
  (congrArg State.air (flushNotices_frame s)).trans rfl
@[simp] theorem flushNotices_recorder  : (flushNotices s).recorder = s.recorder :=
  (congrArg State.recorder (flushNotices_frame s)).trans rfl
@[simp] theorem flushNotices_management  : (flushNotices s).management = s.management :=
  (congrArg State.management (flushNotices_frame s)).trans rfl
@[simp] theorem flushNotices_tables  : (flushNotices s).tables = s.tables :=
  (congrArg State.tables (flushNotices_frame s)).trans rfl
@[simp] theorem flushNotices_control  : (flushNotices s).control = s.control :=
  (congrArg State.control (flushNotices_frame s)).trans rfl
@[simp] theorem flushNotices_pending  : (flushNotices s).pending = s.pending :=
  (congrArg State.pending (flushNotices_frame s)).trans rfl
@[simp] theorem flushNotices_choice  : (flushNotices s).choice = s.choice :=
  (congrArg State.choice (flushNotices_frame s)).trans rfl
@[simp] theorem flushNotices_own  : (flushNotices s).link.own = s.link.own :=
  (congrArg (fun x : State => x.link.own) (flushNotices_frame s)).trans rfl
@[simp] theorem flushNotices_nodes  : (flushNotices s).link.nodes = s.link.nodes :=
  (congrArg (fun x : State => x.link.nodes) (flushNotices_frame s)).trans rfl
@[simp] theorem flushNotices_ePort  : (flushNotices s).link.ePort = s.link.ePort :=
  (congrArg (fun x : State => x.link.ePort) (flushNotices_frame s)).trans rfl
@[simp] theorem flushNotices_inputs  : (flushNotices s).lines.inputs = s.lines.inputs :=
  (congrArg (fun x : State => x.lines.inputs) (flushNotices_frame s)).trans rfl

/-! ## Fields that `reformNotice` leaves -/

@[simp] theorem reformNotice_hold  : (reformNotice s).hold = s.hold :=
  (congrArg State.hold (reformNotice_frame s)).trans rfl
@[simp] theorem reformNotice_inReset  : (reformNotice s).inReset = s.inReset :=
  (congrArg State.inReset (reformNotice_frame s)).trans rfl
@[simp] theorem reformNotice_authority  : (reformNotice s).authority = s.authority :=
  (congrArg State.authority (reformNotice_frame s)).trans rfl
@[simp] theorem reformNotice_slide  : (reformNotice s).slide = s.slide :=
  (congrArg State.slide (reformNotice_frame s)).trans rfl
@[simp] theorem reformNotice_brake  : (reformNotice s).brake = s.brake :=
  (congrArg State.brake (reformNotice_frame s)).trans rfl
@[simp] theorem reformNotice_blend  : (reformNotice s).blend = s.blend :=
  (congrArg State.blend (reformNotice_frame s)).trans rfl
@[simp] theorem reformNotice_air  : (reformNotice s).air = s.air :=
  (congrArg State.air (reformNotice_frame s)).trans rfl
@[simp] theorem reformNotice_recorder  : (reformNotice s).recorder = s.recorder :=
  (congrArg State.recorder (reformNotice_frame s)).trans rfl
@[simp] theorem reformNotice_management  : (reformNotice s).management = s.management :=
  (congrArg State.management (reformNotice_frame s)).trans rfl
@[simp] theorem reformNotice_tables  : (reformNotice s).tables = s.tables :=
  (congrArg State.tables (reformNotice_frame s)).trans rfl
@[simp] theorem reformNotice_control  : (reformNotice s).control = s.control :=
  (congrArg State.control (reformNotice_frame s)).trans rfl
@[simp] theorem reformNotice_pending  : (reformNotice s).pending = s.pending :=
  (congrArg State.pending (reformNotice_frame s)).trans rfl
@[simp] theorem reformNotice_choice  : (reformNotice s).choice = s.choice :=
  (congrArg State.choice (reformNotice_frame s)).trans rfl
@[simp] theorem reformNotice_own  : (reformNotice s).link.own = s.link.own :=
  (congrArg (fun x : State => x.link.own) (reformNotice_frame s)).trans rfl
@[simp] theorem reformNotice_nodes  : (reformNotice s).link.nodes = s.link.nodes :=
  (congrArg (fun x : State => x.link.nodes) (reformNotice_frame s)).trans rfl
@[simp] theorem reformNotice_ePort  : (reformNotice s).link.ePort = s.link.ePort :=
  (congrArg (fun x : State => x.link.ePort) (reformNotice_frame s)).trans rfl
@[simp] theorem reformNotice_inputs  : (reformNotice s).lines.inputs = s.lines.inputs :=
  (congrArg (fun x : State => x.lines.inputs) (reformNotice_frame s)).trans rfl

/-! ## Fields that `raise` leaves -/

@[simp] theorem raise_hold (f : Flag) : (raise f s).hold = s.hold :=
  (congrArg State.hold (raise_frame s f)).trans rfl
@[simp] theorem raise_inReset (f : Flag) : (raise f s).inReset = s.inReset :=
  (congrArg State.inReset (raise_frame s f)).trans rfl
@[simp] theorem raise_authority (f : Flag) : (raise f s).authority = s.authority :=
  (congrArg State.authority (raise_frame s f)).trans rfl
@[simp] theorem raise_slide (f : Flag) : (raise f s).slide = s.slide :=
  (congrArg State.slide (raise_frame s f)).trans rfl
@[simp] theorem raise_brake (f : Flag) : (raise f s).brake = s.brake :=
  (congrArg State.brake (raise_frame s f)).trans rfl
@[simp] theorem raise_blend (f : Flag) : (raise f s).blend = s.blend :=
  (congrArg State.blend (raise_frame s f)).trans rfl
@[simp] theorem raise_air (f : Flag) : (raise f s).air = s.air :=
  (congrArg State.air (raise_frame s f)).trans rfl
@[simp] theorem raise_recorder (f : Flag) : (raise f s).recorder = s.recorder :=
  (congrArg State.recorder (raise_frame s f)).trans rfl
@[simp] theorem raise_management (f : Flag) : (raise f s).management = s.management :=
  (congrArg State.management (raise_frame s f)).trans rfl
@[simp] theorem raise_tables (f : Flag) : (raise f s).tables = s.tables :=
  (congrArg State.tables (raise_frame s f)).trans rfl
@[simp] theorem raise_control (f : Flag) : (raise f s).control = s.control :=
  (congrArg State.control (raise_frame s f)).trans rfl
@[simp] theorem raise_pending (f : Flag) : (raise f s).pending = s.pending :=
  (congrArg State.pending (raise_frame s f)).trans rfl
@[simp] theorem raise_choice (f : Flag) : (raise f s).choice = s.choice :=
  (congrArg State.choice (raise_frame s f)).trans rfl
@[simp] theorem raise_own (f : Flag) : (raise f s).link.own = s.link.own :=
  (congrArg (fun x : State => x.link.own) (raise_frame s f)).trans rfl
@[simp] theorem raise_nodes (f : Flag) : (raise f s).link.nodes = s.link.nodes :=
  (congrArg (fun x : State => x.link.nodes) (raise_frame s f)).trans rfl
@[simp] theorem raise_ePort (f : Flag) : (raise f s).link.ePort = s.link.ePort :=
  (congrArg (fun x : State => x.link.ePort) (raise_frame s f)).trans rfl
@[simp] theorem raise_inputs (f : Flag) : (raise f s).lines.inputs = s.lines.inputs :=
  (congrArg (fun x : State => x.lines.inputs) (raise_frame s f)).trans rfl

/-! ## What notices do to the C-port -/

theorem NoticesOnly.refl (a : PortState) : NoticesOnly a a :=
  ⟨fun _ h => .inl h, List.suffix_refl _, rfl, fun _ => ⟨rfl, rfl, rfl, rfl⟩⟩

theorem NoticesOnly.trans {a b c : PortState} (h : NoticesOnly a b) (k : NoticesOnly b c) : NoticesOnly a c := by
  refine ⟨fun f hf => ?_, k.2.1.trans h.2.1, ?_, fun ht => ?_⟩
  · rcases k.1 f hf with hb | hb
    · exact h.1 f hb
    · exact .inr hb
  · rw [k.2.2.1, h.2.2.1]
  · obtain ⟨h1, h2, h3, h4⟩ := h.2.2.2 ht
    obtain ⟨k1, k2, k3, k4⟩ := k.2.2.2 (h1 ▸ ht)
    exact ⟨k1.trans h1, k2.trans h2, k3.trans h3, k4.trans h4⟩

/-- A NOTICE replaced or added leaves the other waiting frames. -/
theorem queueOriginated_plain (p : Port) (q q' : List OriginatedFrame) (f : OriginatedFrame)
    (hf : f.cls = Config.clsNotice) (h : queueOriginated p q f = some q') :
    q'.filter (fun g => decide (g.cls ≠ Config.clsNotice)) = q.filter (fun g => decide (g.cls ≠ Config.clsNotice)) := by
  have hr : ∀ q : List OriginatedFrame, (replaceFirst f q).filter (fun g => decide (g.cls ≠ Config.clsNotice))
      = q.filter (fun g => decide (g.cls ≠ Config.clsNotice)) := by
    intro q
    induction q with
    | nil => rfl
    | cons g rest ih =>
      unfold replaceFirst
      split
      · rename_i hk
        simp only [sameKind, Bool.and_eq_true, decide_eq_true_eq] at hk
        simp [hf, ← hk.1]
      · simp only [List.filter_cons, ih]
  rcases queueOriginated_cases p q f with ⟨_, _, h'⟩ | ⟨_, h'⟩ | ⟨_, h'⟩ <;> rw [h'] at h <;> cases h
  · exact hr q
  · simp [List.filter_append, hf]

theorem handNotice_noticesOnly (f : OriginatedFrame) (hf : f.cls = Config.clsNotice) :
    NoticesOnly s.link.cPort (handNotice s f).link.cPort := by
  unfold handNotice
  rcases enterOriginated_cases s .c f with ⟨q, hq, h⟩ | ⟨_, h⟩ <;> rw [h]
  · have hm : ∀ g ∈ q, g ∈ s.link.cPort.originated ∨ g.cls = Config.clsNotice := fun g hg =>
      (mem_queueOriginated .c _ q f g hq hg).elim (fun e => .inr (e ▸ hf)) .inl
    simp only [opportunityIfIdle_eq]
    dsimp only [getPort, setPort]
    split
    · rename_i ht
      refine ⟨fun g hg => hm g ((takeNext_originated _ _ _).subset hg), takeNext_forward _ _ _, ?_, fun hb =>
        absurd ht hb⟩
      rw [takeNext_counters]
    · exact ⟨hm, List.suffix_refl _, rfl, fun _ => ⟨rfl, rfl, rfl, queueOriginated_plain .c _ q f hf hq⟩⟩
  · exact ⟨fun _ h => .inl h, List.suffix_refl _, rfl, fun _ => ⟨rfl, rfl, rfl, rfl⟩⟩

theorem notify_noticesOnly : NoticesOnly s.link.cPort (notify s).link.cPort := by
  unfold notify
  split
  · exact NoticesOnly.refl _
  · split
    · exact handNotice_noticesOnly s _ rfl
    · exact NoticesOnly.refl _

theorem raise_noticesOnly (f : Flag) : NoticesOnly s.link.cPort (raise f s).link.cPort := by
  unfold raise
  split
  · exact NoticesOnly.refl _
  · dsimp only
    split
    · exact notify_noticesOnly _
    · exact NoticesOnly.refl _

@[simp] theorem handNotice_deferred (f : OriginatedFrame) : (handNotice s f).deferred = s.deferred := by
  unfold handNotice
  rcases enterOriginated_cases s .c f with ⟨q, _, h⟩ | ⟨_, h⟩ <;> rw [h]
  · simp [opportunityIfIdle_eq]
  · rfl

/-- Between events no notice is kept back, and a rise keeps none back. -/
theorem raise_deferred (f : Flag) (h : s.deferred = none) : (raise f s).deferred = none := by
  unfold raise
  split
  · exact h
  · dsimp only
    split
    · unfold notify
      split
      · exact h
      · simp only [h]
        simp
    · exact h

/-! ## Which flags an event raises -/

theorem FlagsRaised.refl : FlagsRaised [] [] s s :=
  fun _ => ⟨fun h => h.elim id (fun h => absurd h List.not_mem_nil), fun h => .inl h⟩

theorem FlagsRaised.trans {m1 y1 m2 y2 : List Flag} {a b c : State} (h : FlagsRaised m1 y1 a b)
    (k : FlagsRaised m2 y2 b c) : FlagsRaised (m1 ++ m2) (y1 ++ y2) a c := by
  intro f
  have hf := h f
  have kf := k f
  simp only [List.mem_append]
  tauto

theorem FlagsRaised.weaken {m y y' : List Flag} {a b : State} (h : FlagsRaised m y a b) (hy : ∀ f ∈ y, f ∈ y') :
    FlagsRaised m y' a b := by
  intro f
  have hf := h f
  have := hy f
  tauto

theorem raise_flagsRaised (f : Flag) : FlagsRaised [f] [] s (raise f s) := by
  intro g
  simp only [flagSet_raise, Bool.or_eq_true, decide_eq_true_eq, List.mem_singleton, List.not_mem_nil]
  tauto

end Sys2Proof.Machine
end

