-- ==== Sys2Proof/Laws/Recorder.lean ====
section
/-! SUPPORT. What a trigger, a snapshot and an offered frame can do, said once (R102 to R119): a trigger leaves
everything but the Recorder and what INCIDENT_LOST touches, and outside SERVICE it leaves all. -/

namespace Sys2Proof.Machine

variable (s : State)

/-! ## Triggers -/

theorem loseIncident_frame : loseIncident s = withTriggers s (loseIncident s) := by
  unfold loseIncident; rw [raise_frame]; rfl

theorem countOverwrite_frame : countOverwrite s = withTriggers s (countOverwrite s) := by
  unfold countOverwrite; rw [raise_frame]; rfl

theorem openIn_frame (i : Nat) (kind : TriggerKind) (frame : Option Capture) (have_ : Option Nat) :
    (openIn s i kind frame have_).1 = withTriggers s (openIn s i kind frame have_).1 := rfl

theorem openIncident_frame (kind : TriggerKind) (frame : Option Capture) (have_ : Option Nat) :
    (openIncident s kind frame have_).1 = withTriggers s (openIncident s kind frame have_).1 := by
  unfold openIncident
  dsimp only
  split
  · exact loseIncident_frame s
  · split
    · rfl
    · split
      · exact withTriggers_trans (countOverwrite_frame s) (openIn_frame _ _ _ _ _)
      · exact loseIncident_frame s

theorem joinIncident_frame (i : Nat) (kind : TriggerKind) (frame : Option Capture) (have_ : Option Nat) :
    (joinIncident s i kind frame have_).1 = withTriggers s (joinIncident s i kind frame have_).1 := rfl

/-- Everything a trigger can do (R102): it is ignored, it joins the FILLING incident, or it opens one. -/
theorem deliverTrigger_cases (kind : TriggerKind) (frame : Option Capture) (have_ : Option Nat) :
    ((s.control.mode ≠ .service ∨ triggerEnabled s.tables kind = false)
      ∧ deliverTrigger s kind frame have_ = (s, .ignored, have_))
    ∨ (s.control.mode = .service ∧ triggerEnabled s.tables kind = true ∧
      ((fillingSlot s.recorder = none ∧ deliverTrigger s kind frame have_ = openIncident s kind frame have_)
        ∨ ∃ i, fillingSlot s.recorder = some i
          ∧ deliverTrigger s kind frame have_ = joinIncident s i kind frame have_)) := by
  unfold deliverTrigger
  by_cases hm : s.control.mode = .service <;> by_cases he : triggerEnabled s.tables kind = true
  · refine .inr ⟨hm, he, ?_⟩
    simp only [hm, he, decide_true, Bool.and_self, if_true]
    cases h : fillingSlot s.recorder with
    | none => exact .inl ⟨rfl, rfl⟩
    | some i => exact .inr ⟨i, rfl, rfl⟩
  · exact .inl ⟨.inr (by simpa using he), by simp [he]⟩
  · exact .inl ⟨.inl hm, by simp [hm]⟩
  · exact .inl ⟨.inl hm, by simp [hm]⟩

theorem deliverTrigger_frame (kind : TriggerKind) (frame : Option Capture) (have_ : Option Nat) :
    (deliverTrigger s kind frame have_).1 = withTriggers s (deliverTrigger s kind frame have_).1 := by
  rcases deliverTrigger_cases s kind frame have_ with ⟨_, h⟩ | ⟨_, _, ⟨_, h⟩ | ⟨i, _, h⟩⟩ <;> rw [h]
  · rfl
  · exact openIncident_frame s kind frame have_
  · rfl

theorem trigger_frame (kind : TriggerKind) : trigger kind s = withTriggers s (trigger kind s) :=
  deliverTrigger_frame s kind none none

/-- Outside SERVICE a trigger is ignored (R102). -/
theorem trigger_ignored (kind : TriggerKind) (h : s.control.mode ≠ .service) : trigger kind s = s := by
  simp [trigger, deliverTrigger, h]

/-- A kind that is not enabled is ignored (R102). -/
theorem trigger_disabled (kind : TriggerKind) (h : triggerEnabled s.tables kind = false) : trigger kind s = s := by
  simp [trigger, deliverTrigger, h]

/-! ## Sealing, snapshots and offers -/

theorem sealSlot_frame (i : Nat) (cause : EndCause) : sealSlot s i cause = withTriggers s (sealSlot s i cause) := by
  unfold sealSlot; dsimp only; rw [raise_frame]; rfl

theorem sealOnExit_frame : sealOnExit s = withTriggers s (sealOnExit s) := by
  unfold sealOnExit; split
  · rfl
  · exact sealSlot_frame s _ _

theorem appendToFilling_frame (n : Snapshot) : appendToFilling s n = withTriggers s (appendToFilling s n) := by
  unfold appendToFilling
  split
  · rfl
  · dsimp only
    split
    · exact withTriggers_trans rfl (sealSlot_frame _ _ _)
    · rfl

theorem takeSnapshot_frame (n : Snapshot) : takeSnapshot s n = withTriggers s (takeSnapshot s n) := by
  unfold takeSnapshot
  dsimp only
  split
  · exact withTriggers_trans rfl (appendToFilling_frame _ _)
  · rfl

theorem offerToPattern_frame (port : Port) (f : Frame) (acc : State × Option Nat) (p : Fin 8) :
    (offerToPattern port f acc p).1 = withTriggers acc.1 (offerToPattern port f acc p).1 := by
  unfold offerToPattern
  dsimp only
  split
  · exact deliverTrigger_frame _ _ _ _
  · rfl

theorem foldl_offer_frame (port : Port) (f : Frame) (ps : List (Fin 8)) (acc : State × Option Nat) :
    (ps.foldl (offerToPattern port f) acc).1 = withTriggers acc.1 (ps.foldl (offerToPattern port f) acc).1 := by
  induction ps generalizing acc with
  | nil => rfl
  | cons p ps ih => exact withTriggers_trans (offerToPattern_frame port f acc p) (ih _)

theorem offerFrame_frame (port : Port) (f : Frame) : offerFrame port f s = withTriggers s (offerFrame port f s) := by
  unfold offerFrame
  split
  · exact foldl_offer_frame port f patternNumbers (s, none)
  · rfl

/-- Outside SERVICE an offered frame is not tested (R115). -/
theorem offerFrame_ignored (port : Port) (f : Frame) (h : s.control.mode ≠ .service) :
    offerFrame port f s = s := by
  simp [offerFrame, h]

/-! ## What they do to the C-port -/

theorem trigger_noticesOnly (kind : TriggerKind) : NoticesOnly s.link.cPort (trigger kind s).link.cPort := by
  unfold trigger
  rcases deliverTrigger_cases s kind none none with ⟨_, h⟩ | ⟨_, _, ⟨_, h⟩ | ⟨i, _, h⟩⟩ <;> rw [h]
  · exact NoticesOnly.refl _
  · unfold openIncident
    dsimp only
    split
    · exact raise_noticesOnly _ _
    · split
      · exact NoticesOnly.refl _
      · split
        · exact raise_noticesOnly _ _
        · exact raise_noticesOnly _ _
  · exact NoticesOnly.refl _

/-! ## Fields that `trigger` leaves -/

@[simp] theorem trigger_hold (kind : TriggerKind) : (trigger kind s).hold = s.hold :=
  (congrArg State.hold (trigger_frame s kind)).trans rfl
@[simp] theorem trigger_inReset (kind : TriggerKind) : (trigger kind s).inReset = s.inReset :=
  (congrArg State.inReset (trigger_frame s kind)).trans rfl
@[simp] theorem trigger_authority (kind : TriggerKind) : (trigger kind s).authority = s.authority :=
  (congrArg State.authority (trigger_frame s kind)).trans rfl
@[simp] theorem trigger_slide (kind : TriggerKind) : (trigger kind s).slide = s.slide :=
  (congrArg State.slide (trigger_frame s kind)).trans rfl
@[simp] theorem trigger_brake (kind : TriggerKind) : (trigger kind s).brake = s.brake :=
  (congrArg State.brake (trigger_frame s kind)).trans rfl
@[simp] theorem trigger_blend (kind : TriggerKind) : (trigger kind s).blend = s.blend :=
  (congrArg State.blend (trigger_frame s kind)).trans rfl
@[simp] theorem trigger_air (kind : TriggerKind) : (trigger kind s).air = s.air :=
  (congrArg State.air (trigger_frame s kind)).trans rfl
@[simp] theorem trigger_management (kind : TriggerKind) : (trigger kind s).management = s.management :=
  (congrArg State.management (trigger_frame s kind)).trans rfl
@[simp] theorem trigger_tables (kind : TriggerKind) : (trigger kind s).tables = s.tables :=
  (congrArg State.tables (trigger_frame s kind)).trans rfl
@[simp] theorem trigger_control (kind : TriggerKind) : (trigger kind s).control = s.control :=
  (congrArg State.control (trigger_frame s kind)).trans rfl
@[simp] theorem trigger_pending (kind : TriggerKind) : (trigger kind s).pending = s.pending :=
  (congrArg State.pending (trigger_frame s kind)).trans rfl
@[simp] theorem trigger_choice (kind : TriggerKind) : (trigger kind s).choice = s.choice :=
  (congrArg State.choice (trigger_frame s kind)).trans rfl
@[simp] theorem trigger_own (kind : TriggerKind) : (trigger kind s).link.own = s.link.own :=
  (congrArg (fun x : State => x.link.own) (trigger_frame s kind)).trans rfl
@[simp] theorem trigger_nodes (kind : TriggerKind) : (trigger kind s).link.nodes = s.link.nodes :=
  (congrArg (fun x : State => x.link.nodes) (trigger_frame s kind)).trans rfl
@[simp] theorem trigger_ePort (kind : TriggerKind) : (trigger kind s).link.ePort = s.link.ePort :=
  (congrArg (fun x : State => x.link.ePort) (trigger_frame s kind)).trans rfl
@[simp] theorem trigger_inputs (kind : TriggerKind) : (trigger kind s).lines.inputs = s.lines.inputs :=
  (congrArg (fun x : State => x.lines.inputs) (trigger_frame s kind)).trans rfl

/-! ## Fields that `sealSlot` leaves -/

@[simp] theorem sealSlot_hold (i : Nat) (cause : EndCause) : (sealSlot s i cause).hold = s.hold :=
  (congrArg State.hold (sealSlot_frame s i cause)).trans rfl
@[simp] theorem sealSlot_inReset (i : Nat) (cause : EndCause) : (sealSlot s i cause).inReset = s.inReset :=
  (congrArg State.inReset (sealSlot_frame s i cause)).trans rfl
@[simp] theorem sealSlot_authority (i : Nat) (cause : EndCause) : (sealSlot s i cause).authority = s.authority :=
  (congrArg State.authority (sealSlot_frame s i cause)).trans rfl
@[simp] theorem sealSlot_slide (i : Nat) (cause : EndCause) : (sealSlot s i cause).slide = s.slide :=
  (congrArg State.slide (sealSlot_frame s i cause)).trans rfl
@[simp] theorem sealSlot_brake (i : Nat) (cause : EndCause) : (sealSlot s i cause).brake = s.brake :=
  (congrArg State.brake (sealSlot_frame s i cause)).trans rfl
@[simp] theorem sealSlot_blend (i : Nat) (cause : EndCause) : (sealSlot s i cause).blend = s.blend :=
  (congrArg State.blend (sealSlot_frame s i cause)).trans rfl
@[simp] theorem sealSlot_air (i : Nat) (cause : EndCause) : (sealSlot s i cause).air = s.air :=
  (congrArg State.air (sealSlot_frame s i cause)).trans rfl
@[simp] theorem sealSlot_management (i : Nat) (cause : EndCause) : (sealSlot s i cause).management = s.management :=
  (congrArg State.management (sealSlot_frame s i cause)).trans rfl
@[simp] theorem sealSlot_tables (i : Nat) (cause : EndCause) : (sealSlot s i cause).tables = s.tables :=
  (congrArg State.tables (sealSlot_frame s i cause)).trans rfl
@[simp] theorem sealSlot_control (i : Nat) (cause : EndCause) : (sealSlot s i cause).control = s.control :=
  (congrArg State.control (sealSlot_frame s i cause)).trans rfl
@[simp] theorem sealSlot_pending (i : Nat) (cause : EndCause) : (sealSlot s i cause).pending = s.pending :=
  (congrArg State.pending (sealSlot_frame s i cause)).trans rfl
@[simp] theorem sealSlot_choice (i : Nat) (cause : EndCause) : (sealSlot s i cause).choice = s.choice :=
  (congrArg State.choice (sealSlot_frame s i cause)).trans rfl
@[simp] theorem sealSlot_own (i : Nat) (cause : EndCause) : (sealSlot s i cause).link.own = s.link.own :=
  (congrArg (fun x : State => x.link.own) (sealSlot_frame s i cause)).trans rfl
@[simp] theorem sealSlot_nodes (i : Nat) (cause : EndCause) : (sealSlot s i cause).link.nodes = s.link.nodes :=
  (congrArg (fun x : State => x.link.nodes) (sealSlot_frame s i cause)).trans rfl
@[simp] theorem sealSlot_ePort (i : Nat) (cause : EndCause) : (sealSlot s i cause).link.ePort = s.link.ePort :=
  (congrArg (fun x : State => x.link.ePort) (sealSlot_frame s i cause)).trans rfl
@[simp] theorem sealSlot_inputs (i : Nat) (cause : EndCause) : (sealSlot s i cause).lines.inputs = s.lines.inputs :=
  (congrArg (fun x : State => x.lines.inputs) (sealSlot_frame s i cause)).trans rfl

/-! ## Fields that `sealOnExit` leaves -/

@[simp] theorem sealOnExit_hold  : (sealOnExit s).hold = s.hold :=
  (congrArg State.hold (sealOnExit_frame s)).trans rfl
@[simp] theorem sealOnExit_inReset  : (sealOnExit s).inReset = s.inReset :=
  (congrArg State.inReset (sealOnExit_frame s)).trans rfl
@[simp] theorem sealOnExit_authority  : (sealOnExit s).authority = s.authority :=
  (congrArg State.authority (sealOnExit_frame s)).trans rfl
@[simp] theorem sealOnExit_slide  : (sealOnExit s).slide = s.slide :=
  (congrArg State.slide (sealOnExit_frame s)).trans rfl
@[simp] theorem sealOnExit_brake  : (sealOnExit s).brake = s.brake :=
  (congrArg State.brake (sealOnExit_frame s)).trans rfl
@[simp] theorem sealOnExit_blend  : (sealOnExit s).blend = s.blend :=
  (congrArg State.blend (sealOnExit_frame s)).trans rfl
@[simp] theorem sealOnExit_air  : (sealOnExit s).air = s.air :=
  (congrArg State.air (sealOnExit_frame s)).trans rfl
@[simp] theorem sealOnExit_management  : (sealOnExit s).management = s.management :=
  (congrArg State.management (sealOnExit_frame s)).trans rfl
@[simp] theorem sealOnExit_tables  : (sealOnExit s).tables = s.tables :=
  (congrArg State.tables (sealOnExit_frame s)).trans rfl
@[simp] theorem sealOnExit_control  : (sealOnExit s).control = s.control :=
  (congrArg State.control (sealOnExit_frame s)).trans rfl
@[simp] theorem sealOnExit_pending  : (sealOnExit s).pending = s.pending :=
  (congrArg State.pending (sealOnExit_frame s)).trans rfl
@[simp] theorem sealOnExit_choice  : (sealOnExit s).choice = s.choice :=
  (congrArg State.choice (sealOnExit_frame s)).trans rfl
@[simp] theorem sealOnExit_own  : (sealOnExit s).link.own = s.link.own :=
  (congrArg (fun x : State => x.link.own) (sealOnExit_frame s)).trans rfl
@[simp] theorem sealOnExit_nodes  : (sealOnExit s).link.nodes = s.link.nodes :=
  (congrArg (fun x : State => x.link.nodes) (sealOnExit_frame s)).trans rfl
@[simp] theorem sealOnExit_ePort  : (sealOnExit s).link.ePort = s.link.ePort :=
  (congrArg (fun x : State => x.link.ePort) (sealOnExit_frame s)).trans rfl
@[simp] theorem sealOnExit_inputs  : (sealOnExit s).lines.inputs = s.lines.inputs :=
  (congrArg (fun x : State => x.lines.inputs) (sealOnExit_frame s)).trans rfl

/-! ## Fields that `takeSnapshot` leaves -/

@[simp] theorem takeSnapshot_hold (n : Snapshot) : (takeSnapshot s n).hold = s.hold :=
  (congrArg State.hold (takeSnapshot_frame s n)).trans rfl
@[simp] theorem takeSnapshot_inReset (n : Snapshot) : (takeSnapshot s n).inReset = s.inReset :=
  (congrArg State.inReset (takeSnapshot_frame s n)).trans rfl
@[simp] theorem takeSnapshot_authority (n : Snapshot) : (takeSnapshot s n).authority = s.authority :=
  (congrArg State.authority (takeSnapshot_frame s n)).trans rfl
@[simp] theorem takeSnapshot_slide (n : Snapshot) : (takeSnapshot s n).slide = s.slide :=
  (congrArg State.slide (takeSnapshot_frame s n)).trans rfl
@[simp] theorem takeSnapshot_brake (n : Snapshot) : (takeSnapshot s n).brake = s.brake :=
  (congrArg State.brake (takeSnapshot_frame s n)).trans rfl
@[simp] theorem takeSnapshot_blend (n : Snapshot) : (takeSnapshot s n).blend = s.blend :=
  (congrArg State.blend (takeSnapshot_frame s n)).trans rfl
@[simp] theorem takeSnapshot_air (n : Snapshot) : (takeSnapshot s n).air = s.air :=
  (congrArg State.air (takeSnapshot_frame s n)).trans rfl
@[simp] theorem takeSnapshot_management (n : Snapshot) : (takeSnapshot s n).management = s.management :=
  (congrArg State.management (takeSnapshot_frame s n)).trans rfl
@[simp] theorem takeSnapshot_tables (n : Snapshot) : (takeSnapshot s n).tables = s.tables :=
  (congrArg State.tables (takeSnapshot_frame s n)).trans rfl
@[simp] theorem takeSnapshot_control (n : Snapshot) : (takeSnapshot s n).control = s.control :=
  (congrArg State.control (takeSnapshot_frame s n)).trans rfl
@[simp] theorem takeSnapshot_pending (n : Snapshot) : (takeSnapshot s n).pending = s.pending :=
  (congrArg State.pending (takeSnapshot_frame s n)).trans rfl
@[simp] theorem takeSnapshot_choice (n : Snapshot) : (takeSnapshot s n).choice = s.choice :=
  (congrArg State.choice (takeSnapshot_frame s n)).trans rfl
@[simp] theorem takeSnapshot_own (n : Snapshot) : (takeSnapshot s n).link.own = s.link.own :=
  (congrArg (fun x : State => x.link.own) (takeSnapshot_frame s n)).trans rfl
@[simp] theorem takeSnapshot_nodes (n : Snapshot) : (takeSnapshot s n).link.nodes = s.link.nodes :=
  (congrArg (fun x : State => x.link.nodes) (takeSnapshot_frame s n)).trans rfl
@[simp] theorem takeSnapshot_ePort (n : Snapshot) : (takeSnapshot s n).link.ePort = s.link.ePort :=
  (congrArg (fun x : State => x.link.ePort) (takeSnapshot_frame s n)).trans rfl
@[simp] theorem takeSnapshot_inputs (n : Snapshot) : (takeSnapshot s n).lines.inputs = s.lines.inputs :=
  (congrArg (fun x : State => x.lines.inputs) (takeSnapshot_frame s n)).trans rfl

/-! ## Fields that `offerFrame` leaves -/

@[simp] theorem offerFrame_hold (port : Port) (f : Frame) : (offerFrame port f s).hold = s.hold :=
  (congrArg State.hold (offerFrame_frame s port f)).trans rfl
@[simp] theorem offerFrame_inReset (port : Port) (f : Frame) : (offerFrame port f s).inReset = s.inReset :=
  (congrArg State.inReset (offerFrame_frame s port f)).trans rfl
@[simp] theorem offerFrame_authority (port : Port) (f : Frame) : (offerFrame port f s).authority = s.authority :=
  (congrArg State.authority (offerFrame_frame s port f)).trans rfl
@[simp] theorem offerFrame_slide (port : Port) (f : Frame) : (offerFrame port f s).slide = s.slide :=
  (congrArg State.slide (offerFrame_frame s port f)).trans rfl
@[simp] theorem offerFrame_brake (port : Port) (f : Frame) : (offerFrame port f s).brake = s.brake :=
  (congrArg State.brake (offerFrame_frame s port f)).trans rfl
@[simp] theorem offerFrame_blend (port : Port) (f : Frame) : (offerFrame port f s).blend = s.blend :=
  (congrArg State.blend (offerFrame_frame s port f)).trans rfl
@[simp] theorem offerFrame_air (port : Port) (f : Frame) : (offerFrame port f s).air = s.air :=
  (congrArg State.air (offerFrame_frame s port f)).trans rfl
@[simp] theorem offerFrame_management (port : Port) (f : Frame) : (offerFrame port f s).management = s.management :=
  (congrArg State.management (offerFrame_frame s port f)).trans rfl
@[simp] theorem offerFrame_tables (port : Port) (f : Frame) : (offerFrame port f s).tables = s.tables :=
  (congrArg State.tables (offerFrame_frame s port f)).trans rfl
@[simp] theorem offerFrame_control (port : Port) (f : Frame) : (offerFrame port f s).control = s.control :=
  (congrArg State.control (offerFrame_frame s port f)).trans rfl
@[simp] theorem offerFrame_pending (port : Port) (f : Frame) : (offerFrame port f s).pending = s.pending :=
  (congrArg State.pending (offerFrame_frame s port f)).trans rfl
@[simp] theorem offerFrame_choice (port : Port) (f : Frame) : (offerFrame port f s).choice = s.choice :=
  (congrArg State.choice (offerFrame_frame s port f)).trans rfl
@[simp] theorem offerFrame_own (port : Port) (f : Frame) : (offerFrame port f s).link.own = s.link.own :=
  (congrArg (fun x : State => x.link.own) (offerFrame_frame s port f)).trans rfl
@[simp] theorem offerFrame_nodes (port : Port) (f : Frame) : (offerFrame port f s).link.nodes = s.link.nodes :=
  (congrArg (fun x : State => x.link.nodes) (offerFrame_frame s port f)).trans rfl
@[simp] theorem offerFrame_ePort (port : Port) (f : Frame) : (offerFrame port f s).link.ePort = s.link.ePort :=
  (congrArg (fun x : State => x.link.ePort) (offerFrame_frame s port f)).trans rfl
@[simp] theorem offerFrame_inputs (port : Port) (f : Frame) : (offerFrame port f s).lines.inputs = s.lines.inputs :=
  (congrArg (fun x : State => x.lines.inputs) (offerFrame_frame s port f)).trans rfl

/-! ## Flags and kept notices -/

theorem trigger_flagsRaised (kind : TriggerKind) : FlagsRaised [] [.incidentLost] s (trigger kind s) := by
  have hr : ∀ (r : Recorder) (v : State),
      v.lines.flags = (raise .incidentLost { s with recorder := r }).lines.flags →
      FlagsRaised [] [.incidentLost] s v := by
    intro r v hv g
    have h : flagSet v g = (flagSet s g || decide (g = .incidentLost)) := by
      have := flagSet_raise { s with recorder := r } .incidentLost g
      simp only [flagSet, ← hv] at this ⊢
      exact this
    simp only [h, Bool.or_eq_true, decide_eq_true_eq, List.not_mem_nil, List.mem_singleton]
    tauto
  have hs : FlagsRaised [] [.incidentLost] s s := (FlagsRaised.refl s).weaken (by simp)
  unfold trigger
  rcases deliverTrigger_cases s kind none none with ⟨_, h⟩ | ⟨_, _, ⟨_, h⟩ | ⟨i, _, h⟩⟩ <;> rw [h]
  · exact hs
  · unfold openIncident
    dsimp only
    split
    · exact hr { s.recorder with lostCount := bump16 s.recorder.lostCount } _ rfl
    · split
      · exact hs
      · split
        · exact hr { s.recorder with overwrites := bump16 s.recorder.overwrites } _ rfl
        · exact hr { s.recorder with lostCount := bump16 s.recorder.lostCount } _ rfl
  · exact hs

theorem trigger_deferred (kind : TriggerKind) (hd : s.deferred = none) : (trigger kind s).deferred = none := by
  unfold trigger
  rcases deliverTrigger_cases s kind none none with ⟨_, h⟩ | ⟨_, _, ⟨_, h⟩ | ⟨i, _, h⟩⟩ <;> rw [h]
  · exact hd
  · unfold openIncident
    dsimp only
    split
    · exact raise_deferred { s with recorder := { s.recorder with lostCount := bump16 s.recorder.lostCount } } _ hd
    · split
      · exact hd
      · split
        · exact raise_deferred { s with recorder := { s.recorder with overwrites := bump16 s.recorder.overwrites } } _ hd
        · exact raise_deferred { s with recorder := { s.recorder with lostCount := bump16 s.recorder.lostCount } } _ hd
  · exact hd

/-! ## A trigger after the rise of a flag -/

theorem countOverwrite_eq : ∃ t, countOverwrite s = withNotices
    { s with recorder := { s.recorder with overwrites := bump16 s.recorder.overwrites } } t :=
  ⟨_, raise_frame _ _⟩

theorem loseIncident_recorder : (loseIncident s).recorder
    = { s.recorder with lostCount := bump16 s.recorder.lostCount } := by simp [loseIncident]

theorem openIncident_withNotices (t : State) (kind : TriggerKind) (frame : Option Capture) (have_ : Option Nat) :
    (openIncident (withNotices s t) kind frame have_).1.recorder = (openIncident s kind frame have_).1.recorder := by
  have hr : (withNotices s t).recorder = s.recorder := rfl
  unfold openIncident
  simp only [hr]
  by_cases h0 : s.recorder.nextSeq = 0
  · simp [h0, loseIncident_recorder, hr]
  · simp only [h0, if_false]
    cases freeSlot s.recorder with
    | some i => rfl
    | none =>
      cases victimSlot s.recorder with
      | none => simp [loseIncident_recorder, hr]
      | some i =>
        obtain ⟨u, hu⟩ := countOverwrite_eq s
        obtain ⟨v, hv⟩ := countOverwrite_eq (withNotices s t)
        simp only [hu, hv]
        rfl

/-- A flag that rises before a trigger, with its notice, leaves what the trigger does to the Recorder. -/
theorem deliverTrigger_withNotices (t : State) (kind : TriggerKind) (frame : Option Capture) (have_ : Option Nat) :
    (deliverTrigger (withNotices s t) kind frame have_).1.recorder
      = (deliverTrigger s kind frame have_).1.recorder := by
  have hc : (withNotices s t).control = s.control := rfl
  have ht : (withNotices s t).tables = s.tables := rfl
  have hr : (withNotices s t).recorder = s.recorder := rfl
  unfold deliverTrigger
  simp only [hc, ht, hr]
  by_cases h : (decide (s.control.mode = .service) && triggerEnabled s.tables kind) = true
  · simp only [h, if_true]
    cases fillingSlot s.recorder with
    | none => exact openIncident_withNotices s t kind frame have_
    | some i => rfl
  · rw [if_neg h, if_neg h]; rfl

/-- What a trigger does to INCIDENT_LOST when another flag has risen before it. -/
theorem deliverTrigger_lost (f : Flag) (hf : f ≠ .incidentLost) (kind : TriggerKind) (frame : Option Capture)
    (have_ : Option Nat) :
    flagSet (deliverTrigger (raise f s) kind frame have_).1 .incidentLost
      = flagSet (deliverTrigger s kind frame have_).1 .incidentLost := by
  have hl : flagSet (raise f s) .incidentLost = flagSet s .incidentLost := by simp [flagSet_raise, hf.symm]
  have hx : ∀ (r : Recorder) (u : State), flagSet { u with recorder := r } .incidentLost = flagSet u .incidentLost :=
    fun _ _ => rfl
  unfold deliverTrigger
  simp only [raise_control, raise_tables, raise_recorder]
  by_cases h : (decide (s.control.mode = .service) && triggerEnabled s.tables kind) = true
  · simp only [h, if_true]
    cases fillingSlot s.recorder with
    | some i => exact hl
    | none =>
      show flagSet (openIncident (raise f s) kind frame have_).1 .incidentLost
        = flagSet (openIncident s kind frame have_).1 .incidentLost
      unfold openIncident
      simp only [raise_recorder]
      by_cases h0 : s.recorder.nextSeq = 0
      · simp [h0, loseIncident, flagSet_raise_self]
      · simp only [h0, if_false]
        cases freeSlot s.recorder with
        | some i => exact hl
        | none =>
          cases victimSlot s.recorder with
          | none => simp [loseIncident, flagSet_raise_self]
          | some i =>
            have ho : ∀ u, flagSet (openIn (countOverwrite u) i kind frame have_).1 .incidentLost = true := fun u =>
              flagSet_raise_self { u with recorder := { u.recorder with overwrites := bump16 u.recorder.overwrites } }
                .incidentLost
            exact (ho _).trans (ho _).symm
  · rw [if_neg h, if_neg h]; exact hl

/-! ## The shape of an event that ends in a rise, or in a rise and a trigger -/

theorem syncOutputs_withTriggers {a t : State} (h : t = withTriggers a t) :
    syncOutputs t = withTriggers a (syncOutputs t) :=
  calc syncOutputs t = syncOutputs (withTriggers a t) := congrArg _ h
    _ = withTriggers a (syncOutputs (withTriggers a t)) := rfl
    _ = withTriggers a (syncOutputs t) := by rw [← h]

theorem syncOutputs_withNotices {a t : State} (h : t = withNotices a t) :
    syncOutputs t = withNotices a (syncOutputs t) :=
  calc syncOutputs t = syncOutputs (withNotices a t) := congrArg _ h
    _ = withNotices a (syncOutputs (withNotices a t)) := rfl
    _ = withNotices a (syncOutputs t) := by rw [← h]

theorem raisedFrom_self : RaisedFrom [] [] s (syncOutputs s) :=
  ⟨rfl, FlagsRaised.refl s, NoticesOnly.refl _, rfl, id⟩

/-- An event that ends with the rise of a flag. -/
theorem raisedFrom_raise (f : Flag) : RaisedFrom [f] [] s (syncOutputs (raise f s)) :=
  ⟨by rw [raise_frame]; rfl, raise_flagsRaised s f, raise_noticesOnly s f, rfl, raise_deferred s f⟩

/-- An event that ends with the rise of a flag and the delivery of a trigger. -/
theorem triggeredFrom_raise (f : Flag) (kind : TriggerKind) :
    TriggeredFrom [f] [.incidentLost] s (syncOutputs (trigger kind (raise f s))) := by
  refine ⟨?_, (raise_flagsRaised s f).trans (trigger_flagsRaised _ kind),
    (raise_noticesOnly s f).trans (trigger_noticesOnly _ kind), rfl,
    fun h => trigger_deferred _ kind (raise_deferred s f h), fun h => ?_⟩
  · exact syncOutputs_withTriggers
      (withTriggers_trans (withTriggers_of_notices (raise_frame s f)) (trigger_frame (raise f s) kind))
  · have hm : (raise f s).control.mode ≠ .service := by simpa using h
    rw [trigger_ignored _ kind hm]
    simp

/-- An event that ends with the rise of a flag and the delivery of its trigger. -/
theorem triggeredBy_raise (f : Flag) (hf : f ≠ .incidentLost) (kind : TriggerKind) :
    TriggeredBy kind [f] s (syncOutputs (trigger kind (raise f s))) := by
  refine ⟨triggeredFrom_raise s f kind, ?_, deliverTrigger_lost s f hf kind none none⟩
  show (deliverTrigger (raise f s) kind none none).1.recorder = _
  rw [raise_frame]
  exact deliverTrigger_withNotices s _ kind none none

end Sys2Proof.Machine
end

