-- ==== Sys2Proof/Laws/Management.lean ====
section
/-! SUPPORT. A request's way through the Management Unit (R158 to R164), said once: what the taking of a request
in its arrival event comes to, for every command that is answered. -/

namespace Sys2Proof.Machine

variable (s : State)

/-! ## Codes -/

theorem commandOfCode_commandCode (k : Command) : commandOfCode (commandCode k) = some k := by
  cases k <;> rfl

/-! ## Places -/

theorem slotFor_a (m : Management) (h : slotFor m = some false) :
    m.bufA.state = .free ∧ (m.bufB.state = .free ∨ m.bufB.state = .inFlight) := by
  unfold slotFor at h
  split at h
  · assumption
  · split at h <;> cases h

theorem slotFor_b (m : Management) (h : slotFor m = some true) :
    m.bufA.state = .inFlight ∧ m.bufB.state = .free := by
  unfold slotFor at h
  split at h
  · cases h
  · split at h
    · assumption
    · cases h

/-- The place is one of the two. -/
theorem slotFor_cases (m : Management) (h : slotFor m ≠ none) : slotFor m = some false ∨ slotFor m = some true := by
  cases hm : slotFor m with
  | none => exact absurd hm h
  | some b => cases b <;> simp

/-- The placed buffer stands where it was placed. -/
theorem placed_buffer (m : Management) (b : Buffer) (isB : Bool) (h : slotFor m = some isB) :
    (if isB then (placed m b).bufB else (placed m b).bufA) = b := by
  cases isB <;> simp [placed, h]

/-- With the place freed again, nothing awaits service. -/
theorem oldestAwaiting_placed_free (m : Management) (h : slotFor m ≠ none) :
    oldestAwaiting (placed m Buffer.free) = none := by
  rcases slotFor_cases m h with hs | hs
  · obtain ⟨_, hb | hb⟩ := slotFor_a m hs <;>
      simp [placed, hs, oldestAwaiting, awaits, Buffer.free, hb]
  · obtain ⟨ha, _⟩ := slotFor_b m hs
    simp [placed, hs, oldestAwaiting, awaits, Buffer.free, ha]

/-- A waiting request in the place is the oldest held one. -/
theorem oldestAwaiting_placed (m : Management) (b : Buffer) (isB : Bool) (h : slotFor m = some isB)
    (hb : b.state = .waiting) : oldestAwaiting (placed m b) = some isB := by
  cases isB
  · obtain ⟨_, hc | hc⟩ := slotFor_a m h <;> simp [placed, h, oldestAwaiting, awaits, hb, hc]
  · obtain ⟨ha, _⟩ := slotFor_b m h
    simp [placed, h, oldestAwaiting, awaits, hb, ha]

/-! ## The response -/

/-- With room, a response enters the C-port queue. -/
theorem enterResponse_room (f : OriginatedFrame) (hf : f.cls = Config.clsMgmtResponse)
    (hr : s.link.cPort.originated.length < Config.originatedCapacity) :
    enterResponse f s = opportunityIfIdle
      (setPort s .c { s.link.cPort with originated := s.link.cPort.originated ++ [f] }) .c := by
  have hs : supersedes .c f.cls = false := by rw [hf]; rfl
  simp [enterResponse, enterOriginated, queueOriginated, getPort, hs, hr]

theorem enterResponse_link (f : OriginatedFrame) :
    enterResponse f s = { s with link := { s.link with cPort := (enterResponse f s).link.cPort } } := by
  unfold enterResponse
  rcases enterOriginated_cases s .c f with ⟨q, _, h⟩ | ⟨_, h⟩ <;> rw [h]
  · simp only [Option.getD_some, opportunityIfIdle_eq]; rfl
  · rfl

@[simp] theorem enterResponse_management (f : OriginatedFrame) : (enterResponse f s).management = s.management := by
  rw [enterResponse_link]
@[simp] theorem enterResponse_deferred (f : OriginatedFrame) : (enterResponse f s).deferred = s.deferred := by
  rw [enterResponse_link]

/-! ## Taking a request in its arrival event -/

/-- A request that arrives at a ready part stands in its place and is taken (R158, R160). -/
theorem handRequest_ready (src : Byte) (payload : List Byte) (isB : Bool)
    (hs : slotFor s.management = some isB)
    (hr : s.link.cPort.originated.length < Config.originatedCapacity) :
    handRequest [] src payload s = serve 1 [] (takeRequest [] isB
      { s with management := placed s.management (waitingBuffer src payload) }) := by
  have hw : (waitingBuffer src payload).state = .waiting := rfl
  have ho := oldestAwaiting_placed s.management (waitingBuffer src payload) isB hs hw
  have hg : (getBuffer { s with management := placed s.management (waitingBuffer src payload) } isB).state
      = .waiting := by
    have h := placed_buffer s.management (waitingBuffer src payload) isB hs
    unfold getBuffer
    rw [h]; rfl
  have hserve : serve 2 [] { s with management := placed s.management (waitingBuffer src payload) }
      = serve 1 [] (takeRequest [] isB { s with management := placed s.management (waitingBuffer src payload) }) := by
    simp [serve, ho, cRoom, hr, hg]
  rw [← hserve]
  unfold handRequest
  cases isB
  · obtain ⟨ha, _⟩ := slotFor_a _ hs
    simp [ha, placed, hs]
  · obtain ⟨ha, hb⟩ := slotFor_b _ hs
    simp [ha, hb, placed, hs]

/-- What judging a well-formed and permitted request comes to: its owner's decision (R162). -/
theorem judge_own (u : State) (src tag : Byte) (k : Command) (args : List Byte)
    (hp : permitted u k src = true) (ha : argsFit k args = true) (hc : cabTest u k src args = true) :
    judge (waitingBuffer src (requestPayload tag k args)) u = carryOut k args u := by
  simp [judge, waitingBuffer, requestPayload, commandOfCode_commandCode, hp, ha, hc]

/-- The response to a well-formed request, spelled out (R164). -/
theorem responseTo_request (src tag : Byte) (k : Command) (args : List Byte) (r : ResultCode) (data : List Byte) :
    responseTo (waitingBuffer src (requestPayload tag k args)) r data = responseFrame src tag k r data := by
  simp [responseTo, waitingBuffer, requestPayload, responseFrame, q1, be]

/-- A command that its owner answers, whose effect leaves the C-port and the buffers alone: the response enters,
the buffer is freed, and then the notices of the event follow (R164, R172). -/
theorem request_answered (src tag : Byte) (k : Command) (args : List Byte) (s1 : State) (r : ResultCode)
    (data : List Byte) (hr : Ready s) (hm : MayIssue s src k args) (ha : argsFit k args = true)
    (hc : carryOut k args (underRequest s src (requestPayload tag k args)) = (s1, .answer r data))
    (h1 : s1.management = placed s.management (waitingBuffer src (requestPayload tag k args))) :
    request src tag k args s = .next (syncOutputs (flushNotices
      { enterResponse (responseFrame src tag k r data) s1 with
        management := placed s.management Buffer.free })) := by
  obtain ⟨hl, hs, hq⟩ := hr
  obtain ⟨isB, hs⟩ := Option.ne_none_iff_exists'.mp hs
  have hj := judge_own (underRequest s src (requestPayload tag k args)) src tag k args hm.1 ha hm.2
  have hb := placed_buffer s.management (waitingBuffer src (requestPayload tag k args)) isB hs
  have hfree : ∀ u : State, u.management = placed s.management (waitingBuffer src (requestPayload tag k args)) →
      setBuffer u isB Buffer.free = { u with management := placed s.management Buffer.free } := by
    intro u hu
    cases isB <;> simp [setBuffer, hu, placed, hs]
  unfold request
  rw [event_live _ _ hl, handRequest_ready _ _ _ _ hs hq]
  unfold takeRequest getBuffer
  simp only [underRequest] at hj hc
  dsimp only
  rw [hb, hj, hc]
  simp only [responseTo_request]
  rw [hfree _ (by simpa using h1)]
  unfold serve
  rw [flushNotices_management, oldestAwaiting_placed_free _ (by simp [hs])]
  rfl

/-- A command that only reads, or that its owner refuses: the part is as before, answered. -/
theorem request_unchanged (src tag : Byte) (k : Command) (args : List Byte) (r : ResultCode) (data : List Byte)
    (hr : Ready s) (hm : MayIssue s src k args) (ha : argsFit k args = true)
    (hc : carryOut k args (underRequest s src (requestPayload tag k args))
      = (underRequest s src (requestPayload tag k args), .answer r data)) :
    request src tag k args s = .next (answered s (responseFrame src tag k r data)) := by
  rw [request_answered s src tag k args _ r data hr hm ha hc rfl]
  have hroom := hr.2.2
  unfold answered
  rw [enterResponse_room _ _ rfl (by exact hroom), enterResponse_room _ _ rfl hroom]
  simp only [opportunityIfIdle_eq]
  rfl

end Sys2Proof.Machine
end

