-- ==== Sys2Proof/Laws/Slide.lean ====
section
/-! SUPPORT. What an axle's transition at a sample can do, said once. -/

namespace Sys2Proof.Machine

/-! ## What an axle's transition leaves (R34 to R42) -/

/-- What a sample measures of an axle, and its isolation cause. -/
def AxleRecord.measured (a : AxleRecord) :
    Option Nat × Nat × Option Nat × Int × Nat × Bool × Option IsolationCause :=
  (a.circumference, a.v, a.vPrev, a.decel, a.slip, a.lastValid, a.isolation)

theorem toLocked_measured (a : AxleRecord) : (toLocked a).measured = a.measured := by
  unfold toLocked; dsimp only; split <;> rfl

theorem lockTimerStep_measured (ts : Tables) (vRef : Nat) (a : AxleRecord) :
    (lockTimerStep ts vRef a).measured = a.measured := by
  unfold lockTimerStep; repeat' split
  all_goals rfl

theorem slideStep_measured (ts : Tables) (t1 t2 : Nat) (isBraked : Bool) (a : AxleRecord) :
    (slideStep ts t1 t2 isBraked a).measured = a.measured := by
  unfold slideStep; repeat' split
  all_goals rfl

theorem inhibitedStep_measured (ts : Tables) (t1 : Nat) (a : AxleRecord) :
    (inhibitedStep ts t1 a).measured = a.measured := by
  unfold inhibitedStep; repeat' split
  all_goals rfl

/-- A transition leaves everything measured, and the isolation cause. -/
theorem axleStep_measured (ts : Tables) (vRef t1 t2 : Nat) (isBraked valid : Bool) (a : AxleRecord) :
    (axleStep ts vRef t1 t2 isBraked valid a).1.measured = a.measured := by
  have h := lockTimerStep_measured ts vRef { a with faultCount := 0 }
  unfold axleStep
  dsimp only
  repeat' split
  · rfl
  · rfl
  · rfl
  · rfl
  · exact (toLocked_measured _).trans h
  · exact (inhibitedStep_measured ts t1 _).trans h
  · exact (slideStep_measured ts t1 t2 isBraked _).trans h
  · rfl
  · rfl

end Sys2Proof.Machine
end

