-- ==== Sys2Proof/WellFormed.lean ====
section
/-! DEFINITION. Which commands can occur: the operands that some frame, pin or request can carry. -/

namespace Sys2Proof

/-- A payload fits a frame (chapter 11: 0 to 240 bytes). -/
def payloadFits (p : List Byte) : Bool := p.length ≤ Config.maxPayload

/-- A command whose operands can be carried by the frame, pin or request it stands for.  A TABLE_WRITE
carries at most 234 value bytes (chapter 11); a frame arrives only after a byte of it was received
(R127: an arrival follows its last byte). -/
def Instr.wf : Instr → Bool
  | .frameArrival _ bytes => bytes.length ≠ 0
  | .demandFrame _ _ f => payloadFits f.payload
  | .timeFrame p => payloadFits p
  | .axleSample p => payloadFits p
  | .radarSample p => payloadFits p
  | .tractionStatus p => payloadFits p
  | .valveStatus _ p => payloadFits p
  | .mgmtRequest _ p => payloadFits p
  | .tableWrite _ _ _ _ _ values => values.length ≤ 234
  | .resetAssert _ | .powerOnReset _ | .sourceSwitchComplete _ | .autoSwitch _
  | .emergencyLatchClear _ _ _ | .heldResponseEntry | .statusGet _ _ _ | .nodeStatusGet _ _ _ _
  | .flagsClear _ _ _ | .modeSet _ _ _ | .validationComplete | .tableRead _ _ _ _ _ | .restart _ _
  | .sourceSelect _ _ _ | .sourceAbort _ _ | .sourceLock _ _ | .dbTripClear _ _ | .axleIsolate _ _ _
  | .axleRestore _ _ _ | .incidentList _ _ | .incidentRead _ _ _ _ _ | .incidentRelease _ _ _ _
  | .incidentMark _ _ | .transmitComplete _ | .noticeReform | .livenessExpiry _ | .holdTimerExpiry
  | .emergencyResetExpiry | .staleTimerExpiry | .episodeTimerExpiry _ | .lockedTimeout _
  | .sandHoldExpiry | .setupTimerExpiry | .idleTimerExpiry | .heatPeriod | .blendPeriod
  | .discretePinChange _ _ | .debounceExpiry _ => true

end Sys2Proof
end

