-- ==== Sys2Proof/Tests/Slice0.lean ====
section
/-! SUPPORT. Tests with results taken from the manual's worked cases and tables, and for each statement a witness
that meets its hypotheses, clause by clause. -/

set_option maxRecDepth 100000

namespace Sys2Proof.Tests

open Sys2Proof Sys2Proof.Machine

/-! ## Ill-formed commands are refused -/

theorem test_wf_empty_arrival : Instr.wf (.frameArrival .c []) = false := by decide
theorem test_wf_long_demand : Instr.wf (.demandFrame .cabA false ⟨255, 10, 33, 0, List.replicate 241 0⟩) = false := by
  decide
theorem test_wf_long_time : Instr.wf (.timeFrame (List.replicate 241 0)) = false := by decide
theorem test_wf_long_axle_sample : Instr.wf (.axleSample (List.replicate 241 0)) = false := by decide
theorem test_wf_long_radar_sample : Instr.wf (.radarSample (List.replicate 241 0)) = false := by decide
theorem test_wf_long_traction : Instr.wf (.tractionStatus (List.replicate 241 0)) = false := by decide
theorem test_wf_long_valve : Instr.wf (.valveStatus .t1 (List.replicate 241 0)) = false := by decide
theorem test_wf_long_request : Instr.wf (.mgmtRequest 60 (List.replicate 241 0)) = false := by decide
theorem test_wf_long_write : Instr.wf (.tableWrite 60 1 2 0 235 (List.replicate 235 0)) = false := by decide
theorem test_wf_longest_write : Instr.wf (.tableWrite 60 1 2 0 117 (List.replicate 234 0)) = true := by decide

/-! ## Functions, from the manual's values -/

/-- R117: the CRC of "123456789" is 10673. -/
theorem test_crc_digits : crc16 [49, 50, 51, 52, 53, 54, 55, 56, 57] = 10673 := by decide
/-- R116: the CRC of no bytes is 65535. -/
theorem test_crc_of_nothing : crc16 [] = 65535 := by decide
/-- R67: the falling segment truncates toward the left value. -/
theorem test_interp_falling : interp [(2000, 80), (3000, 70)] 2499 = 76 ∧ interp [(2000, 80), (3000, 70)] 2500 = 75 := by
  decide
/-- R25. -/
theorem test_circumferences : circumferenceOf 900 = 2827 ∧ circumferenceOf 1100 = 3456 ∧ circumferenceOf 1270 = 3990 := by
  decide
/-- Chapter 4, first worked case: allocation. -/
theorem test_allocation_saturated : waterFill ⟨37, 13, 35, 34, 33, 32⟩ 184 = ⟨37, 13, 35, 34, 33, 32⟩ := by decide
/-- Chapter 4, second worked case: allocation. -/
theorem test_allocation_unsaturated : waterFill ⟨62, 60, 59, 57, 56, 37⟩ 260 = ⟨45, 45, 45, 44, 44, 37⟩ := by decide
/-- R170: write ranges at their edges. -/
theorem test_ranges :
    entryInRange .blend 1 [0] = false ∧ entryInRange .blend 1 [1] = true ∧ entryInRange .blend 1 [120] = true
    ∧ entryInRange .blend 1 [121] = false ∧ entryInRange .heat 0 [4294967295] = false
    ∧ entryInRange .nodes 0 [0, 0, 0, 0, 0] = true ∧ entryInRange .nodes 0 [1, 0, 0, 1, 0] = false
    ∧ entryInRange .nodes 0 [1, 254, 1, 12, 5000] = true ∧ entryInRange .nodes 0 [1, 10, 0, 1, 19] = false
    ∧ entryInRange .reporting 1 [524287] = true ∧ entryInRange .reporting 1 [524288] = false := by decide

/-! ## Small states -/

/-- The state a command answers. -/
def after (r : Result) : State :=
  match r with
  | .next t => t
  | .fault _ | .refused _ => State.reset

/-- Bytes from numbers. -/
def bytes (l : List Nat) : List Byte := l.map (BitVec.ofNat 8)

/-- The configuration of the worked cases of chapter 4, with the nodes of chapter 10's worked sequence. -/
def tables : Tables := { Tables.reset with
  nodes := ⟨[[1, 10, 0, 1, 200], [1, 11, 0, 2, 200], [1, 20, 0, 4, 1000], [1, 60, 0, 6, 0], [1, 50, 1, 7, 100],
    [1, 51, 1, 8, 200], [1, 52, 1, 9, 200], [1, 53, 1, 10, 100], [1, 54, 1, 11, 0], [1, 31, 0, 5, 0],
    [1, 12, 0, 3, 100]], true⟩
  classSets := ⟨List.replicate 512 [0], true⟩
  handle := ⟨List.replicate 160 [0] ++ [[620]] ++ List.replicate 95 [0], true⟩
  auto := ⟨[[4, 0], [0, 0], [40, 0], [100, 200], [170, 300]], true⟩
  dbCurve := ⟨[[2, 0], [2000, 80], [3000, 70]], true⟩
  adhPlain := ⟨[[2, 0], [2000, 200], [3000, 190]], true⟩
  adhSanded := ⟨[[2, 0], [2000, 200], [3000, 190]], true⟩
  axle := ⟨[[1100], [1100], [1100], [1100], [1100], [1100], [1060], [1030], [1010], [990], [970], [940],
    [1000], [1000], [1000], [1000], [1000], [1000]], true⟩
  blend := ⟨[[420], [5], [10], [30], [200], [450], [400], [170], [300], [250]], true⟩
  heat := ⟨[[200000000], [300000000], [23], [4]], true⟩
  db := ⟨[[1000], [3000], [700], [850], [500]], true⟩
  slide := ⟨[[200], [150], [50], [1], [100], [250], [30], [80], [400], [3], [350], [100], [3000], [300], [100],
    [1000], [400], [5000], [2], [2000]], true⟩
  source := ⟨[[1], [3], [2000], [30000]], true⟩
  recorder := ⟨[[240], [2], [8388607], [4194304], [0]], true⟩
  patterns := ⟨List.replicate 8 [0, 0, 0, 0, 0], true⟩
  discrete := ⟨[[0, 0, 1], [0, 30, 0], [1, 0, 3], [0, 0, 0], [0, 0, 2], [0, 0, 0]], true⟩
  reporting := ⟨[[31], [262144], [31]], true⟩ }

/-- In SERVICE under that configuration, every axle with its circumference. -/
def service : State := { State.reset with
  tables := tables
  control := { Control.reset with mode := .service }
  slide := { Slide.reset with axles := Six.all { AxleRecord.reset with circumference := some 3456 } } }

/-- In INIT under that configuration. -/
def fresh : State := { service with control := Control.reset }

/-- A state with a changed Demand Authority Unit. -/
def withAuthority (s : State) (f : Authority → Authority) : State := { s with authority := f s.authority }

/-- A state with a changed Slide Control Unit. -/
def withSlide (s : State) (f : Slide → Slide) : State := { s with slide := f s.slide }

/-- A state with a changed Dynamic Brake Channel. -/
def withBrake (s : State) (f : Brake → Brake) : State := { s with brake := f s.brake }

/-- A state with a changed Recorder. -/
def withRecorder (s : State) (f : Recorder → Recorder) : State := { s with recorder := f s.recorder }

/-- A state with a changed C-port. -/
def withC (s : State) (f : PortState → PortState) : State := setPort s .c (f s.link.cPort)

/-- A state with a changed input record. -/
def withLine (s : State) (n : Fin 6) (f : InputRecord → InputRecord) : State := setInput s n (f (s.lines.inputs.get n))

/-- A state with a changed axle record. -/
def withAxle (s : State) (n : Fin 6) (f : AxleRecord → AxleRecord) : State := setAxle s n (f (s.slide.axles.get n))

/-- A DEMAND frame of CAB_A. -/
def demand (reduction independent handle flags direction : Nat) : Frame :=
  ⟨255, 10, 0x21, 1, bytes [reduction, independent / 256, independent % 256, handle, flags, direction]⟩

/-- CAB_A VALID and active under a demand, as received. -/
def driven (s : State) (reduction handle : Nat) : State := withAuthority s (fun a => { a with
  monitors := a.monitors.set .cabA ⟨.valid, 3⟩
  good := a.good.set .cabA (some ⟨⟨reduction, 0, handle, false, false, false, 1⟩, demand reduction 0 handle 0 1⟩)
  active := .source .cabA
  phase := .none
  autoMark := false })

/-- The first worked case of chapter 4, its blend period due. -/
def case1 : State :=
  let s := withAxle (driven service 120 0) 1 (fun a => { a with state := .relief, f := 300 })
  { s with
    slide := { s.slide with vRef := 2500, speedState := .valid, staleTimer := .running 0 }
    brake := { s.brake with state := .active, g := 600 }
    blend := { s.blend with e := ⟨37, 28, 35, 34, 33, 32⟩, timer := .running 20 } }

/-- The second worked case of chapter 4, its blend period due. -/
def case2 : State :=
  let s := withAxle (driven service 60 160) 5 (fun a => { a with state := .hold, f := 500 })
  { s with
    slide := { s.slide with vRef := 2500, speedState := .valid, staleTimer := .running 0 }
    brake := { s.brake with state := .active }
    blend := { s.blend with e := ⟨38, 38, 38, 38, 38, 37⟩, timer := .running 20 } }

/-! ## Commands, from the manual's worked cases and rules -/

/-- Chapter 4, first case: the efforts and the pressures. -/
theorem test_blend_saturated : let t := after (exec .blendPeriod case1)
    t.blend.e = ⟨37, 13, 35, 34, 33, 32⟩ ∧ t.blend.p1 = 33 ∧ t.blend.p2 = 110 := by decide
/-- Chapter 4, second case: the efforts and the pressures. -/
theorem test_blend_unsaturated : let t := after (exec .blendPeriod case2)
    t.blend.e = ⟨43, 43, 43, 43, 43, 37⟩ ∧ t.blend.p1 = 0 ∧ t.blend.p2 = 0 := by decide

/-- The payload of the frame that the C-port sends. -/
def reply (s : State) : List Byte :=
  match s.link.cPort.transmitter with
  | .sending _ b _ => (b.drop 5).take (b.length - 7)
  | .idle => []

/-- R182: a pulse of 9 µs is ignored, one of 10 µs holds the part. -/
theorem test_reset_pulse :
    (after (exec (.resetAssert (.pinLow 9)) service)).inReset = false
    ∧ (after (exec (.resetAssert (.pinLow 10)) service)).inReset = true := by decide
/-- R132: straps 3 give address 243, as in the worked sequence of chapter 10. -/
theorem test_power_on_straps : (after (exec (.powerOnReset (.risingEdge 3)) service)).link.own = 243 := by decide

/-- R182: while RESETn is low the part stays held past the end of the power-up hold. -/
theorem test_overlapping_holds :
    let low := after (exec (.resetAssert (.pinLow 10)) (after (exec (.resetAssert .powerUp) service)))
    let supplied := after (exec (.powerOnReset (.supplyInRange 3)) low)
    supplied.inReset = true ∧ (after (exec (.powerOnReset (.risingEdge 5)) supplied)).inReset = false
    ∧ (after (exec (.powerOnReset (.risingEdge 5)) supplied)).link.own = 245 := by decide
/-- R127, R128: six bytes are a RUNT, counted, with FRAME_ERROR. -/
theorem test_runt : let t := after (exec (.frameArrival .e (bytes [1, 2, 3, 4, 5, 6])) fresh)
    t.link.ePort.counters.runt = 1 ∧ flagSet t .frameError = true := by decide
/-- R133, R24: a frame of the concentrator reaches the Slide Control Unit. -/
theorem test_axle_sample_arrives :
    (after (exec (.frameArrival .e (wholeFrame ⟨255, 50, 0x61, 7, bytes [7, 208, 7, 208, 7, 208, 7, 208, 7, 208, 7,
      208, 63]⟩)) fresh)).slide.vRef = 2488 := by decide
/-- R2: the third frame in order makes the source VALID under ACQUIRE_COUNT 3. -/
theorem test_demand_acquires : let one := fun s => after (exec (.demandFrame .cabA false (demand 60 0 0 0 1)) s)
    (one (one fresh)).authority.monitors.cabA = ⟨.acquiring, 2⟩
    ∧ (one (one (one fresh))).authority.monitors.cabA.state = .valid := by decide
/-- R16: the preferred source becomes active at its VALID transition. -/
theorem test_auto_switch :
    (after (exec (.autoSwitch .cabA) (withAuthority fresh (fun a => { a with
      monitors := a.monitors.set .cabA ⟨.valid, 3⟩ })))).authority.active = .source .cabA := by decide
/-- R8: a pending switch completes at its VALID target. -/
theorem test_switch_completes :
    (after (exec (.sourceSwitchComplete .cabB) (withAuthority fresh (fun a => { a with
      monitors := a.monitors.set .cabB ⟨.valid, 3⟩, pendingSwitch := some .cabB })))).authority.active
      = .source .cabB := by decide
/-- R21: with the timer expired, full service from the active source clears the latch; 169 kPa does not. -/
theorem test_latch_clears : let s := withAuthority (driven fresh 0 0) (fun a => { a with
      latch := true, resetTimer := .expired })
    (after (exec (.emergencyLatchClear .cabA false 170) s)).authority.latch = false
    ∧ (after (exec (.emergencyLatchClear .cabA false 169) s)).authority.latch = true := by decide
/-- R134. -/
theorem test_time : (after (exec (.timeFrame (bytes [0, 0, 1, 2])) fresh)).control.timeBase = some ⟨258, 0⟩ := by decide
/-- R26: 1700 and 65535 pulses give 2115 and the clamp 20000. -/
theorem test_axle_speeds :
    let t := after (exec (.axleSample (bytes [6, 164, 255, 255, 0, 0, 0, 0, 0, 0, 0, 0, 63])) fresh)
    t.slide.axles.a1.v = 2115 ∧ t.slide.axles.a2.v = 20000 := by decide
/-- R31. -/
theorem test_radar : (after (exec (.radarSample (bytes [7, 208, 1])) fresh)).slide.radar = some ⟨2000, true, 0⟩ := by
  decide
/-- R49, R51: a ready status in SETUP makes ACTIVE, and an effort is clamped to 120 kN. -/
theorem test_traction_ready :
    let t := after (exec (.tractionStatus (bytes [255, 10, 0, 0, 0, 0, 1, 1])) (withBrake service (fun b => { b with
      state := .setup, setupTimer := .running 20 })))
    t.brake.state = .active ∧ t.brake.aLast = 130 := by decide
/-- Chapter 5, worked sequence: 1200 kPa with a fault is stored as 1000, LOST with cause FAULT. -/
theorem test_valve_fault : let t := after (exec (.valveStatus .t1 (bytes [4, 176, 1])) service)
    t.air.truck1 = ⟨true, 1000, true, .fault⟩ ∧ flagSet t .valveLost = true := by decide
/-- R162: a request without a command code is answered BAD_ARG, an unknown code UNKNOWN_COMMAND. -/
theorem test_request_refused : reply (after (exec (.mgmtRequest 60 [9]) service)) = [9, 0, 5]
    ∧ reply (after (exec (.mgmtRequest 60 [9, 18]) service)) = [9, 18, 6] := by decide
/-- R163: an event recorder may not write. -/
theorem test_request_not_permitted : reply (after (exec (.mgmtRequest 31 [9, 5]) service)) = [9, 5, 3] := by decide
/-- R160: a HELD response enters when there is room. -/
theorem test_held_enters : reply (after (exec .heldResponseEntry { fresh with management := { Management.reset with
    bufA := { waitingBuffer 60 [7, 4, 2] with state := .held, response := some ⟨60, 0x41, [7, 4, 0, 2]⟩ } } }))
    = [7, 4, 0, 2] := by decide
/-- R166: a section that does not exist is BAD_ARG. -/
theorem test_status_section : reply (after (exec (.statusGet 60 1 10) service)) = [1, 1, 5] := by decide
/-- Chapter 11: section AIR is 15 bytes. -/
theorem test_status_air : reply (after (exec (.statusGet 60 1 6) service)) = 1 :: 1 :: List.replicate 16 0 := by decide
/-- R167: index plus count above 32 is BAD_ARG; an unused entry reports its index and 0. -/
theorem test_node_status : reply (after (exec (.nodeStatusGet 60 1 31 2) service)) = [1, 2, 5]
    ∧ reply (after (exec (.nodeStatusGet 60 1 31 1) service)) = [1, 2, 0, 31, 0] := by decide
/-- R153: a mask beyond the 25 positions is BAD_ARG; DB_TRIP is cleared and FAULT released. -/
theorem test_flags_clear : let s := { service with lines := { service.lines with flags := 256 } }
    reply (after (exec (.flagsClear 60 1 33554432) s)) = [1, 3, 5]
    ∧ (after (exec (.flagsClear 60 1 256) s)).lines.flags = 0
    ∧ (after (exec (.flagsClear 60 1 256) s)).lines.outputs.fault = false := by decide
/-- R96, R174: a part just in SERVICE fails every item of the secure check. -/
theorem test_mode_not_secured : reply (after (exec (.modeSet 60 1 1) service)) = [1, 4, 11, 31] := by decide
/-- R174: INIT is left only for SERVICE, by a validation. -/
theorem test_mode_from_init : reply (after (exec (.modeSet 60 1 1) fresh)) = [1, 4, 4]
    ∧ (after (exec (.modeSet 60 1 2) fresh)).control.validation = some 0 := by decide
/-- R177: with no table LOADED the walk stops at NODES, entry none, NOT_LOADED. -/
theorem test_validation_fails :
    reply (after (exec .validationComplete (after (exec (.modeSet 60 1 2) State.reset))))
      = [1, 4, 13, 0, 255, 255, 0] := by decide
/-- R171: RAMP_EMERG 0 is out of range, and nothing is written (worked sequence of chapter 10). -/
theorem test_write_refused :
    let t := after (exec (.tableWrite 60 1 8 0 4 (bytes [1, 164, 0, 5, 0, 10, 0, 0])) State.reset)
    reply t = [1, 5, 5] ∧ t.tables.blend.loaded = false := by decide
/-- R171: a good write sets LOADED and answers its three numbers. -/
theorem test_write_taken :
    let t := after (exec (.tableWrite 60 1 8 3 1 (bytes [0, 30])) State.reset)
    reply t = [1, 5, 0, 8, 0, 3, 1] ∧ t.tables.blend.loaded = true ∧ tableField t.tables.blend 3 0 = 30 := by decide
/-- R173: the answer carries the LOADED mark and the values. -/
theorem test_table_read : reply (after (exec (.tableRead 60 1 8 5 1) service)) = [1, 6, 0, 8, 0, 5, 1, 1, 1, 194] := by
  decide
/-- R179: RESTART is refused in SERVICE; in INIT it keeps the lock. -/
theorem test_restart : reply (after (exec (.restart 60 1) service)) = [1, 17, 4]
    ∧ (after (exec (.restart 60 1) (withAuthority fresh (fun a => { a with lock := some .dp })))).authority.lock
      = some .dp := by decide
/-- R7: the active source again is REDUNDANT; another VALID one switches at once. -/
theorem test_source_select : let s := withAuthority (driven service 60 0) (fun a => { a with
      monitors := a.monitors.set .cabB ⟨.valid, 3⟩ })
    reply (after (exec (.sourceSelect 60 1 1) s)) = [1, 7, 7, 1, 0, 0]
    ∧ reply (after (exec (.sourceSelect 60 1 2) s)) = [1, 7, 1, 2, 0, 0] := by decide
/-- R9. -/
theorem test_source_abort : reply (after (exec (.sourceAbort 60 1) service)) = [1, 8, 10]
    ∧ (after (exec (.sourceAbort 60 1) (withAuthority service (fun a => { a with
      pendingSwitch := some .dp })))).authority.pendingSwitch = none := by decide
/-- R11. -/
theorem test_source_lock : reply (after (exec (.sourceLock 60 1) service)) = [1, 9, 9]
    ∧ (after (exec (.sourceLock 60 1) (driven service 0 0))).authority.lock = some .cabA := by decide
/-- R56. -/
theorem test_trip_clear : reply (after (exec (.dbTripClear 60 1) service)) = [1, 10, 16]
    ∧ reply (after (exec (.dbTripClear 60 1) (withBrake service (fun b => { b with
      state := .tripped, cause := some .link })))) = [1, 10, 17] := by decide
/-- R43. -/
theorem test_isolate : reply (after (exec (.axleIsolate 60 1 7) service)) = [1, 11, 5]
    ∧ (after (exec (.axleIsolate 60 1 6) service)).slide.axles.a6.state = .isolated := by decide
/-- R44. -/
theorem test_restore : reply (after (exec (.axleRestore 60 1 6) service)) = [1, 12, 18]
    ∧ (after (exec (.axleRestore 60 1 6) (withAxle service 5 (fun a => { a with
      state := .isolated, f := 0, isolation := some .command })))).slide.axles.a6.f = 1000 := by decide
/-- R120: an empty list reports kind none and number 0 eight times. -/
theorem test_incident_list : (reply (after (exec (.incidentList 60 1) service))).take 12
    = [1, 13, 0, 0, 0, 0, 0, 0, 255, 0, 0, 0] := by decide
/-- R123: the first mark opens slot 0 under number 1. -/
theorem test_incident_mark : reply (after (exec (.incidentMark 60 1) service)) = [1, 16, 0, 0, 0, 0, 0, 0, 1]
    ∧ reply (after (exec (.incidentMark 60 1) fresh)) = [1, 16, 9] := by decide
/-- R121, R122: a FREE slot is NOT_READY, a slot number 8 BAD_ARG. -/
theorem test_incident_read : reply (after (exec (.incidentRead 60 1 0 1 0) service)) = [1, 14, 14]
    ∧ reply (after (exec (.incidentRead 60 1 8 1 0) service)) = [1, 14, 5] := by decide
/-- R122. -/
theorem test_incident_release :
    let s := withRecorder service (fun r => setSlot r 2 { Slot.free with state := .sealed, seq := some 9 })
    reply (after (exec (.incidentRelease 60 1 2 8) s)) = [1, 15, 15]
    ∧ (getSlot (after (exec (.incidentRelease 60 1 2 9) s)).recorder 2).state = .free := by decide
/-- R140: a completed originated frame is counted, and an empty transmitter is IDLE. -/
theorem test_transmit : let t := after (exec (.transmitComplete .e) (setPort service .e { PortState.reset with
      transmitter := .sending true (bytes [1, 2, 3]) 35 }))
    t.link.ePort.counters.txOriginated = 1 ∧ t.link.ePort.transmitter = .idle := by decide
/-- R155: a pending notice is formed, and the mark is cleared. -/
theorem test_notice : let t := after (exec .noticeReform { service with lines := { service.lines with
      noticePending := true } })
    t.lines.noticePending = false ∧ (reply t).length = 16 := by decide
/-- The concentrator LIVE for a time, with VALID speed data. -/
def concentrator (elapsed : Nat) : State :=
  setNode (withSlide service (fun k => { k with speedState := .valid })) 4
    { NodeRuntime.fresh with liveness := .live, timer := .running elapsed }

/-- R143, R29: the concentrator's silence loses the speed data, at its timeout. -/
theorem test_liveness :
    (after (exec (.livenessExpiry 4) (concentrator 99))).slide.speedState = .valid
    ∧ (after (exec (.livenessExpiry 4) (concentrator 100))).slide.speedState = .lost := by decide
/-- R13: the HOLD timer's expiry enters PENALTY. -/
theorem test_hold : (after (exec .holdTimerExpiry (withAuthority service (fun a => { a with
    phase := .hold, lost := some .cabA, holdTimer := .running 2000 })))).authority.phase = .penalty := by decide
/-- R20. -/
theorem test_emergency_reset : (after (exec .emergencyResetExpiry (withAuthority service (fun a => { a with
    latch := true, resetTimer := .running 30000 })))).authority.resetTimer = .expired := by decide
/-- R28: the data is stale past SPEED_STALE_MS, not at it. -/
theorem test_stale : let s := fun n => withSlide service (fun k => { k with
      speedState := .valid, staleTimer := .running n })
    (after (exec .staleTimerExpiry (s 200))).slide.speedState = .valid
    ∧ (after (exec .staleTimerExpiry (s 201))).slide.speedState = .lost := by decide
/-- R39: an episode passes PROLONG_MS. -/
theorem test_episode : let s := fun n => withAxle service 2 (fun a => { a with episode := .running n })
    (after (exec (.episodeTimerExpiry 2) (s 3000))).slide.axles.a3.prolonged = false
    ∧ (after (exec (.episodeTimerExpiry 2) (s 3001))).slide.axles.a3.prolonged = true := by decide
/-- R41. -/
theorem test_locked_timeout : (after (exec (.lockedTimeout 2) (withAxle service 2 (fun a => { a with
    state := .locked, f := 0, stateTimer := .running 5000 })))).slide.axles.a3.isolation = some .lockTimeout := by
  decide
/-- R46. -/
theorem test_sand_hold : (after (exec .sandHoldExpiry (withSlide service (fun k => { k with
    sandRequest := true, sandTimer := .running 2000 })))).slide.sandRequest = false := by decide
/-- R52. -/
theorem test_setup_timeout : (after (exec .setupTimerExpiry (withBrake service (fun b => { b with
    state := .setup, setupTimer := .running 1000 })))).brake.cause = some .setupTimeout := by decide
/-- R53. -/
theorem test_idle_timeout : (after (exec .idleTimerExpiry (withBrake service (fun b => { b with
    state := .active, idleTimer := .running 3000 })))).brake.state = .off := by decide
/-- Chapter 3, worked heat case: 240,000,000 J at 184 kN and 2500 with the blowers running. -/
theorem test_heat : let t := after (exec .heatPeriod (withSlide (withBrake service (fun b => { b with
      heat := 240000000, g := 600, aLast := 184, heatElapsed := 20
      status := some ⟨Six.all 0, true, false, true⟩ })) (fun k => { k with vRef := 2500 })))
    t.brake.heat = 239941327 := by decide
/-- R62: a fall of g from 1000 sets THERMAL_DERATE. -/
theorem test_heat_derates : let t := after (exec .heatPeriod (withBrake service (fun b => { b with
      heat := 250000000, heatElapsed := 20 })))
    t.brake.g < 1000 ∧ flagSet t .thermalDerate = true := by decide
/-- R148: a line with debounce 0 is accepted at once; a high EMERG pin sets the latch. -/
theorem test_pin_emergency : (after (exec (.discretePinChange 0 true) service)).authority.latch = true := by decide
/-- R147: a line with a debounce time starts its timer. -/
theorem test_pin_debounced :
    (after (exec (.discretePinChange 1 true) service)).lines.inputs.a2.debounce = .running 0 := by decide
/-- R148, R17. -/
theorem test_debounce : let s := withLine service 1 (fun r => { r with
      pin := true, present := true, debounce := .running 30 })
    flagSet (after (exec (.debounceExpiry 1) s)) .penalty = true := by decide
/-- R182: a held part computes nothing. -/
theorem test_held_part : after (exec .blendPeriod (heldInReset ⟨true, false⟩ case1)) = heldInReset ⟨true, false⟩ case1 := by
  decide

/-! ## Witnesses: for each statement with hypotheses, states and operands that meet them, clause by clause -/

theorem witness_CommandsAnswerAndKeepQueue : service.deferred = none := by decide

theorem witness_HeldInPowerOnReset :
    (heldInReset ⟨true, false⟩ service).inReset = true ∧ (heldInReset ⟨true, true⟩ service).hold.powerUp = true
    ∧ (heldInReset ⟨true, true⟩ service).hold.pinLow = true := by decide

theorem witness_PowerOnResetState :
    (heldInReset ⟨true, false⟩ service).hold.powerUp = false ∧ (heldInReset ⟨false, true⟩ service).hold.pinLow = false
    ∧ service.hold.powerUp = false ∧ service.hold.pinLow = false := by decide

theorem witness_IdleStepPassesTime :
    (case1.pending = [] ∧ case1.inReset = false ∧ dueCommands case1 ≠ [])
    ∧ (service.pending = [] ∧ service.inReset = false ∧ dueCommands service = []) := by decide

/-- A frame of the axle speed concentrator, node 4. -/
def sample : Frame := ⟨255, 50, 0x61, 7, bytes [7, 208, 7, 208, 7, 208, 7, 208, 7, 208, 7, 208, 63]⟩

/-- The concentrator's last sequence. -/
def heard (s : State) (q : Byte) : State := setNode s 4 { NodeRuntime.fresh with lastSeq := some q }

theorem witness_FramesDroppedOnArrival :
    fresh.inReset = false ∧ receiveStatus (bytes [1, 2, 3, 4, 5, 6]) = .runt
    ∧ receiveStatus (List.replicate 248 0) = .long ∧ receiveStatus (bytes [9, 50, 97, 0, 1, 0, 0]) = .lengthMismatch
    ∧ receiveStatus (bytes [9, 50, 97, 0, 0, 0, 0]) = .checkError
    ∧ (let b := wholeFrame ⟨255, 51, 0x61, 7, []⟩
      receiveStatus b = .good ∧ lookupNode State.reset.tables .e (parseFrame b).src = none)
    ∧ (let s := heard fresh 7
      s.inReset = false ∧ receiveStatus (wholeFrame sample) = .good
      ∧ lookupNode s.tables .e (parseFrame (wholeFrame sample)).src = some 4
      ∧ (getNode s 4).lastSeq = some (parseFrame (wholeFrame sample)).seq) := by decide

theorem witness_WholeFramesReceivedAsSent :
    (⟨255, 10, 33, 0, List.replicate 240 7⟩ : Frame).payload.length ≤ 240 := by decide

/-- A request frame to the own address. -/
def request (src : Byte) (cls : Byte) : List Byte := wholeFrame ⟨240, src, cls, 1, bytes [9, 1, 0]⟩

/-- All eight slots PROTECTED, and pattern 0 enabled for requests on any port; every flag asks for a notice. -/
def watching : State := { withRecorder service (fun r => { r with
    slots := (List.range 8).map (fun i => { Slot.free with
      state := .sealed, seq := some (i + 1), triggers := [⟨.manual, 0, none⟩], protected_ := true })
    nextSeq := 9 }) with
  tables := { tables with
    patterns := ⟨[1, 2, 64, 0, 65535] :: List.replicate 7 [0, 0, 0, 0, 0], true⟩
    reporting := ⟨[[31], [524287], [31]], true⟩ } }

/-- The state in which the request of `b` is handed over, with the notices that its offer formed. -/
def offered (s : State) (b : List Byte) : State :=
  offerFrame .c (parseFrame b) { setNode (setPort s .c { s.link.cPort with counters := { s.link.cPort.counters with
    rxGood := bump s.link.cPort.counters.rxGood } }) 3 { NodeRuntime.fresh with
      lastSeq := some 1, good := 1, liveness := .live } with deferred := some [] }

theorem witness_AcceptedFrameRefreshesNode :
    (let s := heard fresh 5
    let f := parseFrame (wholeFrame sample)
    s.inReset = false ∧ receiveStatus (wholeFrame sample) = .good ∧ lookupNode s.tables .e f.src = some 4
    ∧ (getNode s 4).lastSeq ≠ some f.seq ∧ f.dst ≠ s.link.own
    ∧ nodeRole s.tables 4 = some .axleConc ∧ f.cls = 0x61 ∧ binding s.tables .axleConc = some 4
    ∧ tableField s.tables.classSets (256 + f.cls.toNat) 0 ≠ 1)
    ∧ (let f := parseFrame (wholeFrame ⟨255, 10, 0x28, 1, []⟩)
      nodeRole fresh.tables 0 = some .cabA ∧ f.cls ≠ 0x21 ∧ f.dst ≠ fresh.link.own
      ∧ lookupNode fresh.tables .c f.src = some 0 ∧ (getNode fresh 0).lastSeq ≠ some f.seq)
    ∧ (∀ s ∈ [service, watching], let b := request 60 0x40
      s.inReset = false ∧ receiveStatus b = .good ∧ (parseFrame b).dst = s.link.own ∧ (parseFrame b).cls = 0x40
      ∧ lookupNode s.tables .c (parseFrame b).src = some 3 ∧ (getNode s 3).lastSeq ≠ some (parseFrame b).seq)
    ∧ lookupNode State.reset.tables .c 60 = none ∧ State.reset.control.mode = .init := by decide

theorem witness_AcceptedFrameRefreshesNode_notice :
    (offered service (request 60 0x40)).deferred = some []
    ∧ (offered watching (request 60 0x40)).deferred.map List.length = some 1
    ∧ Ready { offered watching (request 60 0x40) with deferred := none }
    ∧ (parseFrame (request 60 0x40)).payload = [9, 1, 0] := by unfold Ready; decide

theorem witness_OwnAddressFrameDropped :
    service.inReset = false ∧ receiveStatus (request 50 0x40) = .good ∧ receiveStatus (request 60 0x28) = .good
    ∧ receiveStatus (request 99 0x40) = .good ∧ (parseFrame (request 50 0x40)).dst = service.link.own
    ∧ lookupNode service.tables .e (parseFrame (request 50 0x40)).src = some 4
    ∧ (getNode service 4).lastSeq ≠ some (parseFrame (request 50 0x40)).seq
    ∧ (parseFrame (request 60 0x28)).cls ≠ Config.clsMgmtRequest
    ∧ lookupNode service.tables .c (parseFrame (request 60 0x28)).src = some 3
    ∧ (getNode service 3).lastSeq ≠ some (parseFrame (request 60 0x28)).seq
    ∧ lookupNode service.tables .c (parseFrame (request 99 0x40)).src = none ∧ service.control.mode ≠ .init := by decide

/-- Demands and setpoints pass from the C-port to the E-port, whose transmitter is busy, with `n` frames waiting. -/
def passing (n : Nat) : State :=
  setPort { service with tables := { tables with
      classSets := ⟨((List.replicate 512 [0]).set 33 [1]).set 112 [1], true⟩ } } .e
    { PortState.reset with transmitter := .sending false [] 0, forward := List.replicate n [] }

theorem witness_ForwardingDecision :
    (let f := fun cls => wholeFrame ⟨255, 10, cls, 1, []⟩
    let s := passing 15
    s.inReset = false ∧ receiveStatus (f 0x21) = .good ∧ receiveStatus (f 0x70) = .good ∧ receiveStatus (f 0x28) = .good
    ∧ (parseFrame (f 0x21)).dst ≠ s.link.own ∧ (parseFrame (f 0x70)).dst ≠ s.link.own
    ∧ (parseFrame (f 0x28)).dst ≠ s.link.own ∧ lookupNode s.tables .c (parseFrame (f 0x21)).src = some 0
    ∧ (getNode s 0).lastSeq ≠ some (parseFrame (f 0x21)).seq ∧ (getPort s .e).transmitter ≠ .idle
    ∧ tableField s.tables.classSets (parseFrame (f 0x21)).cls.toNat 0 = 1 ∧ (getPort s .e).forward.length < 16
    ∧ 16 ≤ (getPort (passing 16) .e).forward.length ∧ s.control.mode = .service
    ∧ tableField s.tables.classSets (parseFrame (f 0x70)).cls.toNat 0 = 1
    ∧ tableField s.tables.classSets (parseFrame (f 0x28)).cls.toNat 0 ≠ 1)
    ∧ (let s := setPort (passing 0) .e PortState.reset
      s.inReset = false ∧ (getPort s .e).transmitter = .idle ∧ (getPort s .e).originated = []
      ∧ (getPort s .e).forward = [])
    ∧ (let s := setPort { fresh with tables := { tables with
        classSets := ⟨(List.replicate 512 [0]).set 353 [1], true⟩ } } .c PortState.reset
      let b := wholeFrame sample
      s.inReset = false ∧ receiveStatus b = .good ∧ (parseFrame b).dst ≠ s.link.own
      ∧ lookupNode s.tables .e (parseFrame b).src = some 4 ∧ (getNode s 4).lastSeq ≠ some (parseFrame b).seq
      ∧ tableField s.tables.classSets (256 + (parseFrame b).cls.toNat) 0 = 1
      ∧ (getPort s .c).transmitter = .idle ∧ (getPort s .c).originated = [] ∧ (getPort s .c).forward = []
      ∧ tableField s.tables.reporting 0 0 ≠ 0
      ∧ tableField ({ tables with reporting := ⟨[[0], [0], [0]], true⟩ } : Tables).reporting 0 0 = 0) := by decide

/-- The C-port busy, with `n` frames waiting in its originated queue. -/
def queued (s : State) (n : Nat) (f : OriginatedFrame) : State := setPort s .c { PortState.reset with
  transmitter := .sending true (bytes [1, 2, 3]) 35, originated := List.replicate n f }

theorem witness_TransmitterTakesNextFrame :
    (service.inReset = false ∧ (getPort service .c).transmitter = .idle)
    ∧ (let s := queued service 7 ⟨60, 0x41, []⟩
      s.inReset = false ∧ (getPort s .c).transmitter = .sending true (bytes [1, 2, 3]) 35
      ∧ s.link.cPort.originated.length < 8)
    ∧ (let s := queued service 8 ⟨60, 0x41, []⟩
      s.management.bufA.state = .free ∧ s.management.bufB.state = .free ∧ s.lines.noticePending = false) := by decide

/-- A response held in a buffer. -/
def heldBuffer : Buffer := { waitingBuffer 60 [7, 4, 2] with state := .held, response := some ⟨60, 0x41, [7, 4, 0, 2]⟩ }

/-- A full C-port queue with two request buffers, an arrival mark and a notice-pending mark. -/
def full (a b : Buffer) (bFirst noticePending : Bool) : State := queued { service with
  management := ⟨a, b, bFirst⟩, lines := { service.lines with noticePending := noticePending } } 8 ⟨60, 0x41, []⟩

/-- What the MGMT_REQUEST of a waiting request makes of a state with room for its answer. -/
def served : State := after (exec (.mgmtRequest 60 [9, 1, 0]) (queued service 7 ⟨60, 0x41, []⟩))

theorem witness_TransmitterServesWaiting :
    let flying : Buffer := { waitingBuffer 60 [7, 4, 2] with state := .inFlight }
    let waiting := waitingBuffer 60 [9, 1, 0]
    (∀ m, let s := full Buffer.free Buffer.free false m
      s.inReset = false ∧ s.link.cPort.originated.length = 8 ∧ s.deferred = none ∧ s.lines.noticePending = m
      ∧ s.management.bufA.state = .free ∧ s.management.bufB.state = .free)
    ∧ tableField service.tables.reporting 0 0 ≠ 0
    ∧ (heldBuffer.state = .held ∧ heldBuffer.response = some ⟨60, 0x41, [7, 4, 0, 2]⟩
      ∧ (full heldBuffer Buffer.free false true).management.bufA = heldBuffer
      ∧ (full flying heldBuffer false true).management.bufB = heldBuffer ∧ flying.state = .inFlight)
    ∧ ((full waiting Buffer.free false false).management.bufA = waitingBuffer 60 [9, 1, 0]
      ∧ (full waiting Buffer.free false false).management.bFirst = decide (Buffer.free.state ≠ .free)
      ∧ (full waiting flying true false).management.bFirst = decide (flying.state ≠ .free)
      ∧ served.lines.noticePending = false)
    ∧ (let s := full flying waiting false false
      s.management.bufB = waitingBuffer 60 [9, 1, 0] ∧ s.management.bufA.state = .inFlight
      ∧ s.management.bFirst = false)
    ∧ (let s := full waiting heldBuffer true false
      s.management.bufA.state = .waiting ∧ s.management.bufB.state = .held ∧ s.management.bFirst = true
      ∧ s.lines.noticePending = false)
    ∧ (let s := full heldBuffer waiting false false
      s.management.bufB.state = .waiting ∧ s.management.bufA.state = .held ∧ s.management.bFirst = false) := by decide

theorem witness_OriginatedFrameHandedOver :
    (let s := queued service 1 ⟨31, 0x44, [1]⟩
    (getPort s .c).transmitter ≠ .idle ∧ (getPort s .c).originated = [] ++ ⟨31, 0x44, [1]⟩ :: [])
    ∧ (let s := queued service 7 ⟨60, 0x41, []⟩
      (getPort s .c).transmitter ≠ .idle ∧ (getPort s .c).originated.length < 8
      ∧ ∀ x ∈ (getPort s .c).originated, ¬ (x.cls = 0x44 ∧ x.dst = 31))
    ∧ 8 ≤ (getPort (queued service 8 ⟨60, 0x41, []⟩) .c).originated.length
    ∧ (getPort service .e).transmitter = .idle ∧ (getPort service .e).originated = [] := by decide

/-- A node LIVE for a time. -/
def live (s : State) (i elapsed : Nat) : State :=
  setNode s i { NodeRuntime.fresh with liveness := .live, timer := .running elapsed }

theorem witness_LivenessExpiryLosesNode :
    (let s := concentrator 99
    s.inReset = false ∧ (getNode s 4).timer = .running 99 ∧ ¬ nodeTimeout s.tables 4 ≤ 99)
    ∧ (let s := live service 3 0
      s.inReset = false ∧ nodeUsed s.tables 3 = true ∧ (getNode s 3).liveness = .live
      ∧ (getNode s 3).timer = .running 0 ∧ nodeTimeout s.tables 3 ≤ 0 ∧ nodeRole s.tables 3 = some .tool) := by decide

theorem witness_NodeLossDelivered :
    (∀ i : Fin 11, let s := live service i.val (nodeTimeout service.tables i.val)
      s.inReset = false ∧ nodeUsed s.tables i.val = true ∧ (getNode s i.val).liveness = .live
      ∧ (getNode s i.val).timer = .running (nodeTimeout s.tables i.val)
      ∧ (nodeRole s.tables i.val).bind (binding s.tables) = some i.val)
    ∧ (List.range 11).map (nodeRole service.tables) = [some .cabA, some .cabB, some .locoComputer, some .tool,
      some .axleConc, some .valveT1, some .valveT2, some .traction, some .radar, some .recorder, some .dp]
    ∧ service.slide.speedState ≠ .valid ∧ (concentrator 100).slide.speedState = .valid
    ∧ service.brake.state ≠ .active ∧ case1.brake.state = .active ∧ service.air.truck1.condition = .clear := by decide

/-! ### Demand Authority Unit -/

theorem witness_DemandFrameMovesMonitor :
    service.inReset = false ∧ (⟨255, 10, 33, 1, bytes [1, 2, 3, 4, 5]⟩ : Frame).payload.length < 6
    ∧ 6 ≤ (demand 60 0 0 0 1).payload.length
    ∧ (let s := withAuthority service (fun a => { a with
        monitors := a.monitors.set .cabB ⟨.acquiring, 2⟩, pendingSwitch := some .cabB })
      let t := after (exec (.demandFrame .cabB false (demand 60 0 0 0 1)) s)
      (s.authority.monitors.get .cabB).state ≠ .valid ∧ (t.authority.monitors.get .cabB).state = .valid
      ∧ s.authority.pendingSwitch = some .cabB)
    ∧ (let s := withAuthority service (fun a => { a with monitors := a.monitors.set .cabA ⟨.acquiring, 2⟩ })
      let t := after (exec (.demandFrame .cabA false (demand 60 0 0 0 1)) s)
      (s.authority.monitors.get .cabA).state ≠ .valid ∧ (t.authority.monitors.get .cabA).state = .valid
      ∧ s.authority.pendingSwitch = none ∧ s.authority.autoMark = true ∧ s.authority.lock = none
      ∧ tableField s.tables.source 0 0 = 1)
    ∧ (service.authority.monitors.get .cabA).state ≠ .valid
    ∧ ((driven service 60 0).authority.monitors.get .cabA).state = .valid := by decide

/-- CAB_A drives, with the latch set and its reset timer expired. -/
def latched (s : State) : State := withAuthority (driven s 60 0) (fun a => { a with latch := true, resetTimer := .expired })

theorem witness_DemandFrameActsOnLatch :
    (driven service 60 0).inReset = false ∧ 6 ≤ (demand 170 0 0 1 1).payload.length
    ∧ (let t := after (exec (.demandFrame .cabA false (demand 170 0 0 1 1)) (driven service 60 0))
      ((demand 170 0 0 1 1).payload.getD 4 0).getLsbD 0 = true ∧ (t.authority.monitors.get .cabA).state = .valid
      ∧ (driven service 60 0).authority.latch = false)
    ∧ ((demand 170 0 0 0 1).payload.getD 4 0).getLsbD 0 = false
    ∧ (let t := after (exec (.demandFrame .cabA false (demand 170 0 0 0 1)) (latched service))
      (latched service).authority.latch = true ∧ (latched service).authority.resetTimer = .expired
      ∧ emergencyCondition t = false ∧ t.authority.active = .source .cabA ∧ service.tables.blend.loaded = true
      ∧ tableField service.tables.blend 7 0 ≤ ((demand 170 0 0 0 1).payload.getD 0 0).toNat
      ∧ ¬ tableField service.tables.blend 7 0 ≤ ((demand 169 0 0 0 1).payload.getD 0 0).toNat) := by decide

theorem witness_SwitchCompletes :
    (let s := withAuthority fresh (fun a => { a with
      monitors := a.monitors.set .cabB ⟨.valid, 3⟩, pendingSwitch := some .cabB })
    s.inReset = false ∧ s.authority.pendingSwitch = some .cabB ∧ (s.authority.monitors.get .cabB).state = .valid)
    ∧ ¬ fresh.authority.pendingSwitch = some .cabB
    ∧ (let s := withAuthority fresh (fun a => { a with monitors := a.monitors.set .cabA ⟨.valid, 3⟩ })
      s.authority.autoMark = true ∧ s.authority.pendingSwitch = none ∧ s.authority.lock = none
      ∧ tableField s.tables.source 0 0 = 1 ∧ (s.authority.monitors.get .cabA).state = .valid)
    ∧ ¬ (fresh.authority.monitors.get .cabA).state = .valid := by decide

theorem witness_AuthorityTimersAndLatchClear :
    (let s := withAuthority service (fun a => { a with
      phase := .hold, lost := some .cabA, holdTimer := .running 2000, resetTimer := .running 30000 })
    s.inReset = false ∧ s.authority.holdTimer = .running 2000 ∧ tableField s.tables.source 2 0 ≤ 2000
    ∧ s.authority.resetTimer = .running 30000 ∧ tableField s.tables.source 3 0 ≤ 30000)
    ∧ ¬ tableField service.tables.source 2 0 ≤ 1999 ∧ ¬ tableField service.tables.source 3 0 ≤ 29999
    ∧ (let s := latched service
      s.authority.latch = true ∧ s.authority.resetTimer = .expired ∧ s.authority.active = .source .cabA
      ∧ s.tables.blend.loaded = true ∧ tableField s.tables.blend 7 0 ≤ (170#8).toNat
      ∧ ¬ tableField s.tables.blend 7 0 ≤ (169#8).toNat) := by decide

theorem witness_ActiveDemandFormed :
    (driven service 60 0).tables.blend.loaded = true ∧ (driven service 60 0).authority.active = .source .cabA
    ∧ (driven service 60 0).authority.good.get .cabA
      = some ⟨⟨60, 0, 0, false, false, false, 1⟩, demand 60 0 0 0 1⟩
    ∧ (∀ p ∈ [Phase.hold, Phase.penalty], let s := withAuthority (driven service 60 0) (fun a => { a with
        active := .fallback, phase := p, lost := some .cabA })
      s.authority.active = .fallback ∧ s.authority.phase = p ∧ s.authority.lost = some .cabA
      ∧ s.authority.good.get .cabA ≠ none)
    ∧ service.authority.active = .fallback ∧ service.authority.phase = .start := by decide

/-- The tool, node 3, asks, and the part can take the request. -/
def asks (s : State) (k : Command) (args : List Byte) : Prop := Ready s ∧ MayIssue s 60 k args

theorem witness_SourceCommandsDecided :
    (asks (driven service 60 0) .sourceSelect [0] ∧ sourceOfCode (0 : Byte).toNat = none)
    ∧ (asks (driven service 60 0) .sourceSelect [1] ∧ sourceOfCode (1 : Byte).toNat = some .cabA
      ∧ (driven service 60 0).authority.active = .source .cabA)
    ∧ (let s := withAuthority (driven service 60 0) (fun a => { a with lock := some .cabA })
      asks s .sourceSelect [3] ∧ s.authority.active ≠ .source .dp ∧ s.authority.lock ≠ none ∧ s.authority.lock ≠ some .dp)
    ∧ ((driven service 60 0).authority.active ≠ .source .dp ∧ (driven service 60 0).authority.lock = none
      ∧ ((driven service 60 0).authority.monitors.get .dp).state ≠ .valid)
    ∧ (let s := withAuthority (driven service 60 0) (fun a => { a with monitors := a.monitors.set .dp ⟨.valid, 3⟩ })
      asks s .sourceSelect [3] ∧ s.authority.active ≠ .source .dp ∧ s.authority.lock = none
      ∧ (s.authority.monitors.get .dp).state = .valid)
    ∧ asks service .sourceAbort [] ∧ asks service .sourceLock [] := by unfold asks Ready MayIssue; decide

/-! ### Slide Control Unit -/

theorem witness_AxleSampleMeasured :
    case1.inReset = false ∧ (bytes (List.replicate 12 0)).length < 13 ∧ 13 ≤ sample.payload.length
    ∧ case1.tables.axle.loaded = true ∧ case1.tables.slide.loaded = true
    ∧ (let s := withSlide case1 (fun k => { k with radar := some ⟨2000, true, 0⟩ })
      s.slide.radar.filter (fun r => tableField s.tables.slide 3 0 = 1 ∧ r.valid
        ∧ (s.control.localMs - r.arrival).toNat ≤ 100) = some ⟨2000, true, 0⟩)
    ∧ case1.slide.radar = none := by decide

/-- Under VALID speed data with the brakes applied, one axle in each of five states, and one that may lock. -/
def sliding (vRef : Nat) : State :=
  let s := withSlide { service with blend := { Blend.reset with e := Six.all 30 } } (fun k => { k with
    vRef := vRef, speedState := .valid, prevArrival := some 0, staleTimer := .running 0 })
  let s1 := withAxle (withAxle s 0 (fun a => { a with state := .isolated, f := 0, isolation := some .command })) 1
    (fun a => { a with state := .sensorFault, f := 0, faultCount := 9 })
  let s2 := withAxle (withAxle s1 2 (fun a => { a with state := .suspect, confirm := 2 })) 3
    (fun a => { a with state := .hold, f := 500 })
  withAxle s2 4 (fun a => { a with state := .reapply, f := 900, lockTimer := .running 1000 })

/-- A sample of the six axles' pulse rates with their validity bits. -/
def rates (l : List Nat) (valid : Nat) : List Byte := bytes (l.flatMap (fun n => [n / 256, n])) ++ [BitVec.ofNat 8 valid]

theorem witness_AxleStateMachine :
    let s := sliding 2500
    let p := rates [2000, 2000, 1900, 1900, 10, 2000] 31
    let t := after (exec (.axleSample p) s)
    let parameter := fun n => tableField s.tables.slide n 0
    s.inReset = false ∧ 13 ≤ p.length ∧ s.tables.axle.loaded = true ∧ s.tables.slide.loaded = true
    ∧ 0 < parameter 16 ∧ s.slide.axles.a1.state = .isolated
    ∧ (s.slide.axles.a2.state = .sensorFault ∧ (p.getD 12 0).getLsbD 1 = true ∧ 10 ≤ s.slide.axles.a2.faultCount + 1)
    ∧ (s.slide.axles.a3.state = .suspect ∧ (p.getD 12 0).getLsbD 2 = true ∧ parameter 9 ≤ s.slide.axles.a3.confirm + 1)
    ∧ s.slide.axles.a4.state = .hold
    ∧ (s.slide.axles.a5.state = .reapply ∧ (p.getD 12 0).getLsbD 4 = true ∧ t.slide.axles.a5.v < parameter 14
      ∧ parameter 15 < t.slide.vRef ∧ s.slide.axles.a5.lockTimer = .running 1000 ∧ parameter 16 ≤ 1000)
    ∧ (s.slide.axles.a6.state = .rolling ∧ (p.getD 12 0).getLsbD 5 = false) ∧ parameter 13 ≤ t.slide.vRef
    ∧ (after (exec (.axleSample (rates [10, 10, 10, 10, 10, 10] 63)) (sliding 110))).slide.vRef < parameter 13
    ∧ (∀ x ∈ [AxleState.relief, AxleState.locked], let u := withAxle s 5 (fun a => { a with state := x, f := 0 })
      u.inReset = false ∧ u.slide.axles.a6.state = x ∧ (sample.payload.getD 12 0).getLsbD 5 = true) := by decide

theorem witness_RadarAndTimeStored : service.inReset = false := by decide

theorem witness_SpeedLossAndSand :
    (let s := withSlide service (fun k => { k with
      speedState := .valid, staleTimer := .running 201, sandRequest := true, sandTimer := .running 2000 })
    s.inReset = false ∧ s.slide.speedState = .valid ∧ s.slide.staleTimer = .running 201
    ∧ tableField s.tables.slide 0 0 < 201 ∧ s.slide.sandTimer = .running 2000 ∧ tableField s.tables.slide 19 0 ≤ 2000)
    ∧ ¬ tableField service.tables.slide 0 0 < 200 ∧ ¬ tableField service.tables.slide 19 0 ≤ 1999
    ∧ State.reset.tables.slide.loaded = false ∧ service.tables.slide.loaded = true
    ∧ (let s := withAxle (withAxle service 0 (fun a => { a with state := .relief })) 1 (fun a => { a with state := .hold })
      tableField s.tables.slide 18 0
        ≤ (six.filter (fun i => decide ((s.slide.axles.get i).state = .relief ∨ (s.slide.axles.get i).state = .hold))).length)
    ∧ (¬ tableField service.tables.slide 18 0
        ≤ (six.filter (fun i => decide ((service.slide.axles.get i).state = .relief
          ∨ (service.slide.axles.get i).state = .hold))).length
      ∧ (¬ ∃ i, (service.slide.axles.get i).prolonged = true) ∧ ¬ (activeDemand service).sand = true) := by decide

theorem witness_AxleTimersExpire :
    (let s := withAxle case1 2 (fun a => { a with
      state := .locked, f := 0, episode := .running 3001, stateTimer := .running 5000 })
    s.inReset = false ∧ s.slide.speedState ≠ .lost ∧ s.slide.axles.a3.episode = .running 3001
    ∧ tableField s.tables.slide 12 0 < 3001 ∧ s.slide.axles.a3.state = .locked
    ∧ s.slide.axles.a3.stateTimer = .running 5000 ∧ tableField s.tables.slide 17 0 ≤ 5000)
    ∧ ¬ tableField case1.tables.slide 12 0 < 3000 ∧ ¬ tableField case1.tables.slide 17 0 ≤ 4999 := by decide

theorem witness_AxleIsolatedAndRestored :
    (∀ n ∈ [0, 7], asks service .axleIsolate [n] ∧ asks service .axleRestore [n] ∧ (n.toNat < 1 ∨ 6 < n.toNat))
    ∧ (asks service .axleIsolate [6] ∧ asks service .axleRestore [6] ∧ (6 : Byte).toNat = (5 : Fin 6).val + 1
      ∧ service.slide.axles.a6.state ≠ .isolated)
    ∧ (asks (sliding 2500) .axleIsolate [1] ∧ asks (sliding 2500) .axleRestore [1]
      ∧ (1 : Byte).toNat = (0 : Fin 6).val + 1 ∧ (sliding 2500).slide.axles.a1.state = .isolated) := by
  unfold asks Ready MayIssue; decide

/-! ### Dynamic Brake Channel -/

/-- The channel in a state. -/
def channel (x : DbState) : State := withBrake service (fun b => { b with state := x })

/-- A TRACTION_STATUS with a status byte. -/
def traction (flags : Nat) : List Byte := bytes [0, 0, 0, 0, 0, 20, flags, 1]

theorem witness_TractionStatusHandled :
    service.inReset = false ∧ (bytes [0, 0, 0, 0, 0, 20, 1]).length < 8 ∧ 8 ≤ (traction 1).length
    ∧ (channel .cutout).brake.state = .cutout ∧ (channel .setup).brake.state = .setup
    ∧ (channel .active).brake.state = .active ∧ ((traction 3).getD 6 0).getLsbD 1 = true
    ∧ (((traction 1).getD 6 0).getLsbD 1 = false ∧ ((traction 1).getD 6 0).getLsbD 0 = true)
    ∧ (((traction 0).getD 6 0).getLsbD 1 = false ∧ ((traction 0).getD 6 0).getLsbD 0 = false) := by decide

/-- ACTIVE with efforts of 28 kN in all commanded. -/
def short (latch : Bool) (timer : Timer) : State :=
  { withBrake service (fun b => { b with state := .active, shortfall := latch, shortSet := timer, shortClear := timer })
    with blend := { Blend.reset with e := ⟨28, 0, 0, 0, 0, 0⟩ } }

theorem witness_ShortfallTested :
    let p := fun n : Nat => bytes [n, 0, 0, 0, 0, 0, 1, 1]
    let a := fun n : Nat => (Six.ofFn (fun i : Fin 6 => min ((p n).getD i.val 0).toNat 120)).sum
    let s := short false .stopped
    s.inReset = false ∧ 8 ≤ (p 19).length ∧ s.brake.state = .active ∧ ((p 19).getD 6 0).getLsbD 1 = false
    ∧ tableField s.tables.db 4 0 = 500 ∧ s.brake.shortfall = false ∧ s.brake.shortSet = .stopped
    ∧ (20 ≤ s.blend.e.sum ∧ a 19 * 1000 < s.blend.e.sum * tableField s.tables.db 2 0)
    ∧ ¬ a 20 * 1000 < s.blend.e.sum * tableField s.tables.db 2 0
    ∧ (short false (.running 499)).brake.shortSet = .running 499 ∧ (short false (.running 500)).brake.shortSet = .running 500
    ∧ (short true .stopped).brake.shortfall = true ∧ (short true .stopped).brake.shortClear = .stopped
    ∧ s.blend.e.sum * tableField s.tables.db 3 0 ≤ a 24 * 1000
    ∧ ¬ s.blend.e.sum * tableField s.tables.db 3 0 ≤ a 23 * 1000
    ∧ (short true (.running 500)).brake.shortClear = .running 500 := by decide

theorem witness_SetupAndIdleExpire :
    (let s := withBrake service (fun b => { b with state := .setup, setupTimer := .running 1000 })
    s.inReset = false ∧ s.brake.state = .setup ∧ s.brake.setupTimer = .running 1000 ∧ tableField s.tables.db 0 0 ≤ 1000)
    ∧ (let s := withBrake service (fun b => { b with state := .active, idleTimer := .running 3000 })
      s.inReset = false ∧ s.brake.state = .active ∧ s.brake.idleTimer = .running 3000 ∧ tableField s.tables.db 1 0 ≤ 3000)
    ∧ ¬ tableField service.tables.db 0 0 ≤ 999 ∧ ¬ tableField service.tables.db 1 0 ≤ 2999 := by decide

/-- A heat, with the elapsed time of its period. -/
def heated (heat elapsed : Nat) : State := withBrake service (fun b => { b with heat := heat, heatElapsed := elapsed })

theorem witness_HeatPeriodComputed :
    (heated 0 19).inReset = false ∧ (heated 0 19).brake.heatElapsed < 20 ∧ 20 ≤ (heated 0 20).brake.heatElapsed
    ∧ { heated 0 20 with tables := Tables.reset }.tables.heat.loaded = false
    ∧ (heated 250000000 20).tables.heat.loaded = true
    ∧ (¬ ∃ x ∈ (heated 250000000 20).brake.status, x.blowerOk = true)
    ∧ ((249984742 : Nat) : Int) = min (max ((250000000 : Int)
        + (heated 250000000 20).brake.aLast * (heated 250000000 20).slide.vRef / 18 - 250000000 * 4 / 65536) 0)
        4294967295
    ∧ (heated 250000000 20).brake.g = 1000 ∧ 1000 * (300000000 - 249984742) / (300000000 - 200000000) < 1000
    ∧ (∃ x ∈ (withBrake service (fun b => { b with status := some ⟨Six.all 0, true, false, true⟩ })).brake.status,
      x.blowerOk = true) := by decide

/-- TRIPPED, with the converter's node LIVE and a latest status. -/
def tripped (fault : Bool) : State :=
  live (withBrake service (fun b => { b with
    state := .tripped, cause := some .converter, status := some ⟨Six.all 0, true, fault, true⟩ })) 7 0

theorem witness_DbTripClearDecided :
    (asks service .dbTripClear [] ∧ service.brake.state ≠ .tripped)
    ∧ (asks (tripped false) .dbTripClear [] ∧ (tripped false).brake.state = .tripped
      ∧ binding (tripped false).tables .traction = some 7 ∧ (getNode (tripped false) 7).liveness = .live
      ∧ (tripped false).brake.status = some ⟨Six.all 0, true, false, true⟩)
    ∧ (asks (tripped true) .dbTripClear [] ∧ (tripped true).brake.state = .tripped
      ∧ (tripped true).brake.status = some ⟨Six.all 0, true, true, true⟩) := by
  unfold asks Ready MayIssue; decide

/-! ### Blend Engine -/

theorem witness_InterpolationRule :
    let points := [(1000, 80), (2000, 80), (3000, 70)]
    2 ≤ points.length ∧ points.length ≤ 16 ∧ points.Pairwise (fun a b => a.1 < b.1)
    ∧ (1000 ≤ (points.getD 0 (0, 0)).1) ∧ (points.getD 2 (0, 0)).1 ≤ 3000
    ∧ (1 < points.length - 1 ∧ (points.getD 1 (0, 0)).1 ≤ 2000 ∧ 2000 < (points.getD 2 (0, 0)).1
      ∧ (points.getD 0 (0, 0)).1 < 2000)
    ∧ (∀ q ∈ points, 70 ≤ q.2 ∧ q.2 ≤ 80) := by decide

theorem witness_AllocationPlacesGoal :
    let caps : Six Nat := ⟨62, 60, 59, 57, 56, 37⟩
    260 ≤ caps.sum ∧ (waterFill caps 260).get 0 < caps.get 0 ∧ (waterFill caps 260).get 1 < caps.get 1
    ∧ (0 : Fin 6).val < (1 : Fin 6).val := by decide

theorem witness_BlendPeriodComputes :
    case1.inReset = false ∧ case1.control.mode = .service ∧ case1.blend.timer = .running 20
    ∧ 0 < tableField case1.tables.blend 4 0 ∧ case1.brake.state = .active ∧ case1.slide.speedState = .valid
    ∧ case1.slide.axles.a1.state = .rolling ∧ (sliding 2500).slide.axles.a1.state = .isolated := by decide

/-- The first worked case with the grid at H_MAX and the emergency latch set. -/
def hot : State := withAuthority (withBrake case1 (fun b => { b with heat := 300000000, g := 0 })) (fun a => { a with
  latch := true })

theorem witness_SetpointsWithinLimits :
    hot.inReset = false ∧ hot.control.mode = .service ∧ hot.blend.timer = .running 20 ∧ FactorsOk hot.slide
    ∧ HeatFactorOk hot ∧ hot.tables.heat.loaded = true ∧ tableField hot.tables.heat 1 0 ≤ hot.brake.heat
    ∧ hot.authority.latch = true ∧ tableField hot.tables.blend 6 0 ≤ tableField hot.tables.blend 5 0
    ∧ (withAxle hot 2 (fun a => { a with state := .locked, f := 0 })).slide.axles.a3.state = .locked
    ∧ { hot with brake := Brake.reset }.brake.state ≠ .active := by
  unfold FactorsOk AxleOk HeatFactorOk; decide

theorem witness_BlendPeriodHandsOver :
    (service.inReset = false ∧ fresh.control.mode ≠ .service
      ∧ { service with blend := { Blend.reset with timer := .running 19 } }.blend.timer = .running 19)
    ∧ case1.inReset = false ∧ case1.control.mode = .service ∧ case1.blend.timer = .running 20
    ∧ roleAddress case1.tables .traction = some 53 ∧ roleAddress case1.tables .valveT1 = some 51
    ∧ roleAddress case1.tables .valveT2 = some 52 ∧ case1.brake.state = .active
    ∧ (∀ x ∈ [DbState.off, DbState.setup, DbState.tripped, DbState.cutout],
      (withBrake case1 (fun b => { b with state := x })).brake.state = x)
    ∧ fillingCount case1.recorder = 0 ∧ tableField case1.tables.reporting 2 0 = 31 := by unfold fillingCount; decide

/-! ### Air Channel, Line and Flag Unit -/

theorem witness_ValveStatusHandled :
    service.inReset = false ∧ (bytes [1, 0]).length < 3 ∧ 3 ≤ (bytes [3, 232, 1]).length
    ∧ ((bytes [3, 233, 0]).getD 2 0).getLsbD 0 = false ∧ ((bytes [3, 232, 1]).getD 2 0).getLsbD 0 = true
    ∧ service.air.truck1.condition = .clear
    ∧ (after (exec (.valveStatus .t1 (bytes [3, 232, 1])) service)).air.truck1.condition ≠ .clear := by decide

/-- The flags of a state. -/
def flagged (s : State) (flags : BitVec 19) : State := { s with lines := { s.lines with flags := flags } }

theorem witness_FlagRiseFormsNotice :
    service.deferred = none ∧ flagSet (flagged service 1) .emergency = true ∧ flagSet service .emergency = false
    ∧ (tableField service.tables.reporting 1 0).testBit (flagBit .emergency) = false
    ∧ flagSet service .configChanged = false
    ∧ (tableField service.tables.reporting 1 0).testBit (flagBit .configChanged) = true
    ∧ tableField service.tables.reporting 0 0 ≠ 0
    ∧ (let s := { service with tables := { tables with reporting := ⟨[[0], [262144], [0]], true⟩ } }
      (tableField s.tables.reporting 1 0).testBit (flagBit .configChanged) = true ∧ tableField s.tables.reporting 0 0 = 0)
    ∧ (queued service 7 ⟨60, 0x41, []⟩).link.cPort.originated.length < 8
    ∧ (∃ g ∈ (queued service 8 ⟨31, 0x44, []⟩).link.cPort.originated, g.cls = 0x44 ∧ g.dst = BitVec.ofNat 8 31)
    ∧ ¬ ((queued service 8 ⟨60, 0x41, []⟩).link.cPort.originated.length < 8
      ∨ ∃ g ∈ (queued service 8 ⟨60, 0x41, []⟩).link.cPort.originated, g.cls = 0x44 ∧ g.dst = BitVec.ofNat 8 31) := by
  decide

theorem witness_PinChangeCompared :
    service.inReset = false ∧ (service.lines.inputs.get 1).pin = false
    ∧ (let s := withLine service 1 (fun r => { r with pin := true })
      (s.lines.inputs.get 1).pin ≠ false
      ∧ (if tableField s.tables.discrete 1 0 = 1 then !false else false) = (s.lines.inputs.get 1).accepted)
    ∧ ((service.lines.inputs.get 1).pin ≠ true
      ∧ (if tableField service.tables.discrete 1 0 = 1 then !true else true) ≠ (service.lines.inputs.get 1).accepted
      ∧ tableField service.tables.discrete 1 1 ≠ 0)
    ∧ ((service.lines.inputs.get 0).pin ≠ true
      ∧ (if tableField service.tables.discrete 0 0 = 1 then !true else true) ≠ (service.lines.inputs.get 0).accepted
      ∧ tableField service.tables.discrete 0 1 = 0) := by decide

/-- A line at a level that it has shown for a time. -/
def shown (n : Fin 6) (level : Bool) (elapsed : Nat) : State :=
  withLine service n (fun r => { r with pin := level, present := level, debounce := .running elapsed })

theorem witness_TransitionAccepted :
    (shown 1 true 29).inReset = false
    ∧ ((shown 1 true 29).lines.inputs.get 1).debounce = .running 29 ∧ ¬ tableField service.tables.discrete 1 1 ≤ 29
    ∧ ((shown 1 true 30).lines.inputs.get 1).debounce = .running 30 ∧ tableField service.tables.discrete 1 1 ≤ 30
    ∧ ((shown 1 true 30).lines.inputs.get 1).present = true ∧ tableField service.tables.discrete 1 2 = 0
    ∧ ((shown 0 true 0).lines.inputs.get 0).debounce = .running 0 ∧ tableField service.tables.discrete 0 1 ≤ 0
    ∧ tableField service.tables.discrete 0 2 = 1 ∧ (shown 0 true 0).authority.latch = false
    ∧ ((shown 2 true 0).lines.inputs.get 2).present = true ∧ tableField service.tables.discrete 2 2 = 3
    ∧ tableField service.tables.discrete 4 2 = 2 ∧ ((shown 4 false 0).lines.inputs.get 4).present = false := by decide

theorem witness_FlagsCleared :
    (asks service .flagsClear (be 4 (33554432#32).toNat) ∧ 33554432 ≤ (33554432#32).toNat)
    ∧ (asks service .flagsClear (be 4 (33554431#32).toNat) ∧ (33554431#32).toNat < 33554432)
    ∧ (Ready service ∧ service.control.mode ≠ .init
      ∧ (lookupNode service.tables .c 10).bind (nodeRole service.tables) = some .cabA)
    ∧ (fresh.control.mode = .init
      ∧ (lookupNode service.tables .c 60).bind (nodeRole service.tables) = some .tool
      ∧ (lookupNode service.tables .c 20).bind (nodeRole service.tables) = some .locoComputer)
    ∧ (asks (raise .dbTrip service) .flagsClear (be 4 (256#32).toNat) ∧ (256#32).toNat < 33554432
      ∧ (256#32).getLsbD (flagBit .dbTrip) = true) := by
  unfold asks Ready MayIssue; decide

theorem witness_HeldResponseAndNoticeEnter :
    (service.inReset = false ∧ service.management.bufA.state ≠ .held ∧ service.management.bufB.state ≠ .held)
    ∧ (let s := queued { service with management := ⟨heldBuffer, Buffer.free, false⟩ } 7 ⟨60, 0x41, []⟩
      s.inReset = false ∧ s.management.bufA.state = .held ∧ s.management.bufA.response = some ⟨60, 0x41, [7, 4, 0, 2]⟩
      ∧ s.management.bufB.state = .free ∧ s.link.cPort.originated.length < 8)
    ∧ (let s := { service with management := ⟨Buffer.free, heldBuffer, false⟩ }
      s.management.bufB.state = .held ∧ s.management.bufA.state = .free)
    ∧ ¬ (queued service 8 ⟨60, 0x41, []⟩).link.cPort.originated.length < 8
    ∧ service.deferred = none ∧ service.lines.noticePending = false
    ∧ { service with lines := { service.lines with noticePending := true } }.lines.noticePending = true
    ∧ tableField service.tables.reporting 0 0 ≠ 0 := by decide

/-! ### Incident Recorder -/

/-- A snapshot of the state that is in SERVICE and at rest. -/
def still : Snapshot := formSnapshot service (compute service)

/-- An incident of one trigger. -/
def incident (state : SlotState) (seq : Nat) (guarded : Bool) : Slot :=
  { Slot.free with state := state, seq := some seq, triggers := [⟨.manual, 0, none⟩], protected_ := guarded }

/-- The Recorder with all eight slots in use, numbers 1 to 8. -/
def filled (guarded : Bool) : State := withRecorder service (fun r => { r with
  slots := (List.range 8).map (fun i => incident .sealed (i + 1) guarded), nextSeq := 9 })

/-- The Recorder with slot 0 FILLING under number 1, and `n` triggers. -/
def filling (n : Nat) : State := withRecorder service (fun r => { setSlot r 0 { incident .filling 1 false with
  triggers := List.replicate n ⟨.manual, 0, none⟩ } with nextSeq := 2 })

theorem witness_SnapshotEntersRing :
    service.recorder.divider + 1 ≠ tableField service.tables.recorder 1 0
    ∧ (let r := { service.recorder with divider := 1 }
      r.divider + 1 = tableField service.tables.recorder 1 0 ∧ ∀ k ∈ r.slots, k.state ≠ .filling)
    ∧ (∀ n ∈ [14, 15], let k := { incident .filling 1 false with snapshots := List.replicate n still }
      let r := { setSlot service.recorder 2 k with divider := 1 }
      r.divider + 1 = tableField service.tables.recorder 1 0 ∧ r.slots[2]? = some k ∧ k.state = .filling
      ∧ fillingCount r ≤ 1
      ∧ (k.snapshots.length + 1 = k.preCount + (256 - tableField service.tables.recorder 0 0) ↔ n = 15)) := by
  unfold fillingCount; decide

theorem witness_PatternMatchesFrame :
    tableField tables.recorder 4 0 ≠ 1
    ∧ tableField { tables with recorder := ⟨[[240], [2], [8388607], [4194304], [1]], true⟩ }.recorder 4 0 = 1
    ∧ (6 : Fin 8).val % 2 = 0 ∧ (7 : Fin 8).val % 2 = 1
    ∧ (fresh.control.mode ≠ .service ∧ service.control.mode = .service ∧ service.tables.patterns.loaded = true)
    ∧ (tableField service.tables.recorder 2 0).testBit (14 + (7 : Fin 8).val) = true
    ∧ (tableField State.reset.tables.recorder 2 0).testBit (14 + (7 : Fin 8).val) = false
    ∧ (∀ n ∈ [7, 8], let r := (filling n).recorder
      fillingCount r ≤ 1 ∧ r.slots[0]? = some (getSlot r 0) ∧ (getSlot r 0).state = .filling
      ∧ (getSlot r 0).triggers.length = n ∧ (getSlot r 0).capture2 = none)
    ∧ (let r := service.recorder
      (∀ j ∈ r.slots, j.state ≠ .filling) ∧ r.nextSeq ≠ 0 ∧ r.slots[0]? = some Slot.free ∧ Slot.free.state = .free)
    := by unfold fillingCount; decide

theorem witness_IncidentMarked :
    (asks fresh .incidentMark [] ∧ NumbersOk fresh.recorder ∧ fillingCount fresh.recorder ≤ 1
      ∧ fresh.control.mode ≠ .service)
    ∧ (∀ n ∈ [7, 8], asks (filling n) .incidentMark [] ∧ NumbersOk (filling n).recorder
      ∧ fillingCount (filling n).recorder ≤ 1 ∧ (filling n).control.mode = .service
      ∧ (tableField (filling n).tables.recorder 2 0).testBit 22 = true
      ∧ (filling n).recorder.slots[0]? = some (getSlot (filling n).recorder 0)
      ∧ (getSlot (filling n).recorder 0).state = .filling ∧ (getSlot (filling n).recorder 0).triggers.length = n)
    ∧ (asks service .incidentMark [] ∧ NumbersOk service.recorder ∧ fillingCount service.recorder ≤ 1
      ∧ (∀ k ∈ service.recorder.slots, k.state ≠ .filling) ∧ service.recorder.nextSeq ≠ 0
      ∧ service.recorder.slots[0]? = some Slot.free)
    ∧ (asks (filled false) .incidentMark [] ∧ NumbersOk (filled false).recorder ∧ fillingCount (filled false).recorder ≤ 1
      ∧ (∀ k ∈ (filled false).recorder.slots, k.state ≠ .filling ∧ k.state ≠ .free)
      ∧ (filled false).recorder.nextSeq ≠ 0 ∧ (filled false).recorder.slots[0]? = some (incident .sealed 1 false)
      ∧ ∀ j ∈ (filled false).recorder.slots, 1 ≤ j.seq.getD 0)
    ∧ (asks (filled true) .incidentMark [] ∧ NumbersOk (filled true).recorder ∧ fillingCount (filled true).recorder ≤ 1
      ∧ ∀ k ∈ (filled true).recorder.slots, k.state ≠ .filling ∧ k.state ≠ .free ∧ k.protected_ = true) := by
  unfold asks Ready MayIssue NumbersOk usedNumbers fillingCount
  refine ⟨?_, ?_, ?_, ?_, ?_⟩ <;> decide

theorem witness_IncidentReadAndReleased :
    (asks service .incidentRead ([8] ++ be 4 (1#32).toNat ++ [0]) ∧ 7 < (8 : Byte).toNat)
    ∧ (asks service .incidentRead ([7] ++ be 4 (1#32).toNat ++ [0]) ∧ (7 : Byte).toNat ≤ 7
      ∧ (getSlot service.recorder 7).state = .free)
    ∧ (asks (filled false) .incidentRead ([7] ++ be 4 (8#32).toNat ++ [0])
      ∧ (getSlot (filled false).recorder 7).state = .sealed
      ∧ (getSlot (filled false).recorder 7).seq = some (8#32).toNat
      ∧ (getSlot (filled false).recorder 7).seq ≠ some (7#32).toNat
      ∧ (((getSlot (filled false).recorder 7).snapshots.length + 2) / 3 < (1 : Byte).toNat)
      ∧ (0 : Byte).toNat ≤ ((getSlot (filled false).recorder 7).snapshots.length + 2) / 3)
    ∧ asks service .incidentRelease ([8] ++ be 4 (1#32).toNat)
    ∧ asks service .incidentRelease ([7] ++ be 4 (1#32).toNat)
    ∧ asks (filled false) .incidentRelease ([7] ++ be 4 (8#32).toNat)
    ∧ asks (filled false) .incidentRelease ([7] ++ be 4 (7#32).toNat) := by unfold asks Ready MayIssue; decide

/-! ### Management Unit -/

theorem witness_IncidentsAndNodesListed :
    (asks (filling 8) .incidentList [] ∧ IncidentsOk (filling 8).recorder)
    ∧ (asks service .nodeStatusGet [32, 1] ∧ 31 < (32 : Byte).toNat)
    ∧ (asks service .nodeStatusGet [31, 2] ∧ 32 < (31 : Byte).toNat + (2 : Byte).toNat)
    ∧ asks service .nodeStatusGet [0, 0] ∧ asks service .nodeStatusGet [0, 8]
    ∧ (asks service .nodeStatusGet [25, 7] ∧ (25 : Byte).toNat ≤ 31 ∧ 1 ≤ (7 : Byte).toNat ∧ (7 : Byte).toNat ≤ 7
      ∧ (25 : Byte).toNat + (7 : Byte).toNat ≤ 32) := by unfold asks Ready MayIssue IncidentsOk; decide

theorem witness_StatusAndTablesRead :
    (∀ n ∈ [(0 : Byte), 1, 9, 10], asks service .statusGet [n])
    ∧ (asks service .tableRead ([17] ++ be 2 (0#16).toNat ++ [1]) ∧ 16 < (17 : Byte).toNat)
    ∧ (asks service .tableRead ([16] ++ be 2 (2#16).toNat ++ [1]) ∧ tableOfId (16 : Byte).toNat = some .reporting
      ∧ ¬ ((1 : Byte).toNat = 0 ∨ tableEntries .reporting < (2#16).toNat + (1 : Byte).toNat
        ∨ 232 < (1 : Byte).toNat * entrySize .reporting))
    ∧ (asks service .tableRead ([16] ++ be 2 (3#16).toNat ++ [1])
      ∧ tableEntries .reporting < (3#16).toNat + (1 : Byte).toNat) := by unfold asks Ready MayIssue; decide

theorem witness_RequestsCheckedInOrder :
    (let s := { service with management := ⟨waitingBuffer 60 [], waitingBuffer 60 [], false⟩ }
    s.inReset = false ∧ s.management.bufA.state ≠ .free ∧ s.management.bufB.state ≠ .free)
    ∧ (let s := queued service 8 ⟨60, 0x41, []⟩
      s.inReset = false ∧ 8 ≤ s.link.cPort.originated.length ∧ s.management.bufA.state = .free)
    ∧ (let s := queued { service with management := ⟨waitingBuffer 60 [], Buffer.free, false⟩ } 8 ⟨60, 0x41, []⟩
      s.inReset = false ∧ 8 ≤ s.link.cPort.originated.length ∧ s.management.bufA.state ≠ .free
      ∧ s.management.bufB.state = .free)
    ∧ Ready service ∧ (bytes [9]).length < 2 ∧ 2 ≤ (bytes [9, 18]).length
    ∧ ¬ (1 ≤ ((bytes [9, 18]).getD 1 0).toNat ∧ ((bytes [9, 18]).getD 1 0).toNat ≤ 17)
    ∧ (let b := bytes [9, 17]
      1 ≤ (b.getD 1 0).toNat ∧ (b.getD 1 0).toNat ≤ 17 ∧ service.control.mode ≠ .init
      ∧ (lookupNode service.tables .c 31).bind (nodeRole service.tables) = some .recorder
      ∧ (lookupNode service.tables .c 60).bind (nodeRole service.tables) = some .tool)
    ∧ ((bytes [9, 17, 0]).drop 2).length ≠ 0
    ∧ ((lookupNode service.tables .c 10).bind (nodeRole service.tables) = some .cabA
      ∧ ((bytes [9, 7, 2]).drop 2).length = 1 ∧ ((bytes [9, 7, 2]).drop 2).getD 0 0 ≠ 1)
    ∧ (asks service .statusGet [9] ∧ 1 ≤ (9 : Byte).toNat ∧ (9 : Byte).toNat ≤ 9)
    ∧ (let s := withAuthority service (fun a => { a with pendingSwitch := some .dp })
      asks s .sourceAbort [] ∧ s.authority.pendingSwitch = some .dp) := by unfold asks Ready MayIssue; decide

/-! ### Tables and modes -/

/-- In SERVICE, standing for five seconds, with both valves LIVE and holding. -/
def secured : State :=
  live (live { service with air := ⟨⟨true, 250, false, .clear⟩, ⟨true, 250, false, .clear⟩, .running 5000⟩ } 5 0) 6 0

/-- In MAINTENANCE. -/
def maintained : State := { service with control := { Control.reset with mode := .maintenance } }

/-- A validation in flight for the tool. -/
def validating (s : State) : State := { s with
  control := { s.control with validation := some 2 }
  management := ⟨⟨.inFlight, 60, some 1, some 4, [2], none⟩, Buffer.free, false⟩ }

theorem witness_ModeSetDecided :
    (asks fresh .modeSet [0] ∧ asks fresh .modeSet [3])
    ∧ (asks (validating fresh) .modeSet [2] ∧ (validating fresh).control.validation ≠ none)
    ∧ (asks service .modeSet [2] ∧ service.control.validation = none ∧ service.control.mode = .service)
    ∧ (asks fresh .modeSet [1] ∧ fresh.control.validation = none ∧ fresh.control.mode = .init)
    ∧ (asks maintained .modeSet [1] ∧ maintained.control.mode = .maintenance ∧ asks maintained .modeSet [2])
    ∧ (asks (latched service) .modeSet [1] ∧ (latched service).control.mode = .service
      ∧ (latched service).authority.latch = true)
    ∧ (asks service .modeSet [1] ∧ service.authority.latch = false ∧ failingItems service ≠ 0)
    ∧ (asks fresh .modeSet [2] ∧ fresh.control.mode ≠ .service) := by
  unfold asks Ready MayIssue
  refine ⟨?_, ?_, ?_, ?_, ?_, ?_, ?_, ?_⟩ <;> decide

theorem witness_ServiceLeftForMaintenance :
    asks secured .modeSet [1] ∧ secured.control.mode = .service ∧ secured.control.validation = none
    ∧ secured.authority.latch = false ∧ failingItems secured = 0 ∧ roleAddress secured.tables .traction = some 53
    ∧ roleAddress secured.tables .valveT1 = some 51 ∧ roleAddress secured.tables .valveT2 = some 52
    ∧ (∀ k ∈ secured.recorder.slots, k.state ≠ .filling)
    ∧ (let k := incident .filling 1 false
      let s := withRecorder secured (fun r => setSlot r 3 k)
      asks s .modeSet [1] ∧ failingItems s = 0 ∧ s.recorder.slots[3]? = some k ∧ k.state = .filling
      ∧ fillingCount s.recorder ≤ 1) := by unfold asks Ready MayIssue fillingCount; decide

theorem witness_ValidationCompletes :
    (service.inReset = false ∧ service.control.validation = none)
    ∧ (let s := validating State.reset
      s.inReset = false ∧ s.control.validation = some 2 ∧ s.management.bufA.state = .inFlight
      ∧ s.management.bufB.state = .free ∧ s.link.cPort.originated = []
      ∧ validate s.link.own s.tables = some ⟨.nodes, none, .notLoaded⟩)
    ∧ (let s := validating maintained
      s.inReset = false ∧ s.control.validation = some 2 ∧ s.management.bufA.state = .inFlight
      ∧ s.management.bufB.state = .free ∧ s.link.cPort.originated = [] ∧ validate s.link.own s.tables = none
      ∧ s.link.cPort.counters.notPassed + 0 ≤ 4294967295
      ∧ ∀ raw ∈ s.link.ePort.forward, raw.getD 2 0 ≠ 0x70)
    ∧ (let s := setPort (validating maintained) .e { PortState.reset with
        transmitter := .sending false (wholeFrame ⟨53, 60, 0x70, 1, []⟩) 0 }
      validate s.link.own s.tables = none ∧ s.link.ePort.transmitter
        = .sending false (wholeFrame ⟨53, 60, 0x70, 1, []⟩) 0 ∧ (wholeFrame ⟨53, 60, 0x70, 1, []⟩).getD 2 0 = 0x70)
    ∧ (let s := queued { validating maintained with management :=
        ⟨waitingBuffer 60 [9, 1, 0], (validating maintained).management.bufA, false⟩ } 8 ⟨60, 0x41, []⟩
      s.inReset = false ∧ s.control.validation = some 2 ∧ s.management.bufB.state = .inFlight
      ∧ s.management.bufA.state = .waiting ∧ ¬ s.link.cPort.originated.length < 8
      ∧ s.link.cPort.transmitter ≠ .idle) := by decide

/-- The argument of a TABLE_WRITE. -/
def writing (table first count : Nat) (values : List Byte) : List Byte :=
  [BitVec.ofNat 8 table] ++ be 2 (BitVec.ofNat 16 first).toNat ++ [BitVec.ofNat 8 count] ++ values

theorem witness_TableWritten :
    (9 < tableEntries .blend ∧ ¬ tableEntries .blend ≤ 9)
    ∧ (asks fresh .tableWrite (writing 8 9 1 (bytes [0, 250])) ∧ tableOfId (8 : Byte).toNat = some .blend
      ∧ (bytes [0, 250]).length = (1 : Byte).toNat * entrySize .blend ∧ fresh.control.mode ≠ .service
      ∧ fresh.control.validation = none ∧ 1 ≤ (1 : Byte).toNat
      ∧ (9#16).toNat + (1 : Byte).toNat ≤ tableEntries .blend ∧ entryInRange .blend 9 [250] = true)
    ∧ (asks fresh .tableWrite (writing 8 10 1 (bytes [0, 250]))
      ∧ ¬ (10#16).toNat + (1 : Byte).toNat ≤ tableEntries .blend)
    ∧ (asks fresh .tableWrite (writing 8 3 1 (bytes [0, 0])) ∧ entryInRange .blend 3 [0] ≠ true)
    ∧ asks service .tableWrite (writing 8 9 1 (bytes [0, 250]))
    ∧ asks (validating fresh) .tableWrite (writing 8 9 1 (bytes [0, 250]))
    ∧ (asks fresh .tableWrite (writing 7 17 1 (bytes [3, 232])) ∧ tableOfId (7 : Byte).toNat = some .axle
      ∧ entryInRange .axle 17 [1000] = true)
    ∧ (asks fresh .tableWrite (writing 9 3 1 (bytes [0, 0, 0, 4])) ∧ tableOfId (9 : Byte).toNat = some .heat
      ∧ entryInRange .heat 3 [4] = true) := by unfold asks Ready MayIssue; decide

/-- The tables after a write of one entry. -/
def rewritten (id : TableId) (i : Nat) (fields : List Nat) : Tables :=
  setTable tables id { getTable tables id with entries := (getTable tables id).entries.set i fields }

theorem witness_TableWritten_nodes :
    (asks fresh .tableWrite (writing 0 4 1 (bytes [1, 50, 1, 7, 0, 200])) ∧ tableOfId (0 : Byte).toNat = some .nodes
      ∧ entryInRange .nodes 4 [1, 50, 1, 7, 200] = true)
    ∧ (let ts := rewritten .nodes 4 [1, 50, 1, 7, 200]
      nodeUsed ts 4 = true ∧ nodeAddress ts 4 = nodeAddress tables 4 ∧ nodePort ts 4 = nodePort tables 4
      ∧ nodeRole ts 4 = nodeRole tables 4 ∧ nodeTimeout ts 4 ≠ nodeTimeout tables 4 ∧ nodeTimeout ts 4 ≠ 0
      ∧ (∀ e ∈ [199, 200], (getNode (live fresh 4 e) 4).liveness = .live
        ∧ (getNode (live fresh 4 e) 4).timer = .running e ∧ (nodeTimeout ts 4 ≤ e ↔ e = 200))
      ∧ nodeRole ts 4 = some .axleConc ∧ binding ts .axleConc = some 4)
    ∧ nodeTimeout (rewritten .nodes 4 [1, 50, 1, 7, 0]) 4 = 0
    ∧ (let ts := rewritten .nodes 0 [1, 13, 0, 1, 200]
      entryInRange .nodes 0 [1, 13, 0, 1, 200] = true ∧ nodeAddress ts 0 ≠ nodeAddress tables 0
      ∧ binding ts .cabA = some 0 ∧ binding tables .cabA = some 0
      ∧ nodeAddress ts 1 = nodeAddress tables 1 ∧ nodeAddress ts 10 = nodeAddress tables 10)
    ∧ (((driven fresh 60 0).authority.monitors.get .cabA).state = .valid
      ∧ (driven fresh 60 0).authority.active = .source .cabA) := by unfold asks Ready MayIssue; decide

theorem witness_TableWritten_timers :
    (asks fresh .tableWrite (writing 12 2 1 (bytes [0, 0, 7, 208])) ∧ tableOfId (12 : Byte).toNat = some .source
      ∧ entryInRange .source 2 [2000] = true ∧ tableField (rewritten .source 2 [2000]).source 2 0 = 2000
      ∧ (∀ e ∈ [1999, 2000], (withAuthority fresh (fun a => { a with holdTimer := .running e })).authority.holdTimer
        = .running e ∧ (tableField (rewritten .source 2 [2000]).source 2 0 ≤ e ↔ e = 2000)))
    ∧ (asks fresh .tableWrite (writing 11 12 1 (bytes [11, 184])) ∧ tableOfId (11 : Byte).toNat = some .slide
      ∧ entryInRange .slide 12 [3000] = true
      ∧ fresh.slide.speedState ≠ .lost ∧ tableField (rewritten .slide 12 [3000]).slide 12 0 < 3001
      ∧ ¬ tableField (rewritten .slide 12 [3000]).slide 12 0 < 3000
      ∧ entryInRange .slide 0 [100] = true ∧ tableField (rewritten .slide 0 [100]).slide 0 0 < 101
      ∧ entryInRange .slide 19 [0] = true ∧ tableField (rewritten .slide 19 [0]).slide 19 0 = 0)
    ∧ (asks fresh .tableWrite (writing 15 1 1 (bytes [1, 0, 3])) ∧ tableOfId (15 : Byte).toNat = some .discrete
      ∧ entryInRange .discrete 1 [1, 0, 3] = true ∧ tableField tables.discrete 1 0 = 0
      ∧ tableField (rewritten .discrete 1 [1, 0, 3]).discrete 1 0 = 1
      ∧ tableField (rewritten .discrete 1 [1, 0, 3]).discrete 1 1 = 0
      ∧ (fresh.lines.inputs.get 1).pin = false ∧ (fresh.lines.inputs.get 1).accepted = false
      ∧ tableField tables.discrete 1 1 ≠ tableField (rewritten .discrete 1 [0, 20, 0]).discrete 1 1
      ∧ (shown 1 true 20).lines.inputs.a2.debounce = .running 20)
    ∧ (asks fresh .tableWrite (writing 16 0 1 (bytes [0, 0, 0, 31])) ∧ tableOfId (16 : Byte).toNat = some .reporting
      ∧ entryInRange .reporting 0 [31] = true ∧ flagSet fresh .configChanged = false
      ∧ (tableField (rewritten .reporting 0 [31]).reporting 1 0).testBit 18 = true
      ∧ tableField (rewritten .reporting 0 [31]).reporting 0 0 ≠ 0
      ∧ tableField (rewritten .reporting 0 [0]).reporting 0 0 = 0) := by unfold asks Ready MayIssue; decide

theorem witness_RestartTakesRestartState :
    (asks service .restart [] ∧ service.control.mode = .service)
    ∧ (asks (validating fresh) .restart [] ∧ (validating fresh).control.validation ≠ none)
    ∧ (let s := withLine fresh 2 (fun r => { r with pin := true })
      asks s .restart [] ∧ s.control.mode ≠ .service ∧ s.control.validation = none
      ∧ ∀ i : Fin 6, (if tableField s.tables.discrete i.val 0 = 1 then !(s.lines.inputs.get i).pin
        else (s.lines.inputs.get i).pin) = false)
    ∧ (asks fresh .restart [] ∧ fresh.control.mode ≠ .service ∧ fresh.control.validation = none
      ∧ tableField fresh.tables.discrete 2 0 = 1 ∧ (fresh.lines.inputs.get 2).pin = false
      ∧ tableField fresh.tables.discrete 2 1 = 0) := by
  unfold asks Ready MayIssue; decide

/-! ### What every step keeps -/

/-- In SERVICE with an incident FILLING, an axle ISOLATED, a validation's table set, and time to pass. -/
def running : State := withAxle (filling 1) 2 (fun a => { a with state := .isolated, f := 0, isolation := some .command })

/-- The step of `running`. -/
theorem running_steps : step running = .next (tick running) := by rfl

theorem witness_StepKeepsAuthorityAndAxles :
    step running = .next (tick running) ∧ AuthorityOk running.authority ∧ FactorsOk running.slide
    ∧ SpeedsOk running.slide := by
  refine ⟨running_steps, ⟨?_, ?_, ?_, ?_⟩, ?_, ?_⟩
  · exact (by decide : Phase.start ≠ Phase.none)
  all_goals (try unfold FactorsOk AxleOk); (try unfold SpeedsOk); decide

theorem witness_StepKeepsIncidents :
    step running = .next (tick running) ∧ SlotsOk running ∧ IncidentsOk running.recorder ∧ NumbersOk running.recorder
    ∧ fillingCount running.recorder ≤ 1 := by
  refine ⟨running_steps, ?_⟩
  unfold SlotsOk IncidentsOk NumbersOk usedNumbers fillingCount; decide

theorem witness_StepKeepsQueues :
    step running = .next (tick running) ∧ QueuesOk running.link ∧ IdleOk running.link ∧ NoForeignSetpoints running := by
  refine ⟨running_steps, ?_⟩
  unfold QueuesOk PortOk IdleOk NoForeignSetpoints; decide

theorem witness_StepKeepsModes :
    step running = .next (tick running) ∧ BuffersOk running ∧ TablesOk running ∧ ServiceOnlyOk running := by
  refine ⟨running_steps, ?_⟩
  unfold BuffersOk TablesOk ServiceOnlyOk; decide

theorem witness_StepKeepsOutputsAndRecords :
    step running = .next (tick running) ∧ OutputsOk running ∧ StandstillOk running ∧ TruckOk running.air.truck1
    ∧ TruckOk running.air.truck2 ∧ BrakeOk running.brake ∧ HeatFactorOk running := by
  refine ⟨running_steps, ?_, ?_, ?_, ?_, ⟨?_, ?_⟩, ?_⟩
  · unfold OutputsOk; decide
  · unfold StandstillOk; decide
  · unfold TruckOk; decide
  · unfold TruckOk; decide
  · exact (by decide : running.brake.aLast = 0)
  · decide
  · unfold HeatFactorOk; decide

end Sys2Proof.Tests
end

section
/-! PROOF. The interpolation rule (R67): the value on one segment, the walk of `interpFrom` to the segment that
holds the argument, and the rule for a whole curve. -/

namespace Sys2Proof.Machine

/-! ## One segment -/

section
variable {x1 y1 x2 y2 x : Nat}

/-- On a segment the share of the rise (or fall) gone through at `x` is at most the whole of it. -/
theorem segmentShare_le (dy : Nat) (hx : x < x2) : dy * (x - x1) / (x2 - x1) ≤ dy :=
  Nat.div_le_of_le_mul <|
    calc dy * (x - x1) ≤ dy * (x2 - x1) := Nat.mul_le_mul_left dy (by omega)
      _ = (x2 - x1) * dy := Nat.mul_comm ..

/-- The two branches of `segmentValue` are the one signed quotient of R67: on a falling segment the product is the
negative of that of the natural differences, and truncation toward zero commutes with the sign. -/
theorem segmentValue_eq_tdiv (h1 : x1 ≤ x) (h2 : x < x2) :
    (segmentValue x1 y1 x2 y2 x : Int)
      = y1 + (((y2 : Int) - y1) * ((x : Int) - x1)).tdiv ((x2 : Int) - x1) := by
  have hx : (x : Int) - x1 = ((x - x1 : Nat) : Int) := by omega
  have hd : (x2 : Int) - x1 = ((x2 - x1 : Nat) : Int) := by omega
  unfold segmentValue
  rw [hx, hd]
  split
  next hrise =>
    have hy : (y2 : Int) - y1 = ((y2 - y1 : Nat) : Int) := by omega
    rw [hy, ← Int.natCast_mul, ← Int.ofNat_tdiv, Int.natCast_add]
  next hfall =>
    have hy : (y2 : Int) - y1 = -((y1 - y2 : Nat) : Int) := by omega
    have hle := segmentShare_le (x1 := x1) (y1 - y2) h2
    rw [hy, Int.neg_mul, Int.neg_tdiv, ← Int.natCast_mul, ← Int.ofNat_tdiv]
    omega

theorem segmentValue_left : segmentValue x1 y1 x2 y2 x1 = y1 := by simp [segmentValue]

theorem segmentValue_bounds {low high : Nat} (h2 : x < x2) (hy1 : low ≤ y1 ∧ y1 ≤ high)
    (hy2 : low ≤ y2 ∧ y2 ≤ high) :
    low ≤ segmentValue x1 y1 x2 y2 x ∧ segmentValue x1 y1 x2 y2 x ≤ high := by
  unfold segmentValue
  split
  next hrise =>
    have hle := segmentShare_le (x1 := x1) (y2 - y1) h2
    generalize (y2 - y1) * (x - x1) / (x2 - x1) = share at hle ⊢
    omega
  next hfall =>
    have hle := segmentShare_le (x1 := x1) (y1 - y2) h2
    generalize (y1 - y2) * (x - x1) / (x2 - x1) = share at hle ⊢
    omega

end

/-! ## Curves with rising x -/

/-- Point `k` of a curve, as the statements of R67 name it. -/
abbrev curvePoint (points : List (Nat × Nat)) (k : Nat) : Nat × Nat := points.getD k (0, 0)

/-- The x of a curve rise strictly (R67). -/
abbrev RisingX (points : List (Nat × Nat)) : Prop := points.Pairwise (fun a b => a.1 < b.1)

theorem curvePoint_mem {points : List (Nat × Nat)} {k : Nat} (hk : k < points.length) :
    curvePoint points k ∈ points := by
  rw [curvePoint, List.getD_eq_getElem _ _ hk]
  exact List.getElem_mem hk

theorem RisingX.lt {points : List (Nat × Nat)} (h : RisingX points) {i j : Nat} (hij : i < j)
    (hj : j < points.length) : (curvePoint points i).1 < (curvePoint points j).1 := by
  rw [curvePoint, curvePoint, List.getD_eq_getElem _ _ (hij.trans hj), List.getD_eq_getElem _ _ hj]
  exact List.pairwise_iff_getElem.mp h i j (hij.trans hj) hj hij

theorem RisingX.le {points : List (Nat × Nat)} (h : RisingX points) {i j : Nat} (hij : i ≤ j)
    (hj : j < points.length) : (curvePoint points i).1 ≤ (curvePoint points j).1 := by
  rcases hij.eq_or_lt with rfl | hlt
  · exact le_rfl
  · exact (h.lt hlt hj).le

/-! ## The walk along the curve -/

section
variable {x : Nat}

theorem interpFrom_cons_of_le {x1 y1 x2 y2 : Nat} {more : List (Nat × Nat)} (h : x2 ≤ x) :
    interpFrom x1 y1 ((x2, y2) :: more) x = interpFrom x2 y2 more x := if_pos h

theorem interpFrom_cons_of_lt {x1 y1 x2 y2 : Nat} {more : List (Nat × Nat)} (h : x < x2) :
    interpFrom x1 y1 ((x2, y2) :: more) x = segmentValue x1 y1 x2 y2 x := if_neg (by omega)

/-- From the last x on, the walk ends at the last point. -/
theorem interpFrom_of_last_le (rest : List (Nat × Nat)) : ∀ x1 y1 : Nat, RisingX ((x1, y1) :: rest) →
    (curvePoint ((x1, y1) :: rest) rest.length).1 ≤ x →
    interpFrom x1 y1 rest x = (curvePoint ((x1, y1) :: rest) rest.length).2 := by
  induction rest with
  | nil => intro x1 y1 _ _; rfl
  | cons q more ih =>
    obtain ⟨x2, y2⟩ := q
    intro x1 y1 hrise hlast
    have hx2 : x2 ≤ x := (hrise.le (i := 1) (by simp) (by simp)).trans hlast
    rw [interpFrom_cons_of_le hx2]
    exact ih x2 y2 hrise.of_cons hlast

/-- Between the points `k` and `k + 1`, the walk ends in the segment that joins them. -/
theorem interpFrom_of_between (rest : List (Nat × Nat)) : ∀ x1 y1 k : Nat, RisingX ((x1, y1) :: rest) →
    k < rest.length → (curvePoint ((x1, y1) :: rest) k).1 ≤ x → x < (curvePoint ((x1, y1) :: rest) (k + 1)).1 →
    interpFrom x1 y1 rest x =
      segmentValue (curvePoint ((x1, y1) :: rest) k).1 (curvePoint ((x1, y1) :: rest) k).2
        (curvePoint ((x1, y1) :: rest) (k + 1)).1 (curvePoint ((x1, y1) :: rest) (k + 1)).2 x := by
  induction rest with
  | nil => intro x1 y1 k _ hk; exact absurd hk (Nat.not_lt_zero k)
  | cons q more ih =>
    obtain ⟨x2, y2⟩ := q
    intro x1 y1 k hrise hk hleft hright
    cases k with
    | zero => exact interpFrom_cons_of_lt hright
    | succ k =>
      have hx2 : x2 ≤ x := (hrise.le (i := 1) (by omega) (Nat.lt_succ_of_lt hk)).trans hleft
      rw [interpFrom_cons_of_le hx2]
      exact ih x2 y2 k hrise.of_cons (Nat.lt_of_succ_lt_succ hk) hleft hright

theorem interpFrom_bounds {low high : Nat} (rest : List (Nat × Nat)) : ∀ x1 y1 : Nat,
    (∀ q ∈ (x1, y1) :: rest, low ≤ q.2 ∧ q.2 ≤ high) →
    low ≤ interpFrom x1 y1 rest x ∧ interpFrom x1 y1 rest x ≤ high := by
  induction rest with
  | nil => intro x1 y1 hy; exact hy (x1, y1) (by simp)
  | cons q more ih =>
    obtain ⟨x2, y2⟩ := q
    intro x1 y1 hy
    obtain ⟨hy1, hmore⟩ := List.forall_mem_cons.mp hy
    rcases Nat.lt_or_ge x x2 with hlt | hge
    · rw [interpFrom_cons_of_lt hlt]
      exact segmentValue_bounds hlt hy1 (hmore (x2, y2) (by simp))
    · rw [interpFrom_cons_of_le hge]
      exact ih x2 y2 hmore

end

/-! ## The whole curve (R67) -/

section
variable {points : List (Nat × Nat)} {x : Nat}

theorem interp_of_le_first (h : x ≤ (curvePoint points 0).1) : interp points x = (curvePoint points 0).2 := by
  cases points with
  | nil => rfl
  | cons q rest => exact if_pos h

/-- Beyond its first point a curve is evaluated by the walk. -/
theorem interp_cons_of_first_lt {x1 y1 : Nat} {rest : List (Nat × Nat)}
    (h : (curvePoint ((x1, y1) :: rest) 0).1 < x) :
    interp ((x1, y1) :: rest) x = interpFrom x1 y1 rest x := if_neg (Nat.not_le.mpr h)

theorem interp_of_last_le (hlen : 2 ≤ points.length) (hrise : RisingX points)
    (h : (curvePoint points (points.length - 1)).1 ≤ x) :
    interp points x = (curvePoint points (points.length - 1)).2 := by
  have hfirst : (curvePoint points 0).1 < x :=
    (hrise.lt (by omega : 0 < points.length - 1) (by omega)).trans_le h
  obtain ⟨⟨x1, y1⟩, rest, rfl⟩ := List.exists_cons_of_length_pos (by omega : 0 < points.length)
  rw [interp_cons_of_first_lt hfirst]
  exact interpFrom_of_last_le rest x1 y1 hrise h

theorem interp_of_between {k : Nat} (hrise : RisingX points) (hk : k < points.length - 1)
    (hleft : (curvePoint points k).1 ≤ x) (hright : x < (curvePoint points (k + 1)).1)
    (hfirst : (curvePoint points 0).1 < x) :
    interp points x = segmentValue (curvePoint points k).1 (curvePoint points k).2
      (curvePoint points (k + 1)).1 (curvePoint points (k + 1)).2 x := by
  obtain ⟨⟨x1, y1⟩, rest, rfl⟩ := List.exists_cons_of_length_pos (by omega : 0 < points.length)
  rw [interp_cons_of_first_lt hfirst]
  exact interpFrom_of_between rest x1 y1 k hrise hk hleft hright

/-- At a point of the curve the value is that point's y: the first and the last by the ends' rules, an interior
one as the left end of its segment. -/
theorem interp_curvePoint (hlen : 2 ≤ points.length) (hrise : RisingX points) {k : Nat}
    (hk : k ≤ points.length - 1) : interp points (curvePoint points k).1 = (curvePoint points k).2 := by
  rcases hk.eq_or_lt with rfl | hlt
  · exact interp_of_last_le hlen hrise le_rfl
  · rcases k.eq_zero_or_pos with rfl | hpos
    · exact interp_of_le_first le_rfl
    · rw [interp_of_between hrise hlt le_rfl (hrise.lt k.lt_succ_self (by omega)) (hrise.lt hpos (by omega)),
        segmentValue_left]

theorem interp_bounds {low high : Nat} (hlen : 2 ≤ points.length)
    (hy : ∀ q ∈ points, low ≤ q.2 ∧ q.2 ≤ high) : low ≤ interp points x ∧ interp points x ≤ high := by
  rcases Nat.lt_or_ge (curvePoint points 0).1 x with hlt | hge
  · obtain ⟨⟨x1, y1⟩, rest, rfl⟩ := List.exists_cons_of_length_pos (by omega : 0 < points.length)
    rw [interp_cons_of_first_lt hlt]
    exact interpFrom_bounds rest x1 y1 hy
  · rw [interp_of_le_first hge]
    exact hy _ (curvePoint_mem (by omega))

end

/-- Settles O32: the walk of `interpFrom` ends in the segment that holds the argument, whose value is the signed
quotient of R67. -/
theorem interpolationRule : Obligations.InterpolationRule := by
  unfold Obligations.InterpolationRule
  refine ⟨?_, by decide, by decide⟩
  intro points hlen _ hrise p last
  refine ⟨?first, ?last, ?between, ?knot, ?bounds⟩
  case first => exact fun _ => interp_of_le_first
  case last => exact fun _ => interp_of_last_le hlen hrise
  case between =>
    intro x k hk hleft hright hfirst
    rw [interp_of_between hrise hk hleft hright hfirst]
    exact segmentValue_eq_tdiv hleft hright
  case knot => exact fun _ => interp_curvePoint hlen hrise
  case bounds => exact fun _ _ _ => interp_bounds hlen

end Sys2Proof.Machine
end

section
/-! PROOF. The hand-over of an originated frame (R138, R139, R140): what it makes of the queue, and what the port is
then, behind a frame that is being sent and at an IDLE transmitter. -/

namespace Sys2Proof.Machine

/-! ## Kinds -/

theorem sameKind_iff (f g : OriginatedFrame) : sameKind f g = true ↔ g.cls = f.cls ∧ g.dst = f.dst := by
  rw [sameKind, Bool.and_eq_true, decide_eq_true_iff, decide_eq_true_iff, eq_comm, eq_comm (a := f.dst)]

theorem supersedes_c_iff (cls : Byte) : supersedes .c cls = true ↔ cls = 0x44 ∨ cls = 0x48 := by
  rw [supersedes, Bool.or_eq_true, decide_eq_true_iff, decide_eq_true_iff, Config.clsNotice, Config.clsBrakeReport]

theorem supersedes_e_iff (cls : Byte) : supersedes .e cls = true ↔ cls = 0x70 ∨ cls = 0x74 := by
  rw [supersedes, Bool.or_eq_true, decide_eq_true_iff, decide_eq_true_iff, Config.clsDbSetpoint, Config.clsBcSetpoint]

/-! ## The queue -/

section
variable {p : Port} {f : OriginatedFrame}

theorem replaceFirst_append {before after : List OriginatedFrame} {g : OriginatedFrame}
    (hg : sameKind f g = true) (hbefore : ∀ x ∈ before, ¬ sameKind f x = true) :
    replaceFirst f (before ++ g :: after) = before ++ f :: after := by
  induction before with
  | nil => exact if_pos hg
  | cons x xs ih =>
    obtain ⟨hx, hxs⟩ := List.forall_mem_cons.mp hbefore
    calc replaceFirst f (x :: xs ++ g :: after)
        = x :: replaceFirst f (xs ++ g :: after) := if_neg hx
      _ = x :: xs ++ f :: after := by rw [ih hxs, List.cons_append]

theorem queueOriginated_of_waiting {before after : List OriginatedFrame} {g : OriginatedFrame}
    (hclass : supersedes p f.cls = true) (hg : sameKind f g = true)
    (hbefore : ∀ x ∈ before, ¬ sameKind f x = true) :
    queueOriginated p (before ++ g :: after) f = some (before ++ f :: after) := by
  have hany : (before ++ g :: after).any (sameKind f) = true :=
    List.any_eq_true.mpr ⟨g, by simp, hg⟩
  rw [queueOriginated, hclass, hany, Bool.and_self, if_pos rfl, replaceFirst_append hg hbefore]

theorem queueOriginated_of_no_like {q : List OriginatedFrame}
    (h : supersedes p f.cls = true → ∀ x ∈ q, ¬ sameKind f x = true) :
    queueOriginated p q f = if q.length < Config.originatedCapacity then some (q ++ [f]) else none := by
  have hnot : ¬ (supersedes p f.cls && q.any (sameKind f)) = true := by
    rw [Bool.and_eq_true, List.any_eq_true]
    rintro ⟨hclass, x, hx, hlike⟩
    exact h hclass x hx hlike
  exact if_neg hnot

end

/-! ## The port -/

section
variable {s : State} {p : Port} {f : OriginatedFrame}

/-- A frame that enters a queue behind a frame that is being sent changes that queue alone. -/
theorem handOver_of_busy {q : List OriginatedFrame} (hbusy : (getPort s p).transmitter ≠ .idle)
    (hq : queueOriginated p (getPort s p).originated f = some q) :
    handOver s p f = setPort s p { getPort s p with originated := q } := by
  rw [handOver, enterOriginated, hq, Option.map_some, opportunityIfIdle_eq, getPort_setPort_same, setPort_setPort]
  cases htx : (getPort s p).transmitter with
  | idle => exact absurd htx hbusy
  | sending originated bytes micros => rfl

theorem handOver_of_no_room (hq : queueOriginated p (getPort s p).originated f = none) :
    handOver s p f = setPort s p { getPort s p with counters := { (getPort s p).counters with
      originatedDrop := bump (getPort s p).counters.originatedDrop } } := by
  rw [handOver, enterOriginated, hq, Option.map_none, countAt]

/-- A frame that enters the empty queue of an IDLE transmitter is taken out again by the opportunity it gives. -/
theorem handOver_of_idle (hidle : (getPort s p).transmitter = .idle) (hempty : (getPort s p).originated = []) :
    handOver s p f = setPort s p { getPort s p with
      transmitter := .sending true (sentBytes s.link.own (getPort s p).sequence f) 0
      sequence := (getPort s p).sequence + 1 } := by
  have hq : queueOriginated p (getPort s p).originated f = some [f] := by
    rw [hempty, queueOriginated_of_no_like (by simp)]
    rfl
  rw [handOver, enterOriginated, hq, Option.map_some, opportunityIfIdle_eq, getPort_setPort_same, setPort_setPort,
    setPort_own]
  simp only [hidle, takeNext, ← hempty]

end

/-- Settles O12: behind a frame that is being sent the hand-over is what it makes of the queue, by the three cases of
R138 and R139; at an IDLE transmitter the new frame is the one taken. -/
theorem originatedFrameHandedOver : Obligations.OriginatedFrameHandedOver := by
  unfold Obligations.OriginatedFrameHandedOver
  refine ⟨?replaced, ?joined, ?sent⟩
  case replaced =>
    intro s p f g before after hbusy hqueue hcls hdst hbefore hclass
    have hsup : supersedes p f.cls = true := by
      rcases hclass with ⟨rfl, hc⟩ | ⟨rfl, he⟩
      · exact (supersedes_c_iff f.cls).mpr hc
      · exact (supersedes_e_iff f.cls).mpr he
    refine handOver_of_busy hbusy ?_
    rw [hqueue]
    exact queueOriginated_of_waiting hsup ((sameKind_iff f g).mpr ⟨hcls, hdst⟩)
      fun x hx hlike => hbefore x hx ((sameKind_iff f x).mp hlike)
  case joined =>
    intro s p f hbusy hplain
    have hnoLike : supersedes p f.cls = true → ∀ x ∈ (getPort s p).originated, ¬ sameKind f x = true := by
      intro hsup x hx hlike
      rcases hplain with ⟨rfl, hnotice, hreport⟩ | ⟨rfl, hdb, hbc⟩ | hnone
      · exact ((supersedes_c_iff f.cls).mp hsup).elim hnotice hreport
      · exact ((supersedes_e_iff f.cls).mp hsup).elim hdb hbc
      · exact hnone x hx ((sameKind_iff f x).mp hlike)
    have hq := queueOriginated_of_no_like hnoLike
    split
    next hroom => exact handOver_of_busy hbusy (hq.trans (if_pos hroom))
    next hfull => exact handOver_of_no_room (hq.trans (if_neg hfull))
  case sent => exact fun s p f hidle hempty => handOver_of_idle hidle hempty

end Sys2Proof.Machine
end

section
/-! PROOF. What an event can change, said once: the moves of each block, and a path of such changes for every operation
that leaves the request buffers and the validation mark alone.  Each invariant is then proved move by move. -/

namespace Sys2Proof.Machine

/-! ## The moves of each block -/

/-- The moves of the Demand Authority Unit (chapter 1). -/
inductive AuthorityMove (a : Authority) : Authority → Prop
  /-- Records, mark, latch and reset timer, on which the active source does not depend. -/
  | note (good : PerSource (Option GoodDemand)) (autoMark latch : Bool) (resetTimer : Timer) :
      AuthorityMove a { a with good := good, autoMark := autoMark, latch := latch, resetTimer := resetTimer }
  | monitor (k : Source) (m : Monitor) (h : (a.monitors.get k).state = .valid → m.state = .valid) :
      AuthorityMove a { a with monitors := a.monitors.set k m }
  | silence (k : Source) (h : (a.monitors.get k).state = .valid → a.active ≠ .source k) :
      AuthorityMove a { a with monitors := a.monitors.set k ⟨.silent, 0⟩ }
  | lose (k : Source) :
      AuthorityMove a { a with
        monitors := a.monitors.set k ⟨.silent, 0⟩
        active := .fallback
        phase := .hold
        lost := some k
        holdTimer := .running 0
        pendingSwitch := none }
  | switch (k : Source) (hvalid : (a.monitors.get k).state = .valid)
      (hlock : a.pendingSwitch = some k ∨ a.lock = none ∨ a.lock = some k) :
      AuthorityMove a { a with
        active := .source k, pendingSwitch := none, phase := .none, lost := none, holdTimer := .stopped }
  | select (k : Source) (hlock : a.lock = none ∨ a.lock = some k) : AuthorityMove a { a with pendingSwitch := some k }
  | abort : AuthorityMove a { a with pendingSwitch := none }
  | lock (k : Source) (hactive : a.active = .source k) (hlock : a.lock = none) :
      AuthorityMove a { a with lock := some k, pendingSwitch := none }
  | penalty (h : a.holdTimer ≠ .stopped) : AuthorityMove a { a with phase := .penalty, holdTimer := .stopped }

/-- A change of an axle record outside the measuring of a sample: the speed stands, and R45 is kept. -/
def AxleKept (a b : AxleRecord) : Prop := b.v = a.v ∧ (AxleOk a → AxleOk b)

/-- A move of the Dynamic Brake Channel's state machine and timers: status and heat stand, and SETUP or ACTIVE is
entered in SERVICE alone, or from one another. -/
structure BrakeMove (mode : Mode) (a b : Brake) : Prop where
  status : b.status = a.status
  aLast : b.aLast = a.aLast
  heat : b.heat = a.heat
  g : b.g = a.g
  cause : (a.cause ≠ none ↔ a.state = .tripped) → (b.cause ≠ none ↔ b.state = .tripped)
  excited : excitation b = true → excitation a = true ∨ mode = .service

/-- The moves of the Incident Recorder (chapter 6). -/
inductive RecorderMove (mode : Mode) (r : Recorder) : Recorder → Prop
  | tally (overwrites lostCount : Nat) : RecorderMove mode r { r with overwrites := overwrites, lostCount := lostCount }
  | ring (ring : List Snapshot) (divider : Nat)
      (h : r.ring.length ≤ Config.ringCapacity → ring.length ≤ Config.ringCapacity) :
      RecorderMove mode r { r with ring := ring, divider := divider }
  | opened (i : Nat) (k : Slot) (hmode : mode = .service) (hnone : fillingSlot r = none) (hnext : r.nextSeq ≠ 0)
      (hstate : k.state = .filling) (hseq : k.seq = some r.nextSeq) (htriggers : k.triggers.length = 1) :
      RecorderMove mode r { setSlot r i k with nextSeq := nextSequence r.nextSeq }
  | edited (i : Nat) (k : Slot) (hold : (getSlot r i).state ≠ .free) (hstate : k.state ≠ .free)
      (hfilling : k.state = .filling → (getSlot r i).state = .filling) (hseq : k.seq = (getSlot r i).seq)
      (htriggers : (getSlot r i).triggers.length ≤ k.triggers.length)
      (hcapacity : (getSlot r i).triggers.length ≤ Config.triggerCapacity →
        k.triggers.length ≤ Config.triggerCapacity) :
      RecorderMove mode r (setSlot r i k)
  | freed (i : Nat) : RecorderMove mode r (setSlot r i Slot.free)

/-- A port after the opportunity that an IDLE transmitter has (R140). -/
def settle (own : Byte) (ps : PortState) : PortState :=
  match ps.transmitter with
  | .idle => takeNext own 0 ps
  | .sending _ _ _ => ps

theorem opportunityIfIdle_settle (s : State) (p : Port) :
    opportunityIfIdle s p = setPort s p (settle s.link.own (getPort s p)) := by
  rw [opportunityIfIdle_eq]; rfl

/-- The moves of a port (chapter 7). -/
inductive PortMove (s : State) (p : Port) : PortState → Prop
  | counted (k : PortCounters) : PortMove s p { getPort s p with counters := k }
  | entered (f : OriginatedFrame) (q : List OriginatedFrame)
      (h : queueOriginated p (getPort s p).originated f = some q) :
      PortMove s p (settle s.link.own { getPort s p with originated := q })
  | forwarded (raw : List Byte) (hroom : (getPort s p).forward.length < Config.forwardCapacity)
      (hforeign : s.control.mode = .service → p = .e → isSetpoint raw = false) :
      PortMove s p (settle s.link.own { getPort s p with forward := (getPort s p).forward ++ [raw] })
  | completed (carry : Nat) : PortMove s p (takeNext s.link.own carry (getPort s p))

/-- The Recorder after SERVICE is left (R112). -/
def sealedRecorder (r : Recorder) : Recorder :=
  match fillingSlot r with
  | none => r
  | some i => setSlot r i { getSlot r i with state := .sealed, endCause := some .modeChange }

/-- The channel after SERVICE is left (R58). -/
def leftBrake (b : Brake) : Brake := if excitation b then { quiesce b with state := .off } else b

/-- One change of the part inside an event.  The request buffers, the validation mark, the waiting commands and the
holds stand in all of them. -/
inductive Change (s : State) : State → Prop
  | lines (l : Lines) : Change s { s with lines := l }
  | kept (d : List OriginatedFrame) (h : s.deferred ≠ none) : Change s { s with deferred := some d }
  | nodes (n : List NodeRuntime) : Change s { s with link := { s.link with nodes := n } }
  | port (p : Port) (ps : PortState) (h : PortMove s p ps) : Change s (setPort s p ps)
  | authority (a : Authority) (h : AuthorityMove s.authority a) : Change s { s with authority := a }
  | axles (x : Six AxleRecord) (h : ∀ i, AxleKept (s.slide.axles.get i) (x.get i)) :
      Change s { s with slide := { s.slide with axles := x } }
  | sand (request : Bool) (timer : Timer) :
      Change s { s with slide := { s.slide with sandRequest := request, sandTimer := timer } }
  | radar (r : Option RadarRecord) : Change s { s with slide := { s.slide with radar := r } }
  | sample (rd : Six AxleReading) : Change s (evalStandstill (sampleMeasure rd s))
  | speedLost : Change s (evalStandstill { s with slide := { s.slide with speedState := .lost, staleTimer := .stopped } })
  | brake (b : Brake) (h : BrakeMove s.control.mode s.brake b) : Change s { s with brake := b }
  | traction (t : TractionRecord) (h : ∀ i, t.effort.get i ≤ 120) : Change s (storeTraction t s)
  | heat (h : s.tables.heat.loaded = true) (heat : Nat) (hheat : heat ≤ Config.maxU32) :
      Change s { s with brake := { s.brake with heat := heat, g := thermalFactor s.tables heat } }
  | heatTimer (n : Nat) : Change s { s with brake := { s.brake with heatElapsed := n } }
  | blend (b : Blend) (h : b.timer ≠ .stopped → s.blend.timer ≠ .stopped ∨ s.control.mode = .service) :
      Change s { s with blend := b }
  | truck (t : Truck) (r : TruckRecord) (h : TruckOk (getTruck s t) → TruckOk r) : Change s (setTruck s t r)
  | recorder (r : Recorder) (h : RecorderMove s.control.mode s.recorder r) : Change s { s with recorder := r }
  | timeBase (b : Option TimeBase) : Change s { s with control := { s.control with timeBase := b } }
  | tables (ts : Tables) (hmode : s.control.mode ≠ .service) (h : ts.heat = s.tables.heat) :
      Change s { s with tables := ts }
  | heatTable (ts : Tables) (hmode : s.control.mode ≠ .service) :
      Change s { s with tables := ts, brake := { s.brake with g := thermalFactor ts s.brake.heat } }
  | left (e : Six Nat) (p1 p2 : Nat) :
      Change s { s with
        control := { s.control with mode := .maintenance }
        brake := leftBrake s.brake
        blend := { s.blend with timer := .stopped, e := e, p1 := p1, p2 := p2 }
        recorder := sealedRecorder s.recorder }
  | entered (h : validate s.link.own s.tables = none) :
      Change s (purgeSetpoints (clearRing (startBlend (setMode .service s))))

/-- What an event's operations come to: a path of changes. -/
abbrev Changes : State → State → Prop := Relation.ReflTransGen Change

theorem Change.path {s t : State} (h : Change s t) : Changes s t := .single h

/-! ## Ports, flags and notices -/

theorem countAt_changes (s : State) (p : Port) (f : PortCounters → PortCounters) : Changes s (countAt s p f) :=
  (Change.port p _ (.counted _)).path

theorem setNode_changes (s : State) (i : Nat) (r : NodeRuntime) : Changes s (setNode s i r) := (Change.nodes _).path

theorem setInput_changes (s : State) (n : Fin 6) (r : InputRecord) : Changes s (setInput s n r) := (Change.lines _).path

theorem enterOriginated_changes (s t : State) (p : Port) (f : OriginatedFrame) (h : enterOriginated s p f = some t) :
    Changes s t := by
  rcases enterOriginated_cases s p f with ⟨q, hq, he⟩ | ⟨_, he⟩ <;> rw [he] at h <;> cases h
  rw [opportunityIfIdle_settle, getPort_setPort_same, setPort_setPort, setPort_own]
  exact (Change.port p _ (.entered f q hq)).path

theorem handOver_changes (s : State) (p : Port) (f : OriginatedFrame) : Changes s (handOver s p f) := by
  unfold handOver
  split
  next t h => exact enterOriginated_changes s t p f h
  next => exact countAt_changes s p _

theorem enterResponse_changes (s : State) (f : OriginatedFrame) : Changes s (enterResponse f s) := by
  unfold enterResponse
  cases h : enterOriginated s .c f with
  | none => exact .refl
  | some t => exact enterOriginated_changes s t .c f h

theorem handNotice_changes (s : State) (f : OriginatedFrame) : Changes s (handNotice s f) := by
  unfold handNotice
  split
  next t h => exact (enterOriginated_changes s t .c f h).tail (.lines _)
  next => exact countAt_changes s .c _

theorem handNotices_changes (held : List OriginatedFrame) : ∀ s, Changes s (handNotices held s) := by
  induction held with
  | nil => exact fun s => .refl
  | cons f fs ih => exact fun s => (handNotice_changes s f).trans (ih _)

theorem notify_changes (s : State) : Changes s (notify s) := by
  unfold notify
  split
  · exact .refl
  · split
    next => exact handNotice_changes s _
    next held h => exact (Change.kept _ (by simp [h])).path

theorem raise_changes (f : Flag) (s : State) : Changes s (raise f s) := by
  unfold raise
  dsimp only
  split
  · exact .refl
  · split
    · exact .head (.lines _) (notify_changes _)
    · exact (Change.lines _).path

theorem reformNotice_changes (s : State) : Changes s (reformNotice s) := by
  unfold reformNotice
  split
  · exact notify_changes s
  · exact .refl

/-! ## The Recorder -/

theorem captureFor_slot (k : Slot) (frame : Option Capture) (have_ : Option Nat) :
    (captureFor k frame have_).1.state = k.state ∧ (captureFor k frame have_).1.seq = k.seq
      ∧ (captureFor k frame have_).1.triggers = k.triggers := by
  unfold captureFor placeCapture
  repeat' split
  all_goals exact ⟨rfl, rfl, rfl⟩

theorem fillingSlot_state {r : Recorder} {i : Nat} (h : fillingSlot r = some i) : (getSlot r i).state = .filling := by
  obtain ⟨hi, hp, _⟩ := List.findIdx?_eq_some_iff_getElem.mp h
  rw [getSlot, List.getD_eq_getElem _ _ hi]
  exact of_decide_eq_true hp

theorem getSlot_setSlot_same {r : Recorder} {i : Nat} (k : Slot) (h : i < r.slots.length) :
    getSlot (setSlot r i k) i = k := by
  rw [getSlot, setSlot, List.getD_eq_getElem _ _ (by simpa using h)]
  exact List.getElem_set_self _

theorem countOverwrite_changes (s : State) : Changes s (countOverwrite s) :=
  .head (.recorder _ (.tally _ _)) (raise_changes _ _)

theorem loseIncident_changes (s : State) : Changes s (loseIncident s) :=
  .head (.recorder _ (.tally _ _)) (raise_changes _ _)

theorem openIn_changes (s : State) (i : Nat) (kind : TriggerKind) (frame : Option Capture) (have_ : Option Nat)
    (hmode : s.control.mode = .service) (hnone : fillingSlot s.recorder = none) (hnext : s.recorder.nextSeq ≠ 0) :
    Changes s (openIn s i kind frame have_).1 := by
  obtain ⟨hstate, hseq, htriggers⟩ := captureFor_slot (openedSlot s kind) frame have_
  refine (Change.recorder _ (.opened i _ hmode hnone hnext ?_ ?_ ?_)).path
  · exact hstate
  · exact hseq
  · exact (List.length_map _).trans (congrArg List.length htriggers)

theorem openIncident_changes (s : State) (kind : TriggerKind) (frame : Option Capture) (have_ : Option Nat)
    (hmode : s.control.mode = .service) (hnone : fillingSlot s.recorder = none) :
    Changes s (openIncident s kind frame have_).1 := by
  unfold openIncident
  dsimp only
  split
  · exact loseIncident_changes s
  next hnext =>
    split
    · exact openIn_changes s _ kind frame have_ hmode hnone hnext
    · split
      · refine (countOverwrite_changes s).trans (openIn_changes _ _ kind frame have_ ?_ ?_ ?_)
        · rwa [countOverwrite, raise_control]
        · rwa [countOverwrite, raise_recorder]
        · rwa [countOverwrite, raise_recorder]
      · exact loseIncident_changes s

theorem joinIncident_changes (s : State) (i : Nat) (kind : TriggerKind) (frame : Option Capture) (have_ : Option Nat)
    (hi : fillingSlot s.recorder = some i) : Changes s (joinIncident s i kind frame have_).1 := by
  obtain ⟨hstate, hseq, htriggers⟩ := captureFor_slot (getSlot s.recorder i) frame have_
  have hfilling := fillingSlot_state hi
  unfold joinIncident
  generalize captureFor (getSlot s.recorder i) frame have_ = c at hstate hseq htriggers ⊢
  refine (Change.recorder _ (.edited i _ ?_ ?_ ?_ ?_ ?_ ?_)).path
  · simp [hfilling]
  · split <;> simp [hstate, hfilling]
  · exact fun _ => hfilling
  · split <;> exact hseq
  · split <;> simp [htriggers]
  · split
    next hroom => exact fun _ => by simpa using hroom
    next => exact fun h => htriggers ▸ h

theorem deliverTrigger_changes (s : State) (kind : TriggerKind) (frame : Option Capture) (have_ : Option Nat) :
    Changes s (deliverTrigger s kind frame have_).1 := by
  rcases deliverTrigger_cases s kind frame have_ with ⟨_, h⟩ | ⟨hmode, _, ⟨hnone, h⟩ | ⟨i, hi, h⟩⟩ <;> rw [h]
  · exact openIncident_changes s kind frame have_ hmode hnone
  · exact joinIncident_changes s i kind frame have_ hi

theorem trigger_changes (kind : TriggerKind) (s : State) : Changes s (trigger kind s) :=
  deliverTrigger_changes s kind none none

theorem raise_trigger_changes (f : Flag) (kind : TriggerKind) (s : State) : Changes s (trigger kind (raise f s)) :=
  (raise_changes f s).trans (trigger_changes kind _)

theorem sealSlot_changes (s : State) (i : Nat) (cause : EndCause) (hi : (getSlot s.recorder i).state ≠ .free) :
    Changes s (sealSlot s i cause) :=
  .head (.recorder _ (.edited i { getSlot s.recorder i with state := .sealed, endCause := some cause } hi
    (by simp) (by simp) rfl le_rfl id)) (raise_changes _ _)

theorem appendToFilling_changes (s : State) (n : Snapshot) : Changes s (appendToFilling s n) := by
  unfold appendToFilling
  split
  · exact .refl
  next i hi =>
    have hfilling := fillingSlot_state hi
    obtain ⟨hlt, -, -⟩ := List.findIdx?_eq_some_iff_getElem.mp hi
    dsimp only
    have hused : (getSlot s.recorder i).state ≠ .free := by simp [hfilling]
    have happend := Change.recorder _ (.edited (mode := s.control.mode) i
      { getSlot s.recorder i with snapshots := (getSlot s.recorder i).snapshots ++ [n] }
      hused hused (fun _ => hfilling) rfl le_rfl id)
    split
    · refine .head happend (sealSlot_changes _ i .complete ?_)
      dsimp only
      rwa [getSlot_setSlot_same _ hlt]
    · exact happend.path

theorem ringPush_length (ring : List Snapshot) (n : Snapshot) (h : ring.length ≤ Config.ringCapacity) :
    (ringPush ring n).length ≤ Config.ringCapacity := by
  unfold ringPush
  split
  next hroom => simpa using hroom
  next =>
    rw [List.length_append, List.length_drop, List.length_singleton]
    simp only [Config.ringCapacity] at h ⊢
    omega

theorem takeSnapshot_changes (s : State) (n : Snapshot) : Changes s (takeSnapshot s n) := by
  unfold takeSnapshot
  dsimp only
  split
  · exact .head (.recorder _ (.ring _ _ (ringPush_length _ n))) (appendToFilling_changes _ n)
  · exact (Change.recorder _ (.ring _ _ id)).path

theorem foldl_offer_changes (port : Port) (f : Frame) (ps : List (Fin 8)) :
    ∀ acc : State × Option Nat, Changes acc.1 (ps.foldl (offerToPattern port f) acc).1 := by
  induction ps with
  | nil => exact fun acc => .refl
  | cons p ps ih =>
    intro acc
    refine Relation.ReflTransGen.trans ?_ (ih _)
    unfold offerToPattern
    dsimp only
    split
    · exact deliverTrigger_changes _ _ _ _
    · exact .refl

theorem offerFrame_changes (port : Port) (f : Frame) (s : State) : Changes s (offerFrame port f s) := by
  unfold offerFrame
  split
  · exact foldl_offer_changes port f _ (s, none)
  · exact .refl

end Sys2Proof.Machine
end

section
/-! PROOF. A path of changes for every operation of the demand, slide, brake, air, line and node units and of the Blend
Engine. -/

namespace Sys2Proof.Machine

theorem foldl_changes {α : Type} {f : State → α → State} (h : ∀ s a, Changes s (f s a)) (l : List α) :
    ∀ s, Changes s (l.foldl f s) := by
  induction l with
  | nil => exact fun s => .refl
  | cons a l ih => exact fun s => (h s a).trans (ih _)

/-! ## Demand Authority Unit -/

theorem evalSand_changes (s : State) : Changes s (evalSand s) := by
  unfold evalSand
  split
  · exact .refl
  · split
    · exact (Change.sand _ _).path
    · split
      · exact .refl
      · split <;> exact (Change.sand _ _).path

theorem setLatch_changes (s : State) : Changes s (setLatch s) := by
  unfold setLatch
  split
  · exact .refl
  · exact .head (.authority _ (.note _ _ _ _)) (raise_trigger_changes _ _ _)

theorem evalEmergency_changes (s : State) : Changes s (evalEmergency s) := by
  unfold evalEmergency
  split
  · exact (Change.authority _ (.note _ _ _ _)).path
  · split
    · split
      · exact (Change.authority _ (.note _ _ _ _)).path
      · exact .refl
    · exact .refl
    · exact .refl

theorem tryClearLatch_changes (k : Source) (emergency : Bool) (reduction : Nat) (s : State) :
    Changes s (tryClearLatch k emergency reduction s) := by
  unfold tryClearLatch
  split
  · exact (Change.authority _ (.note _ _ _ _)).path
  · exact .refl

theorem completeSwitch_changes (k : Source) (s : State) (hvalid : isValid s k = true)
    (hlock : s.authority.pendingSwitch = some k ∨ s.authority.lock = none ∨ s.authority.lock = some k) :
    Changes s (completeSwitch k s) :=
  .head (.authority _ (.switch k (of_decide_eq_true hvalid) hlock)) (raise_changes _ _)

theorem completePending_changes (k : Source) (s : State) : Changes s (completePending k s) := by
  unfold completePending
  split
  next h =>
    obtain ⟨hpending, hvalid⟩ := Bool.and_eq_true_iff.mp h
    exact completeSwitch_changes k s hvalid (.inl (of_decide_eq_true hpending))
  next => exact .refl

/-- The auto-switch goes to the locked source, or to PREFERRED where there is no lock (R16). -/
theorem preferredSource_lock {s : State} {k : Source} (h : preferredSource s = some k) :
    s.authority.lock = none ∨ s.authority.lock = some k := by
  unfold preferredSource at h
  split at h
  next hlock => exact .inr (hlock.trans h)
  next hlock => exact .inl hlock

theorem autoSwitch_changes (k : Source) (s : State) : Changes s (autoSwitch k s) := by
  unfold autoSwitch
  split
  next h =>
    simp only [autoSwitchApplies, Bool.and_eq_true, decide_eq_true_eq] at h
    obtain ⟨⟨⟨_, _⟩, hpreferred⟩, hvalid⟩ := h
    exact .head (.authority _ (.note _ _ _ _))
      (completeSwitch_changes k _ hvalid (.inr (preferredSource_lock hpreferred)))
  next => exact .refl

theorem validTransition_changes (k : Source) (s : State) : Changes s (validTransition k s) := by
  unfold validTransition
  split
  · exact completePending_changes k s
  · exact autoSwitch_changes k s

theorem monitorMove_valid (need : Nat) (gap : Bool) (m : Monitor) (h : m.state = .valid) :
    monitorMove need gap m = m := by
  simp [monitorMove, h]

theorem moveMonitor_changes (k : Source) (gap : Bool) (s : State) : Changes s (moveMonitor k gap s) := by
  unfold moveMonitor
  dsimp only
  split
  · exact .refl
  · have hmove : Change s { s with authority := { s.authority with
        monitors := s.authority.monitors.set k
          (monitorMove (acquireCount s.tables) gap (s.authority.monitors.get k)) } } :=
      .authority _ (.monitor k _ fun h => by rwa [monitorMove_valid _ _ _ h])
    split
    · exact .head hmove (validTransition_changes k _)
    · exact hmove.path

theorem deliverDemand_changes (k : Source) (gap : Bool) (f : Frame) (s : State) :
    Changes s (deliverDemand k gap f s) := by
  unfold deliverDemand
  split
  · exact .refl
  next d _ =>
    have hstored := Relation.ReflTransGen.head (Change.authority _ (.note _ _ _ _))
      (moveMonitor_changes k gap (storeDemand k ⟨d, f⟩ s))
    refine hstored.trans (.trans ?_ ((evalEmergency_changes _).trans
      ((tryClearLatch_changes k _ _ _).trans (evalSand_changes _))))
    split
    · exact setLatch_changes _
    · exact .refl

theorem silenceMonitor_changes (k : Source) (s : State) : Changes s (silenceMonitor k s) := by
  unfold silenceMonitor
  dsimp only
  split
  next hvalid =>
    refine .trans ?_ ((evalEmergency_changes _).trans (evalSand_changes _))
    split
    next => exact .head (.authority _ (.lose k)) (raise_trigger_changes _ _ _)
    next hactive => exact (Change.authority _ (.silence k fun _ => hactive)).path
  next hvalid => exact (Change.authority _ (.silence k fun h => absurd h hvalid)).path

theorem Timer.ne_stopped_of_reached {t : Timer} {limit : Nat} (h : t.reached limit = true) : t ≠ .stopped := by
  rintro rfl
  cases h

theorem holdExpiry_changes (s : State) : Changes s (holdExpiry s) := by
  unfold holdExpiry
  split
  next h => exact .head (.authority _ (.penalty (Timer.ne_stopped_of_reached h))) (evalSand_changes _)
  next => exact .refl

theorem emergencyExpiry_changes (s : State) : Changes s (emergencyExpiry s) := by
  unfold emergencyExpiry
  split
  · exact (Change.authority _ (.note _ _ _ _)).path
  · exact .refl

/-! ## Slide Control Unit -/

theorem setAxle_changes (s : State) (i : Fin 6) (a : AxleRecord) (h : AxleKept (s.slide.axles.get i) a) :
    Changes s (setAxle s i a) := by
  refine (Change.axles _ fun j => ?_).path
  by_cases hij : i = j
  · subst hij
    rwa [Six.get_set_same]
  · rw [Six.get_set_other _ _ _ _ hij]
    exact ⟨rfl, id⟩

/-- R35 to R42 give every state its factor. -/
theorem isolate_ok (cause : IsolationCause) (a : AxleRecord) : AxleOk (isolate cause a) := by
  simp [AxleOk, isolate, endEpisode]

theorem toRolling_ok {a : AxleRecord} (h : a.isolation = none) : AxleOk (toRolling a) := by
  simp [AxleOk, toRolling, endEpisode, h]

theorem AxleOk.isolation_none {a : AxleRecord} (h : AxleOk a) (hs : a.state ≠ .isolated) : a.isolation = none := by
  by_contra hne
  exact hs (h.2.2.2.mp hne)

/-- An axle in one of the states that R45 gives no fixed factor. -/
theorem axleOk_of_factor {a : AxleRecord} (hstate : a.state = .relief ∨ a.state = .hold ∨ a.state = .reapply)
    (hf : a.f ≤ 1000) (hi : a.isolation = none) : AxleOk a := by
  rcases hstate with h | h | h <;> simp [AxleOk, h, hf, hi]

theorem reapplied_le (ts : Tables) (a : AxleRecord) : reapplied ts a ≤ 1000 := Nat.min_le_right _ _

theorem lockTimerStep_ok (ts : Tables) (vRef : Nat) {a : AxleRecord} (h : AxleOk a) :
    AxleOk (lockTimerStep ts vRef a) := by
  unfold lockTimerStep
  repeat' split
  all_goals exact h

theorem lockTested_not_isolated {a : AxleRecord} (h : lockTested a = true) : a.state ≠ .isolated := by
  intro hs
  simp [lockTested, hs] at h

theorem toLocked_ok {a : AxleRecord} (h : a.isolation = none) : AxleOk (toLocked a) := by
  unfold toLocked
  dsimp only
  split <;> simp [AxleOk, beginEpisode, h]

theorem slideStep_ok (ts : Tables) (t1 t2 : Nat) (isBraked : Bool) {a : AxleRecord} (h : AxleOk a) :
    AxleOk (slideStep ts t1 t2 isBraked a) := by
  have hle := h.1
  unfold slideStep
  split
  case h_1 hs =>
    have hi := h.isolation_none (by simp [hs])
    have hf := h.2.1 (.inl hs)
    split
    · simp [AxleOk, beginEpisode, hi, hf]
    · exact h
  case h_2 hs =>
    have hi := h.isolation_none (by simp [hs])
    have hf := h.2.1 (.inr hs)
    have hrelief : AxleOk (relieveCounted ts { a with confirm := 0 }) :=
      axleOk_of_factor (.inl rfl) ((Nat.sub_le _ _).trans hle) hi
    repeat' split
    · exact hrelief
    · exact hrelief
    · simp [AxleOk, hs, hi, hf]
    · exact toRolling_ok hi
  case h_3 hs =>
    have hi := h.isolation_none (by simp [hs])
    split
    · exact axleOk_of_factor (.inr (.inl rfl)) hle hi
    · exact axleOk_of_factor (.inl rfl) ((Nat.sub_le _ _).trans hle) hi
  case h_4 hs =>
    have hi := h.isolation_none (by simp [hs])
    repeat' split
    · exact axleOk_of_factor (.inl rfl) ((Nat.sub_le _ _).trans hle) hi
    · exact axleOk_of_factor (.inr (.inr rfl)) hle hi
    · exact h
  case h_5 hs =>
    have hi := h.isolation_none (by simp [hs])
    repeat' split
    · exact axleOk_of_factor (.inl rfl) ((Nat.sub_le _ _).trans hle) hi
    · exact toRolling_ok hi
    · exact axleOk_of_factor (.inr (.inr hs)) (reapplied_le ts a) hi
  case h_6 hs =>
    have hi := h.isolation_none (by simp [hs])
    split
    · exact axleOk_of_factor (.inr (.inr rfl)) hle hi
    · exact h
  case h_7 => exact h
  case h_8 => exact h

theorem inhibitedStep_ok (ts : Tables) (t1 : Nat) {a : AxleRecord} (h : AxleOk a) :
    AxleOk (inhibitedStep ts t1 a) := by
  have hle := h.1
  unfold inhibitedStep
  split
  case h_1 => exact h
  case h_2 hs => exact toRolling_ok (h.isolation_none (by simp [hs]))
  case h_3 hs => exact axleOk_of_factor (.inr (.inr rfl)) hle (h.isolation_none (by simp [hs]))
  case h_4 hs => exact axleOk_of_factor (.inr (.inr rfl)) hle (h.isolation_none (by simp [hs]))
  case h_5 hs =>
    have hi := h.isolation_none (by simp [hs])
    split
    · exact toRolling_ok hi
    · exact axleOk_of_factor (.inr (.inr hs)) (reapplied_le ts a) hi
  case h_6 hs =>
    split
    · exact axleOk_of_factor (.inr (.inr rfl)) hle (h.isolation_none (by simp [hs]))
    · exact h
  case h_7 => exact h
  case h_8 => exact h

theorem axleStep_ok (ts : Tables) (vRef t1 t2 : Nat) (isBraked valid : Bool) {a : AxleRecord} (h : AxleOk a) :
    AxleOk (axleStep ts vRef t1 t2 isBraked valid a).1 := by
  unfold axleStep
  split
  case h_1 => exact h
  case h_2 hs =>
    have hi := h.isolation_none (by simp [hs])
    repeat' split
    · simp [AxleOk, endEpisode, hi]
    · exact h
    · exact h
  case h_3 hisolated _ =>
    have hi := h.isolation_none hisolated
    split
    · have hb : AxleOk (lockTimerStep ts vRef { a with faultCount := 0 }) := lockTimerStep_ok ts vRef h
      dsimp only
      split
      next hlock =>
        exact toLocked_ok (hb.isolation_none (lockTested_not_isolated (Bool.and_eq_true_iff.mp hlock).1))
      next =>
        split
        · exact inhibitedStep_ok ts t1 hb
        · exact slideStep_ok ts t1 t2 isBraked hb
    · split
      · simp [AxleOk, toSensorFault, endEpisode, hi]
      · exact h

theorem axleStep_kept (ts : Tables) (vRef t1 t2 : Nat) (isBraked valid : Bool) (a : AxleRecord) :
    AxleKept a (axleStep ts vRef t1 t2 isBraked valid a).1 :=
  ⟨congrArg (fun m => m.2.1) (axleStep_measured ts vRef t1 t2 isBraked valid a), axleStep_ok ts vRef t1 t2 isBraked valid⟩

theorem reportAxle_changes (s : State) (r : Option AxleReport) : Changes s (reportAxle s r) := by
  unfold reportAxle
  split
  · exact raise_changes _ _
  · exact raise_trigger_changes _ _ _
  · exact .refl

theorem sampleTransitions_changes (s : State) : Changes s (sampleTransitions s) := by
  unfold sampleTransitions
  refine .head (.axles _ fun i => ?_) (foldl_changes reportAxle_changes _ _)
  rw [Six.get_map, Six.get_ofFn]
  exact axleStep_kept _ _ _ _ _ _ _

theorem handleAxleSample_changes (payload : List Byte) (s : State) : Changes s (handleAxleSample payload s) := by
  unfold handleAxleSample
  repeat' split
  · exact .refl
  · exact .head (.sample _) ((sampleTransitions_changes _).trans (evalSand_changes _))
  · exact .refl

theorem handleRadarSample_changes (payload : List Byte) (s : State) : Changes s (handleRadarSample payload s) := by
  unfold handleRadarSample
  split
  · exact .refl
  · exact (Change.radar _).path

theorem loseSpeed_changes (s : State) : Changes s (loseSpeed s) := by
  unfold loseSpeed
  split
  · exact .head .speedLost (raise_trigger_changes _ _ _)
  · exact .refl

theorem staleExpiry_changes (s : State) : Changes s (staleExpiry s) := by
  unfold staleExpiry
  split
  · exact loseSpeed_changes s
  · exact .refl

theorem episodeExpiry_changes (i : Fin 6) (s : State) : Changes s (episodeExpiry i s) := by
  unfold episodeExpiry
  split
  · refine (setAxle_changes s i _ ?_).trans ((raise_trigger_changes _ _ _).trans (evalSand_changes _))
    exact ⟨rfl, id⟩
  · exact .refl

theorem lockedExpiry_changes (i : Fin 6) (s : State) : Changes s (lockedExpiry i s) := by
  unfold lockedExpiry
  split
  · refine (setAxle_changes s i _ ?_).trans ((raise_changes _ _).trans (evalSand_changes _))
    exact ⟨rfl, fun _ => isolate_ok _ _⟩
  · exact .refl

theorem sandExpiry_changes (s : State) : Changes s (sandExpiry s) := by
  unfold sandExpiry
  split
  · exact (Change.sand _ _).path
  · exact .refl

theorem recomputeCircumferences_changes (s : State) : Changes s (recomputeCircumferences s) := by
  refine (Change.axles _ fun i => ?_).path
  rw [Six.get_ofFn]
  exact ⟨rfl, id⟩

/-! ## Dynamic Brake Channel -/

/-- Out of SETUP and ACTIVE, or from one state to another that no excitation goes with. -/
theorem quiet_brake_change (s : State) (b : Brake) (hstatus : b.status = s.brake.status)
    (haLast : b.aLast = s.brake.aLast) (hheat : b.heat = s.brake.heat) (hg : b.g = s.brake.g)
    (hquiet : excitation b = false)
    (hcause : (s.brake.cause ≠ none ↔ s.brake.state = .tripped) → (b.cause ≠ none ↔ b.state = .tripped)) :
    Change s { s with brake := b } :=
  .brake b ⟨hstatus, haLast, hheat, hg, hcause, fun h => absurd h (by simp [hquiet])⟩

theorem trip_changes (cause : TripCause) (s : State) : Changes s (trip cause s) :=
  .head (quiet_brake_change s { quiesce s.brake with state := .tripped, cause := some cause } rfl rfl rfl rfl rfl
    fun _ => by simp) (raise_trigger_changes _ _ _)

theorem brakeOff_changes (s : State) (h : excitation s.brake = true) : Changes s (brakeOff s) := by
  refine (quiet_brake_change s { quiesce s.brake with state := .off } rfl rfl rfl rfl rfl fun hc => ?_).path
  have hs : s.brake.state ≠ .tripped := by
    intro hs
    simp [excitation, hs] at h
  simpa [quiesce, hs] using hc

theorem enterCutout_changes (s : State) : Changes s (enterCutout s) := by
  unfold enterCutout
  split
  · exact .refl
  · exact (quiet_brake_change s { quiesce s.brake with state := .cutout, cause := none } rfl rfl rfl rfl rfl
      fun _ => by simp).path

theorem leaveCutout_changes (s : State) : Changes s (leaveCutout s) := by
  unfold leaveCutout
  split
  next hs =>
    exact (quiet_brake_change s { s.brake with state := .off } rfl rfl rfl rfl rfl
      fun hc => by simpa [hs] using hc).path
  next => exact .refl

/-- The shortfall latch and the timers of the channel move freely. -/
theorem brake_timers_change (s : State) (setupTimer idleTimer shortSet shortClear : Timer) (shortfall : Bool) :
    Change s { s with brake := { s.brake with
      setupTimer := setupTimer
      idleTimer := idleTimer
      shortSet := shortSet
      shortClear := shortClear
      shortfall := shortfall } } :=
  .brake _ ⟨rfl, rfl, rfl, rfl, id, .inl⟩

theorem shortfallSetTest_changes (s : State) : Changes s (shortfallSetTest s) := by
  unfold shortfallSetTest
  dsimp only
  repeat' split
  · exact .head (brake_timers_change s _ _ _ _ _) (raise_trigger_changes _ _ _)
  · exact (brake_timers_change s _ _ _ _ _).path
  · exact (brake_timers_change s _ _ _ _ _).path

theorem shortfallClearTest_changes (s : State) : Changes s (shortfallClearTest s) := by
  unfold shortfallClearTest
  dsimp only
  repeat' split
  all_goals exact (brake_timers_change s _ _ _ _ _).path

theorem becomeActive_changes (s : State) (h : s.brake.state = .setup) : Changes s (becomeActive s) :=
  (Change.brake { quiesce s.brake with state := .active } ⟨rfl, rfl, rfl, rfl,
    fun hc => by simpa [quiesce, h] using hc, fun _ => .inl (by simp [excitation, h])⟩).path

theorem offerTraction_changes (t : TractionRecord) (s : State) : Changes s (offerTraction t s) := by
  unfold offerTraction
  split
  next hs =>
    repeat' split
    · exact trip_changes _ s
    · exact becomeActive_changes s hs
    · exact .refl
  next =>
    repeat' split
    · exact trip_changes _ s
    · exact shortfallClearTest_changes s
    · exact shortfallSetTest_changes s
  all_goals exact .refl

theorem readTraction_effort {payload : List Byte} {t : TractionRecord} (h : readTraction payload = some t) (i : Fin 6) :
    t.effort.get i ≤ 120 := by
  unfold readTraction at h
  split at h
  · cases h
  · cases h
    rw [Six.get_ofFn]
    exact Nat.min_le_right _ _

theorem handleTraction_changes (payload : List Byte) (s : State) : Changes s (handleTraction payload s) := by
  unfold handleTraction
  split
  · exact .refl
  next t h => exact .head (.traction t (readTraction_effort h)) (offerTraction_changes t _)

theorem tractionLost_changes (s : State) : Changes s (tractionLost s) := by
  unfold tractionLost
  split
  · exact trip_changes _ s
  · exact .refl

theorem handOff_changes (fTarget capabilitySum : Nat) (e : Six Nat) (s : State) (hmode : s.control.mode = .service) :
    Changes s (handOff fTarget capabilitySum e s) := by
  unfold handOff
  split
  next hs =>
    split
    · exact (Change.brake { s.brake with state := .setup, setupTimer := .running 0 }
        ⟨rfl, rfl, rfl, rfl, fun hc => by simpa [hs] using hc, fun _ => .inr hmode⟩).path
    · exact .refl
  next hs =>
    split
    · exact brakeOff_changes s (by simp [excitation, hs])
    · exact .refl
  next => exact (brake_timers_change s _ _ _ _ _).path
  next => exact .refl
  next => exact .refl

theorem setupExpiry_changes (s : State) : Changes s (setupExpiry s) := by
  unfold setupExpiry
  split
  · exact trip_changes _ s
  · exact .refl

theorem idleExpiry_changes (s : State) : Changes s (idleExpiry s) := by
  unfold idleExpiry
  split
  next h =>
    have hs : s.brake.state = .active := of_decide_eq_true (Bool.and_eq_true_iff.mp h).1
    exact brakeOff_changes s (by simp [excitation, hs])
  next => exact .refl

theorem nextHeat_le (s : State) : nextHeat s ≤ Config.maxU32 := Nat.min_le_right _ _

theorem heatExpiry_changes (s : State) : Changes s (heatExpiry s) := by
  unfold heatExpiry
  split
  · dsimp only
    split
    next h =>
      refine .head (.heatTimer 0) (.head (.heat (by exact h) (nextHeat s) (nextHeat_le s)) ?_)
      unfold recomputeG
      dsimp only
      split
      · exact raise_changes _ _
      · exact .refl
    next => exact (Change.heatTimer 0).path
  · exact .refl

/-! ## Air Channel -/

/-- A truck's move to LOST, from whatever its record was before the event. -/
theorem loseValve_changes (t : Truck) (cause : ValveCondition) (s : State) (r : TruckRecord) (hcause : cause ≠ .clear)
    (hpressure : TruckOk (getTruck s t) → r.pressure ≤ 1000) : Changes s (loseValve t cause (setTruck s t r)) := by
  unfold loseValve
  simp only [getTruck_setTruck_same, setTruck_setTruck]
  have hlost : Change s (setTruck s t { r with condition := cause }) :=
    .truck t _ fun h => ⟨fun hc => absurd hc hcause, hpressure h⟩
  split
  · exact .head hlost (raise_trigger_changes _ _ _)
  · exact hlost.path

@[simp] theorem setTruck_getTruck (s : State) (t : Truck) : setTruck s t (getTruck s t) = s := by cases t <;> rfl

theorem valveNodeLost_changes (t : Truck) (s : State) : Changes s (valveNodeLost t s) := by
  have h := loseValve_changes t .link s (getTruck s t) (by simp) fun h => h.2
  rwa [setTruck_getTruck] at h

theorem readValve_pressure {payload : List Byte} {pressure : Nat} {fault : Bool}
    (h : readValve payload = some (pressure, fault)) : pressure ≤ 1000 := by
  unfold readValve at h
  split at h
  · cases h
  · cases h
    exact Nat.min_le_right _ _

theorem handleValve_changes (t : Truck) (payload : List Byte) (s : State) : Changes s (handleValve t payload s) := by
  unfold handleValve
  split
  · exact .refl
  next pressure fault h =>
    have hp := readValve_pressure h
    dsimp only
    split
    · exact loseValve_changes t .fault s _ (by simp) fun _ => hp
    next hfault =>
      simp only [getTruck_setTruck_same, setTruck_setTruck]
      exact (Change.truck t _ fun _ => ⟨fun _ => by simpa using hfault, hp⟩).path

/-! ## Input lines -/

theorem edgeResults_changes (n : Fin 6) (s : State) : Changes s (edgeResults n s) :=
  (setInput_changes s n _).trans (raise_trigger_changes _ _ _)

theorem deliverLine_changes (n : Fin 6) (active : Bool) (s : State) : Changes s (deliverLine n active s) := by
  unfold deliverLine
  split
  · refine .trans ?_ (evalEmergency_changes _)
    split
    · exact setLatch_changes s
    · exact .refl
  · split
    · exact raise_changes _ s
    · exact .refl
  · split
    · exact enterCutout_changes s
    · exact leaveCutout_changes s
  · exact .refl

theorem acceptLine_changes (n : Fin 6) (s : State) : Changes s (acceptLine n s) := by
  unfold acceptLine
  refine Relation.ReflTransGen.trans ?_ (deliverLine_changes n _ _)
  split
  · exact (setInput_changes s n _).trans (edgeResults_changes n _)
  · exact setInput_changes s n _

theorem compareLine_changes (n : Fin 6) (s : State) : Changes s (compareLine n s) := by
  unfold compareLine
  dsimp only
  repeat' split
  · exact setInput_changes s n _
  · exact acceptLine_changes n s
  · exact setInput_changes s n _

theorem changePin_changes (n : Fin 6) (high : Bool) (s : State) : Changes s (changePin n high s) := by
  unfold changePin
  dsimp only
  split
  · exact .refl
  · exact (setInput_changes s n _).trans (compareLine_changes n _)

theorem debounceExpired_changes (n : Fin 6) (s : State) : Changes s (debounceExpired n s) := by
  unfold debounceExpired
  split
  · exact acceptLine_changes n s
  · exact .refl

theorem readLine_changes (s : State) (n : Fin 6) : Changes s (readLine s n) :=
  (setInput_changes s n _).trans (compareLine_changes n _)

theorem readLines_changes (s : State) : Changes s (readLines s) := foldl_changes readLine_changes six s

theorem rewriteLine_changes (old : Tables) (s : State) (n : Fin 6) : Changes s (rewriteLine old s n) := by
  unfold rewriteLine
  dsimp only
  have hlevel : Changes s (if lineActiveLow old n = lineActiveLow s.tables n then s
      else compareLine n (setInput s n { s.lines.inputs.get n with
        present := presentLevel s n (s.lines.inputs.get n).pin })) := by
    split
    · exact .refl
    · exact readLine_changes s n
  split
  · exact hlevel
  · exact hlevel.trans (debounceExpired_changes n _)

/-! ## Nodes -/

theorem deliverLoss_changes (r : Role) (s : State) : Changes s (deliverLoss r s) := by
  cases r
  case cabA => exact silenceMonitor_changes .cabA s
  case cabB => exact silenceMonitor_changes .cabB s
  case dp => exact silenceMonitor_changes .dp s
  case axleConc => exact loseSpeed_changes s
  case radar => exact (Change.radar none).path
  case traction => exact tractionLost_changes s
  case valveT1 => exact valveNodeLost_changes .t1 s
  case valveT2 => exact valveNodeLost_changes .t2 s
  all_goals exact .refl

theorem loseNode_changes (i : Nat) (s : State) : Changes s (loseNode i s) := by
  unfold loseNode
  have hlost := (setNode_changes s i { getNode s i with liveness := .lost, timer := .stopped }).trans
    (raise_changes .nodeLost _)
  dsimp only
  repeat' split
  · exact hlost.trans (deliverLoss_changes _ _)
  · exact hlost
  · exact hlost

theorem livenessExpired_changes (i : Nat) (s : State) : Changes s (livenessExpired i s) := by
  unfold livenessExpired
  split
  · exact loseNode_changes i s
  · exact .refl

/-! ## Blend Engine -/

theorem sendSetpoint_changes (r : Role) (cls : Byte) (payload : List Byte) (s : State) :
    Changes s (sendSetpoint r cls payload s) := by
  unfold sendSetpoint
  split
  · exact handOver_changes s .e _
  · exact .refl

theorem sendSetpoints_changes (emergency : Bool) (s : State) : Changes s (sendSetpoints emergency s) :=
  (sendSetpoint_changes _ _ _ s).trans ((sendSetpoint_changes _ _ _ _).trans (sendSetpoint_changes _ _ _ _))

theorem reportStep_changes (r : State) (c : Computed) (s : State) : Changes s (reportStep r c s) := by
  have hdivider (d : Nat) : Change s { s with blend := { s.blend with divider := d } } :=
    .blend { s.blend with divider := d } .inl
  unfold reportStep
  dsimp only
  repeat' split
  · exact (hdivider _).path
  · exact (hdivider _).path
  · exact .head (hdivider _) (handOver_changes _ .c _)

theorem blendExpiry_changes (s : State) : Changes s (blendExpiry s) := by
  unfold blendExpiry
  split
  next hdue =>
    have hmode : s.control.mode = .service := of_decide_eq_true (Bool.and_eq_true_iff.mp hdue).1
    unfold blendPeriod
    refine .head (.blend _ fun _ => .inr hmode) (.trans (handOff_changes _ _ _ _ ?_)
      ((sendSetpoints_changes _ _).trans ((takeSnapshot_changes _ _).trans (reportStep_changes s _ _))))
    exact hmode
  next => exact .refl

end Sys2Proof.Machine
end

section
/-! PROOF. A path of changes for the writing of tables, the modes, the owners' decisions on requests, and frames; and
what no change touches. -/

namespace Sys2Proof.Machine

/-! ## Table Store (R171, R172) -/

theorem rewriteNode_changes (old : Tables) (s : State) (i : Nat) : Changes s (rewriteNode old s i) := by
  unfold rewriteNode
  repeat' split
  · exact setNode_changes s i _
  · exact .refl
  · exact (setNode_changes s i _).trans (livenessExpired_changes i _)

theorem rebindMonitor_changes (old : Tables) (s : State) (k : Source) : Changes s (rebindMonitor old s k) := by
  unfold rebindMonitor
  split
  · exact .refl
  · exact silenceMonitor_changes k s

theorem afterNodesWrite_changes (old : Tables) (first count : Nat) (s : State) :
    Changes s (afterNodesWrite old first count s) :=
  (foldl_changes (rewriteNode_changes old) _ s).trans (foldl_changes (rebindMonitor_changes old) _ _)

theorem afterSourceWrite_changes (s : State) : Changes s (afterSourceWrite s) :=
  (holdExpiry_changes s).trans ((evalEmergency_changes _).trans (emergencyExpiry_changes _))

theorem afterSlideWrite_changes (s : State) : Changes s (afterSlideWrite s) :=
  (foldl_changes (fun s i => episodeExpiry_changes i s) six s).trans
    ((staleExpiry_changes _).trans ((sandExpiry_changes _).trans (evalSand_changes _)))

/-- Entries written to any table but HEAT leave the thermal factor's parameters. -/
theorem setTable_heat (ts : Tables) (id : TableId) (t : Table) (h : id ≠ .heat) : (setTable ts id t).heat = ts.heat := by
  cases id
  case heat => exact absurd rfl h
  all_goals rfl

/-- A write outside SERVICE with its effect on the state derived from the table; HEAT moves g with it. -/
theorem afterWrite_changes (id : TableId) (t : Table) (first count : Nat) (s : State)
    (hmode : s.control.mode ≠ .service) :
    Changes s (afterWrite id s.tables first count { s with tables := setTable s.tables id t }) := by
  by_cases hid : id = .heat
  · subst hid
    refine .head (.heatTable (setTable s.tables .heat t) hmode) ?_
    show Changes _ (recomputeG _)
    unfold recomputeG
    dsimp only
    split
    · exact raise_changes _ _
    · exact .refl
  · refine .head (.tables _ hmode (setTable_heat _ _ t hid)) ?_
    cases id
    case nodes => exact afterNodesWrite_changes _ _ _ _
    case axle => exact recomputeCircumferences_changes _
    case source => exact afterSourceWrite_changes _
    case slide => exact afterSlideWrite_changes _
    case heat => exact absurd rfl hid
    case discrete => exact foldl_changes (rewriteLine_changes _) _ _
    all_goals exact .refl

theorem afterReporting_changes (id : TableId) (s : State) : Changes s (afterReporting id s) := by
  unfold afterReporting
  split
  · exact notify_changes s
  · exact .refl

theorem writeTable_changes (id : TableId) (first : Nat) (new : List (List Nat)) (s : State)
    (hmode : s.control.mode ≠ .service) : Changes s (writeTable id first new s) :=
  (afterWrite_changes id _ first _ s hmode).trans ((raise_changes _ _).trans (afterReporting_changes id _))

/-! ## Mode Control (R175, R178) -/

/-- A hand-over does not look at the Recorder. -/
theorem handOver_withRecorder (s : State) (r : Recorder) (p : Port) (f : OriginatedFrame) :
    handOver { s with recorder := r } p f = { handOver s p f with recorder := r } := by
  have hport : getPort { s with recorder := r } p = getPort s p := by cases p <;> rfl
  unfold handOver enterOriginated
  rw [hport]
  cases queueOriginated p (getPort s p).originated f with
  | none => cases p <;> rfl
  | some q =>
    simp only [Option.map_some, opportunityIfIdle_settle, getPort_setPort_same, setPort_setPort, setPort_own]
    cases p <;> rfl

theorem sendSetpoint_withRecorder (role : Role) (cls : Byte) (payload : List Byte) (s : State) (r : Recorder) :
    sendSetpoint role cls payload { s with recorder := r } = { sendSetpoint role cls payload s with recorder := r } := by
  unfold sendSetpoint
  dsimp only
  split
  · exact handOver_withRecorder s r .e _
  · rfl

theorem handOver_frame (s : State) (p : Port) (f : OriginatedFrame) :
    handOver s p f = { s with link := (handOver s p f).link } := by
  unfold handOver
  rcases enterOriginated_cases s p f with ⟨q, _, h⟩ | ⟨_, h⟩ <;> rw [h]
  · simp only [opportunityIfIdle_settle, setPort_setPort]
    cases p <;> rfl
  · cases p <;> rfl

theorem sendSetpoint_frame (role : Role) (cls : Byte) (payload : List Byte) (s : State) :
    sendSetpoint role cls payload s = { s with link := (sendSetpoint role cls payload s).link } := by
  unfold sendSetpoint
  split
  · exact handOver_frame s .e _
  · rfl

@[simp] theorem sendSetpoint_recorder (role : Role) (cls : Byte) (payload : List Byte) (s : State) :
    (sendSetpoint role cls payload s).recorder = s.recorder := by
  rw [sendSetpoint_frame]

theorem sendSetpoint_brake (role : Role) (cls : Byte) (payload : List Byte) (s : State) :
    (sendSetpoint role cls payload s).brake = s.brake := by
  rw [sendSetpoint_frame]

theorem sendSetpoint_blend (role : Role) (cls : Byte) (payload : List Byte) (s : State) :
    (sendSetpoint role cls payload s).blend = s.blend := by
  rw [sendSetpoint_frame]

theorem sendSetpoints_withRecorder (emergency : Bool) (s : State) (r : Recorder) :
    sendSetpoints emergency { s with recorder := r } = { sendSetpoints emergency s with recorder := r } := by
  unfold sendSetpoints
  simp only [sendSetpoint_withRecorder]

theorem sendSetpoints_recorder (emergency : Bool) (s : State) :
    (sendSetpoints emergency s).recorder = s.recorder := by
  simp [sendSetpoints]

theorem brakeLeaveService_eq (s : State) : brakeLeaveService s = { s with brake := leftBrake s.brake } := by
  unfold brakeLeaveService leftBrake
  split <;> rfl

theorem sealOnExit_changes_of_sealed {s t : State} (h : Changes s { t with recorder := sealedRecorder t.recorder }) :
    Changes s (sealOnExit t) := by
  unfold sealedRecorder at h
  unfold sealOnExit
  cases hf : fillingSlot t.recorder with
  | none => simpa [hf] using h
  | some i =>
    simp only [hf] at h
    exact h.trans (raise_changes _ _)

theorem leaveService_changes (s : State) : Changes s (leaveService s) := by
  refine .trans (.trans (sealOnExit_changes_of_sealed ?_) (Change.authority _ .abort).path)
    (raise_changes .configChanged _)
  unfold finalSetpoints
  rw [sendSetpoints_recorder, ← sendSetpoints_withRecorder, brakeLeaveService_eq]
  exact .head (.left _ _ _) (sendSetpoints_changes false _)

theorem enterService_changes (s : State) (h : validate s.link.own s.tables = none) : Changes s (enterService s) :=
  .head (.entered h) (raise_changes _ _)

/-! ## The owners' decisions -/

/-- What a decision of an owner comes to: an answer after a path of changes; or, outside SERVICE and with no
validation in flight, the start of one, or a restart. -/
def Decided (s : State) (x : State × Reply) : Prop :=
  match x.2 with
  | .answer _ _ => Changes s x.1
  | .inFlight => s.control.validation = none ∧ s.control.mode ≠ .service
      ∧ x.1 = { s with control := { s.control with validation := some 0 } }
  | .restart => s.control.validation = none ∧ s.control.mode ≠ .service ∧ x.1 = s

theorem decided_unchanged (s : State) (r : ResultCode) (data : List Byte) : Decided s (s, .answer r data) :=
  Relation.ReflTransGen.refl

theorem ownModeSet_decided (args : List Byte) (s : State) : Decided s (ownModeSet args s) := by
  unfold ownModeSet
  dsimp only
  repeat' split
  case isFalse.isFalse.isTrue.isFalse hnone _ hmode =>
    exact ⟨by simpa using hnone, hmode, rfl⟩
  case h_3.isFalse.isFalse => exact leaveService_changes s
  all_goals exact decided_unchanged s _ _

theorem ownTableWrite_decided (args : List Byte) (s : State) : Decided s (ownTableWrite args s) := by
  unfold ownTableWrite
  dsimp only
  split
  · exact decided_unchanged s _ _
  · split
    · exact decided_unchanged s _ _
    next hmode =>
      repeat' split
      case isFalse.isFalse.isFalse => exact writeTable_changes _ _ _ s hmode
      all_goals exact decided_unchanged s _ _

theorem ownRestart_decided (s : State) : Decided s (ownRestart s) := by
  unfold ownRestart
  repeat' split
  case isFalse.isFalse hmode hnone => exact ⟨by simpa using hnone, hmode, rfl⟩
  all_goals exact decided_unchanged s _ _

theorem ownFlagsClear_decided (args : List Byte) (s : State) : Decided s (ownFlagsClear args s) := by
  unfold ownFlagsClear
  dsimp only
  split
  · exact decided_unchanged s _ _
  · exact (Change.lines _).path

theorem ownSourceSelect_decided (args : List Byte) (s : State) : Decided s (ownSourceSelect args s) := by
  unfold ownSourceSelect
  split
  · exact decided_unchanged s _ _
  next k _ =>
    repeat' split
    · exact decided_unchanged s _ _
    · exact decided_unchanged s _ _
    next hlock =>
      have hlock : s.authority.lock = none ∨ s.authority.lock = some k := by tauto
      exact .head (.authority _ (.note s.authority.good false s.authority.latch s.authority.resetTimer))
        (.head (.authority _ (.select k hlock)) ((completePending_changes k _).trans (evalSand_changes _)))

theorem ownSourceAbort_decided (s : State) : Decided s (ownSourceAbort s) := by
  unfold ownSourceAbort
  split
  · exact (Change.authority _ .abort).path
  · exact decided_unchanged s _ _

theorem ownSourceLock_decided (s : State) : Decided s (ownSourceLock s) := by
  unfold ownSourceLock
  split
  · exact decided_unchanged s _ _
  next hlock =>
    split
    · exact decided_unchanged s _ _
    next k hactive => exact (Change.authority _ (.lock k hactive (by simpa using hlock))).path

theorem ownDbTripClear_decided (s : State) : Decided s (ownDbTripClear s) := by
  unfold ownDbTripClear
  repeat' split
  · exact decided_unchanged s _ _
  · exact (quiet_brake_change s { s.brake with state := .off, cause := none } rfl rfl rfl rfl rfl
      fun _ => by simp).path
  · exact decided_unchanged s _ _

theorem ownAxleIsolate_decided (args : List Byte) (s : State) : Decided s (ownAxleIsolate args s) := by
  unfold ownAxleIsolate
  dsimp only
  repeat' split
  · exact decided_unchanged s _ _
  · exact decided_unchanged s _ _
  next i _ _ =>
    have hset := setAxle_changes s i (isolate .command (s.slide.axles.get i)) ⟨rfl, fun _ => isolate_ok _ _⟩
    exact hset.trans (evalSand_changes _)

theorem ownAxleRestore_decided (args : List Byte) (s : State) : Decided s (ownAxleRestore args s) := by
  unfold ownAxleRestore
  dsimp only
  repeat' split
  · exact decided_unchanged s _ _
  next i _ _ =>
    have hset := setAxle_changes s i { s.slide.axles.get i with state := .rolling, f := 1000, isolation := none }
      ⟨rfl, fun _ => by simp [AxleOk]⟩
    exact hset.trans (evalSand_changes _)
  · exact decided_unchanged s _ _

theorem ownIncidentRead_decided (args : List Byte) (s : State) : Decided s (ownIncidentRead args s) := by
  unfold ownIncidentRead
  dsimp only
  repeat' split
  case isFalse.isFalse.isFalse.isFalse hreadable _ _ =>
    have hused : (getSlot s.recorder (fieldAt args 0 1)).state ≠ .free := by
      intro hs
      simp [readable, hs] at hreadable
    exact (Change.recorder _ (.edited (fieldAt args 0 1)
      { getSlot s.recorder (fieldAt args 0 1) with state := .read } hused (by simp) (by simp) rfl le_rfl id)).path
  all_goals exact decided_unchanged s _ _

theorem ownIncidentRelease_decided (args : List Byte) (s : State) : Decided s (ownIncidentRelease args s) := by
  unfold ownIncidentRelease
  dsimp only
  repeat' split
  case isFalse.isFalse.isFalse => exact (Change.recorder _ (.freed _)).path
  all_goals exact decided_unchanged s _ _

theorem ownIncidentMark_decided (s : State) : Decided s (ownIncidentMark s) := by
  unfold ownIncidentMark
  split
  · exact deliverTrigger_changes s .manual none none
  · exact decided_unchanged s _ _

theorem carryOut_decided (k : Command) (args : List Byte) (s : State) : Decided s (carryOut k args s) := by
  cases k
  case statusGet =>
    show Decided s (ownStatusGet args s)
    unfold ownStatusGet
    split <;> exact decided_unchanged s _ _
  case nodeStatusGet =>
    show Decided s (ownNodeStatusGet args s)
    unfold ownNodeStatusGet
    dsimp only
    split <;> exact decided_unchanged s _ _
  case flagsClear => exact ownFlagsClear_decided args s
  case modeSet => exact ownModeSet_decided args s
  case tableWrite => exact ownTableWrite_decided args s
  case tableRead =>
    show Decided s (ownTableRead args s)
    unfold ownTableRead
    dsimp only
    repeat' split
    all_goals exact decided_unchanged s _ _
  case sourceSelect => exact ownSourceSelect_decided args s
  case sourceAbort => exact ownSourceAbort_decided s
  case sourceLock => exact ownSourceLock_decided s
  case dbTripClear => exact ownDbTripClear_decided s
  case axleIsolate => exact ownAxleIsolate_decided args s
  case axleRestore => exact ownAxleRestore_decided args s
  case incidentList => exact decided_unchanged s _ _
  case incidentRead => exact ownIncidentRead_decided args s
  case incidentRelease => exact ownIncidentRelease_decided args s
  case incidentMark => exact ownIncidentMark_decided s
  case restart => exact ownRestart_decided s

theorem judge_decided (b : Buffer) (s : State) : Decided s (judge b s) := by
  unfold judge
  repeat' split
  case h_2.isFalse.isFalse.isFalse => exact carryOut_decided _ _ _
  all_goals exact decided_unchanged s _ _

/-! ## Frames -/

theorem countNodeError_changes (p : Port) (bytes : List Byte) (s : State) : Changes s (countNodeError p bytes s) := by
  unfold countNodeError
  split
  · exact setNode_changes s _ _
  · exact .refl

theorem dropDamaged_changes (p : Port) (st : ReceiveStatus) (bytes : List Byte) (s : State) :
    Changes s (dropDamaged p st bytes s) :=
  (countAt_changes s p _).trans ((countNodeError_changes p bytes _).trans (raise_changes _ _))

theorem handleTime_changes (payload : List Byte) (s : State) : Changes s (handleTime payload s) := by
  unfold handleTime
  split
  · exact .refl
  · exact (Change.timeBase _).path

theorem deliverConsumed_changes (p : Port) (r : Role) (gap : Bool) (f : Frame) (s : State) :
    Changes s (deliverConsumed p r gap f s) := by
  unfold deliverConsumed
  split
  case h_10 => exact .refl
  all_goals split
  all_goals first
    | exact .refl
    | exact deliverDemand_changes _ _ _ _
    | exact handleTime_changes _ _
    | exact handleAxleSample_changes _ _
    | exact handleRadarSample_changes _ _
    | exact handleTraction_changes _ _
    | exact handleValve_changes _ _ _

theorem consume_changes (p : Port) (i : Nat) (gap : Bool) (f : Frame) (s : State) :
    Changes s (consume p i gap f s) := by
  unfold consume
  repeat' split
  · exact .refl
  · exact .refl
  · exact deliverConsumed_changes _ _ _ _ _

/-- In SERVICE no setpoint passes from the C-port to the E-port (R135). -/
theorem passes_foreign {s : State} {p : Port} {cls : Byte} (h : passes s p cls = true)
    (hmode : s.control.mode = .service) (hp : Port.other p = .e) : setpointClass cls = false := by
  have hc : p = .c := by
    cases p with
    | c => rfl
    | e => exact absurd hp (by decide)
  simpa [passes, hmode, hc] using (Bool.and_eq_true_iff.mp h).2

theorem forwardFrame_changes (p : Port) (raw : List Byte) (s : State) :
    Changes s (forwardFrame p raw (byteAt raw 2) s) := by
  unfold forwardFrame
  split
  next hpass =>
    split
    next hroom =>
      unfold enterForward
      rw [opportunityIfIdle_settle, getPort_setPort_same, setPort_setPort, setPort_own]
      exact (Change.port _ _ (.forwarded raw hroom fun hmode hp => passes_foreign hpass hmode hp)).path
    next => exact (countAt_changes s p _).trans (raise_changes _ _)
  next => exact countAt_changes s p _

/-! ## What no change touches -/

/-- The parts that stand in every change of an event: the holds, the buffers, the validation mark, the own address, and
the waiting commands with the count of free choices. -/
structure Standing (s t : State) : Prop where
  hold : t.hold = s.hold
  management : t.management = s.management
  validation : t.control.validation = s.control.validation
  own : t.link.own = s.link.own
  pending : t.pending = s.pending
  choice : t.choice = s.choice
  deferred : s.deferred = none → t.deferred = none

theorem Standing.trans {a b c : State} (h : Standing a b) (k : Standing b c) : Standing a c :=
  ⟨k.hold.trans h.hold, k.management.trans h.management, k.validation.trans h.validation, k.own.trans h.own,
    k.pending.trans h.pending, k.choice.trans h.choice, fun hd => k.deferred (h.deferred hd)⟩

/-- The purge of foreign setpoints touches the two ports alone. -/
theorem purgeSetpoints_frame (s : State) : purgeSetpoints s = { s with link := { s.link with
    cPort := (purgeSetpoints s).link.cPort, ePort := (purgeSetpoints s).link.ePort } } := by
  unfold purgeSetpoints stopSetpoint
  split <;> rfl

theorem Change.standing {s t : State} (h : Change s t) : Standing s t := by
  cases h
  case kept d h => exact ⟨rfl, rfl, rfl, rfl, rfl, rfl, fun hd => absurd hd h⟩
  case port p ps h => cases p <;> exact ⟨rfl, rfl, rfl, rfl, rfl, rfl, id⟩
  case truck t r h => cases t <;> exact ⟨rfl, rfl, rfl, rfl, rfl, rfl, id⟩
  case entered h =>
    rw [purgeSetpoints_frame]
    exact ⟨rfl, rfl, rfl, rfl, rfl, rfl, id⟩
  all_goals exact ⟨rfl, rfl, rfl, rfl, rfl, rfl, id⟩

theorem Changes.standing {s t : State} (h : Changes s t) : Standing s t := by
  induction h with
  | refl => exact ⟨rfl, rfl, rfl, rfl, rfl, rfl, id⟩
  | tail _ hstep ih => exact ih.trans hstep.standing

end Sys2Proof.Machine
end

section
/-! PROOF. A path of changes for every command (R158 to R182): the request buffers, the validation mark and the two
resets join the changes of an event; and the lemma from which each invariant of a step follows. -/

namespace Sys2Proof.Machine

/-! ## Reading the lines apart from the ports -/

/-- While the notices of the event are kept back, outside SERVICE, nothing of an accepted line reaches a port. -/
def KeepsBack (s : State) : Prop := s.deferred ≠ none ∧ s.control.mode ≠ .service

/-- Under kept notices an operation neither reads nor moves the link, and goes on keeping them back. -/
def LinkFree (f : State → State) : Prop :=
  ∀ s, KeepsBack s → KeepsBack (f s) ∧ ∀ l : Link, f { s with link := l } = { f s with link := l }

theorem LinkFree.id : LinkFree id := fun _ h => ⟨h, fun _ => rfl⟩

theorem LinkFree.comp {f g : State → State} (hg : LinkFree g) (hf : LinkFree f) : LinkFree (g ∘ f) := by
  intro s h
  obtain ⟨hk, hl⟩ := hf s h
  obtain ⟨hk', hl'⟩ := hg (f s) hk
  exact ⟨hk', fun l => (congrArg g (hl l)).trans (hl' l)⟩

theorem notify_linkFree : LinkFree notify := by
  intro s h
  obtain ⟨held, hd⟩ := Option.ne_none_iff_exists'.mp h.1
  by_cases hn : noticeNode s.tables = 0
  · have hnone : ∀ u : State, u.tables = s.tables → notify u = u := fun u hu => if_pos (by rw [hu, hn])
    exact ⟨by rwa [hnone s rfl], fun l => by rw [hnone s rfl, hnone { s with link := l } rfl]⟩
  · have hkept : ∀ u : State, u.tables = s.tables → u.deferred = some held →
        notify u = { u with deferred := some (held ++ [formNotice u]) } := by
      intro u hu hud
      simp [notify, hu, hn, hud]
    refine ⟨?_, fun l => ?_⟩
    · rw [hkept s rfl hd]
      exact ⟨by simp, h.2⟩
    · rw [hkept s rfl hd, hkept { s with link := l } rfl hd]
      rfl

theorem raise_of_set {s : State} {f : Flag} (h : flagSet s f = true) : raise f s = s := if_pos h

theorem raise_linkFree (f : Flag) : LinkFree (raise f) := by
  intro s h
  by_cases hs : flagSet s f = true
  · exact ⟨by rwa [raise_of_set hs], fun l => by rw [raise_of_set (s := { s with link := l }) hs, raise_of_set hs]⟩
  · have hn := notify_linkFree
      { s with lines := { s.lines with flags := s.lines.flags ||| flagMask f, noticePending := true } } h
    have hf : ∀ l : Link, flagSet { s with link := l } f = flagSet s f := fun _ => rfl
    unfold raise
    simp only [hf]
    rw [if_neg hs]
    refine ⟨?_, fun l => ?_⟩
    · split
      · exact hn.1
      · exact h
    · rw [if_neg hs]
      split
      · exact hn.2 l
      · rfl

theorem trigger_linkFree (kind : TriggerKind) : LinkFree (trigger kind) := by
  intro s h
  refine ⟨by rwa [trigger_ignored s kind h.2], fun l => ?_⟩
  rw [trigger_ignored s kind h.2, trigger_ignored _ kind (by exact h.2)]

theorem raise_trigger_linkFree (f : Flag) (kind : TriggerKind) : LinkFree (fun s => trigger kind (raise f s)) :=
  (trigger_linkFree kind).comp (raise_linkFree f)

theorem setLatch_linkFree : LinkFree setLatch := by
  intro s h
  have hr := raise_trigger_linkFree .emergency .emergency
    { s with authority := { s.authority with latch := true, resetTimer := .stopped } } h
  unfold setLatch
  dsimp only at hr ⊢
  split
  · exact ⟨h, fun _ => rfl⟩
  · exact hr

theorem evalEmergency_linkFree : LinkFree evalEmergency := by
  intro s h
  have hc : ∀ l : Link, emergencyCondition { s with link := l } = emergencyCondition s := fun _ => rfl
  unfold evalEmergency
  simp only [hc]
  split
  · exact ⟨h, fun _ => rfl⟩
  · split
    · split <;> exact ⟨h, fun _ => rfl⟩
    · exact ⟨h, fun _ => rfl⟩
    · exact ⟨h, fun _ => rfl⟩

theorem setInput_linkFree (f : State → InputRecord) (hf : ∀ s l, f { s with link := l } = f s) (n : Fin 6) :
    LinkFree (fun s => setInput s n (f s)) :=
  fun s h => ⟨h, fun l => by simp only [hf]; rfl⟩

theorem edgeResults_linkFree (n : Fin 6) : LinkFree (edgeResults n) :=
  (raise_trigger_linkFree .discreteEdge (.discreteEdge n)).comp
    (setInput_linkFree (fun s => { s.lines.inputs.get n with edge := true }) (fun _ _ => rfl) n)

theorem enterCutout_linkFree : LinkFree enterCutout := by
  intro s h
  unfold enterCutout
  dsimp only
  split <;> exact ⟨h, fun _ => rfl⟩

theorem leaveCutout_linkFree : LinkFree leaveCutout := by
  intro s h
  unfold leaveCutout
  dsimp only
  split <;> exact ⟨h, fun _ => rfl⟩

theorem deliverLine_linkFree (n : Fin 6) (active : Bool) : LinkFree (deliverLine n active) := by
  unfold deliverLine
  split
  · cases active
    · exact evalEmergency_linkFree
    · exact evalEmergency_linkFree.comp setLatch_linkFree
  · cases active
    · exact LinkFree.id
    · exact raise_linkFree .penalty
  · cases active
    · exact leaveCutout_linkFree
    · exact enterCutout_linkFree
  · exact LinkFree.id

theorem acceptLine_linkFree (n : Fin 6) : LinkFree (acceptLine n) := by
  intro s h
  have hset : LinkFree (fun s => setInput s n { s.lines.inputs.get n with
      accepted := (s.lines.inputs.get n).present, debounce := .stopped }) :=
    setInput_linkFree _ (fun _ _ => rfl) n
  have hplain := (deliverLine_linkFree n (s.lines.inputs.get n).present).comp hset s h
  have hedge := ((deliverLine_linkFree n (s.lines.inputs.get n).present).comp
    ((edgeResults_linkFree n).comp hset)) s h
  unfold acceptLine
  dsimp only [Function.comp_apply] at hplain hedge ⊢
  split
  · exact hedge
  · exact hplain

theorem compareLine_linkFree (n : Fin 6) : LinkFree (compareLine n) := by
  intro s h
  have haccept := acceptLine_linkFree n s h
  unfold compareLine
  dsimp only
  split
  · exact ⟨h, fun _ => rfl⟩
  · split
    · exact haccept
    · exact ⟨h, fun _ => rfl⟩

theorem readLine_linkFree (n : Fin 6) : LinkFree (fun s => readLine s n) :=
  (compareLine_linkFree n).comp (setInput_linkFree
    (fun s => { s.lines.inputs.get n with present := presentLevel s n (s.lines.inputs.get n).pin }) (fun _ _ => rfl) n)

theorem foldl_linkFree {α : Type} {f : State → α → State} (h : ∀ a, LinkFree (fun s => f s a)) (l : List α) :
    LinkFree (fun s => l.foldl f s) := by
  induction l with
  | nil => exact LinkFree.id
  | cons a l ih => exact ih.comp (h a)

theorem readLines_linkFree : LinkFree readLines := foldl_linkFree readLine_linkFree six

/-- An operation that does not read the link leaves it. -/
theorem LinkFree.link {f : State → State} (hf : LinkFree f) {s : State} (h : KeepsBack s) : (f s).link = s.link := by
  have hl := congrArg State.link ((hf s h).2 s.link)
  exact hl

/-! ## Restart (R179) -/

/-- Both ports after the opportunities of a restart. -/
def settleLink (l : Link) : Link := { l with cPort := settle l.own l.cPort, ePort := settle l.own l.ePort }

theorem opportunities_settleLink (s : State) :
    opportunityIfIdle (opportunityIfIdle s .c) .e = { s with link := settleLink s.link } := by
  simp only [opportunityIfIdle_settle]
  rfl

/-- Every block in its restart state (R179), before the circumferences are recomputed and the lines are read. -/
def restartState (kept : List OriginatedFrame) (s : State) : State :=
  { s with
    authority := restartAuthority s.authority
    slide := Slide.reset
    brake := restartBrake s.brake
    blend := Blend.reset
    air := Air.reset
    recorder := restartRecorder s.recorder
    link := settleLink (restartLink kept s.link)
    lines := resetLines s.lines
    management := Management.reset }

/-- A restart is its restart state with the ports settled, the circumferences recomputed and the lines read. -/
theorem applyRestart_eq (kept : List OriginatedFrame) (s : State) (h : KeepsBack s) :
    applyRestart kept s = readLines
      (if s.tables.axle.loaded then recomputeCircumferences (restartState kept s) else restartState kept s) := by
  unfold applyRestart
  dsimp only
  generalize hu : restartSlide _ = u
  have hk : KeepsBack u := by
    subst hu
    unfold restartSlide
    dsimp only
    split <;> exact h
  have hl : u.link = restartLink kept s.link := by
    subst hu
    unfold restartSlide
    dsimp only
    split <;> rfl
  rw [opportunities_settleLink, readLines_linkFree.link hk, ← (readLines_linkFree u hk).2, hl, ← hu]
  unfold restartSlide restartState
  dsimp only
  split <;> rfl

/-! ## The changes of a command -/

/-- One change of the part under a command: a change of an event, the buffers with the validation mark, notices kept
back or handed over, a restart, or a hold in power-on reset. -/
inductive Act (s : State) : State → Prop
  | change {t : State} (h : Change s t) : Act s t
  | buffers (m : Management) (v : Option Nat) :
      Act s { s with management := m, control := { s.control with validation := v } }
  | keepBack (d : Option (List OriginatedFrame)) : Act s { s with deferred := d }
  | restart (kept : List OriginatedFrame) (hkept : kept.length ≤ 1) (hmode : s.control.mode ≠ .service) :
      Act s (restartState kept s)
  | reset (hold : Hold) (own : Byte) (lines : Lines) :
      Act s { State.reset with
        hold := hold
        link := { Link.reset with own := own }
        lines := lines
        pending := s.pending
        choice := s.choice }
  | held (hold : Hold) : Act s { s with hold := hold }

abbrev Acts : State → State → Prop := Relation.ReflTransGen Act

theorem Changes.acts {s t : State} (h : Changes s t) : Acts s t :=
  h.lift (fun u => u) fun _ _ => .change

/-- What an event's operation does: a path of changes, the buffers kept in agreement (R159), and no notice kept back
that was not before it. -/
structure Sound (s t : State) : Prop where
  acts : Acts s t
  buffers : BuffersOk s → BuffersOk t
  deferred : s.deferred = none → t.deferred = none

theorem Sound.refl (s : State) : Sound s s := ⟨.refl, id, id⟩

theorem Sound.trans {a b c : State} (h : Sound a b) (k : Sound b c) : Sound a c :=
  ⟨h.acts.trans k.acts, fun hb => k.buffers (h.buffers hb), fun hd => k.deferred (h.deferred hd)⟩

/-- R159 speaks of the buffers and the validation mark alone. -/
theorem BuffersOk.congr {s t : State} (h : BuffersOk s) (hm : t.management = s.management)
    (hv : t.control.validation = s.control.validation) : BuffersOk t := by
  unfold BuffersOk
  rw [hm, hv]
  exact h

theorem Changes.sound {s t : State} (h : Changes s t) : Sound s t :=
  ⟨h.acts, fun hb => hb.congr h.standing.management h.standing.validation, h.standing.deferred⟩

theorem Acts.pending_choice {s t : State} (h : Acts s t) : t.pending = s.pending ∧ t.choice = s.choice := by
  induction h with
  | refl => exact ⟨rfl, rfl⟩
  | tail _ hstep ih =>
    cases hstep
    case change hc => exact ⟨hc.standing.pending.trans ih.1, hc.standing.choice.trans ih.2⟩
    all_goals exact ih

/-! ## The buffers (R158 to R161) -/

/-- What R159 asks of one buffer beside the validation mark. -/
def bufferAgrees (b : Buffer) : Prop := b.state = .held ↔ b.response ≠ none

theorem buffersOk_iff (s : State) (isB : Bool) : BuffersOk s ↔
    (((getBuffer s isB).state = .inFlight ∨ (getBuffer s !isB).state = .inFlight) ↔ s.control.validation ≠ none)
    ∧ ¬ ((getBuffer s isB).state = .inFlight ∧ (getBuffer s !isB).state = .inFlight)
    ∧ bufferAgrees (getBuffer s isB) ∧ bufferAgrees (getBuffer s !isB) := by
  cases isB
  · simp [BuffersOk, getBuffer, bufferAgrees]
  · simp [BuffersOk, getBuffer, bufferAgrees]
    tauto

theorem bufferAgrees_free : bufferAgrees Buffer.free := by simp [bufferAgrees, Buffer.free]

/-- A buffer that is not IN_FLIGHT may be given any content that is not. -/
theorem buffersOk_setBuffer {s : State} {isB : Bool} {b : Buffer} (h : BuffersOk s)
    (hold : (getBuffer s isB).state ≠ .inFlight) (hnew : b.state ≠ .inFlight) (hagrees : bufferAgrees b) :
    BuffersOk (setBuffer s isB b) := by
  obtain ⟨hflight, hboth, _, hother⟩ := (buffersOk_iff s isB).mp h
  rw [buffersOk_iff _ isB, getBuffer_setBuffer_same, getBuffer_setBuffer_other, setBuffer_control]
  refine ⟨?_, fun hf => hnew hf.1, hagrees, hother⟩
  simpa [hold, hnew] using hflight

/-- The IN_FLIGHT buffer is given up together with the validation mark. -/
theorem buffersOk_conclude {s u : State} {isB : Bool} {b : Buffer} (h : BuffersOk s) (hm : u.management = s.management)
    (hv : u.control.validation = none) (hold : (getBuffer s isB).state = .inFlight) (hnew : b.state ≠ .inFlight)
    (hagrees : bufferAgrees b) : BuffersOk (setBuffer u isB b) := by
  obtain ⟨_, hboth, _, hother⟩ := (buffersOk_iff s isB).mp h
  have hu : getBuffer u (!isB) = getBuffer s (!isB) := by simp [getBuffer, hm]
  rw [buffersOk_iff _ isB, getBuffer_setBuffer_same, getBuffer_setBuffer_other, setBuffer_control, hu]
  refine ⟨?_, fun hf => hnew hf.1, hagrees, hother⟩
  have : (getBuffer s !isB).state ≠ .inFlight := fun hf => hboth ⟨hold, hf⟩
  simp [hnew, this, hv]

theorem setBuffer_act (s : State) (isB : Bool) (b : Buffer) : Act s (setBuffer s isB b) := by
  cases isB
  · exact .buffers { s.management with bufA := b } s.control.validation
  · exact .buffers { s.management with bufB := b } s.control.validation

theorem flushNotices_deferred (s : State) : (flushNotices s).deferred = none := by
  unfold flushNotices
  split
  next h => exact h
  next held _ => exact (handNotices_changes held _).standing.deferred rfl

theorem flushNotices_acts (s : State) : Acts s (flushNotices s) := by
  unfold flushNotices
  split
  · exact .refl
  next held _ => exact .head (.keepBack none) (handNotices_changes held _).acts

theorem flushNotices_buffers {s : State} (h : BuffersOk s) : BuffersOk (flushNotices s) :=
  h.congr (flushNotices_management s) (congrArg Control.validation (flushNotices_control s))

theorem enterHeld_sound (isB : Bool) (s : State) (h : (getBuffer s isB).state = .held) : Sound s (enterHeld isB s) := by
  have hfree : ∀ u : State, u.management = s.management → BuffersOk u → BuffersOk (setBuffer u isB Buffer.free) := by
    intro u hu hb
    refine buffersOk_setBuffer hb ?_ (by simp [Buffer.free]) bufferAgrees_free
    simp only [getBuffer, hu] at h ⊢
    simp [h]
  unfold enterHeld
  split
  next f _ =>
    have hchanges := enterResponse_changes s f
    exact ⟨hchanges.acts.tail (setBuffer_act _ _ _),
      fun hb => hfree _ hchanges.standing.management (hchanges.sound.buffers hb),
      fun hd => (setBuffer_deferred _ _ _).trans (hchanges.standing.deferred hd)⟩
  next =>
    exact ⟨.single (setBuffer_act _ _ _), hfree s rfl, fun hd => (setBuffer_deferred _ _ _).trans hd⟩

/-- Taking a WAITING request: judged with the notices kept back, answered, and its buffer freed, put IN_FLIGHT with
the validation mark, or emptied by a restart. -/
theorem takeRequest_sound (held : List OriginatedFrame) (isB : Bool) (s : State)
    (hw : (getBuffer s isB).state = .waiting) : Sound s (takeRequest held isB s) := by
  unfold takeRequest
  dsimp only
  have hkeep : Acts s { s with deferred := some held } := .single (.keepBack _)
  have hd := judge_decided (getBuffer s isB) { s with deferred := some held }
  rcases hj : judge (getBuffer s isB) { s with deferred := some held } with ⟨s1, reply⟩
  rw [hj] at hd
  have hget : ∀ u : State, u.management = s.management → getBuffer u isB = getBuffer s isB := by
    intro u hu
    simp [getBuffer, hu]
  cases reply with
  | answer r data =>
    have hchanges : Changes { s with deferred := some held } (enterResponse (responseTo (getBuffer s isB) r data) s1) :=
      Relation.ReflTransGen.trans hd (enterResponse_changes s1 _)
    refine ⟨(hkeep.trans (hchanges.acts.tail (setBuffer_act _ isB Buffer.free))).trans (flushNotices_acts _),
      fun hb => flushNotices_buffers ?_, fun _ => flushNotices_deferred _⟩
    have hb1 : BuffersOk (enterResponse (responseTo (getBuffer s isB) r data) s1) := hchanges.sound.buffers hb
    refine buffersOk_setBuffer hb1 ?_ (by simp [Buffer.free]) bufferAgrees_free
    rw [hget _ hchanges.standing.management, hw]
    simp
  | inFlight =>
    obtain ⟨hnone, _, hs1⟩ := hd
    dsimp only at hs1 hnone
    subst hs1
    refine ⟨(hkeep.trans (.head (.buffers s.management (some 0)) (.single (setBuffer_act _ isB _)))).trans
      (flushNotices_acts _), fun hb => flushNotices_buffers ?_, fun _ => flushNotices_deferred _⟩
    obtain ⟨hflight, _, hthis, hother⟩ := (buffersOk_iff s isB).mp hb
    have hidle : (getBuffer s !isB).state ≠ .inFlight := fun h => hflight.mp (.inr h) hnone
    rw [buffersOk_iff _ isB, getBuffer_setBuffer_same, getBuffer_setBuffer_other, setBuffer_control]
    refine ⟨by simp, fun h => hidle h.2, ?_, hother⟩
    simpa [bufferAgrees, hw] using hthis
  | restart =>
    obtain ⟨hnone, hmode, hs1⟩ := hd
    dsimp only at hs1 hnone hmode
    subst hs1
    dsimp only
    rw [applyRestart_eq _ { s with deferred := some held } ⟨by simp, hmode⟩]
    have hread : Changes (restartState [responseTo (getBuffer s isB) .ok []] { s with deferred := some held })
        (readLines (if s.tables.axle.loaded then
          recomputeCircumferences (restartState [responseTo (getBuffer s isB) .ok []] { s with deferred := some held })
          else restartState [responseTo (getBuffer s isB) .ok []] { s with deferred := some held })) := by
      split
      · exact (recomputeCircumferences_changes _).trans (readLines_changes _)
      · exact readLines_changes _
    refine ⟨(hkeep.trans (.head (.restart _ (by simp) hmode) hread.acts)).trans (flushNotices_acts _),
      fun _ => flushNotices_buffers (hread.sound.buffers ?_), fun _ => flushNotices_deferred _⟩
    simp [BuffersOk, restartState, Management.reset, Buffer.free, hnone]

theorem oldestAwaiting_awaits {s : State} {isB : Bool} (h : oldestAwaiting s.management = some isB) :
    awaits (getBuffer s isB) = true := by
  unfold oldestAwaiting at h
  split at h
  case h_1 ha hb => cases h; cases hf : s.management.bFirst <;> simp [getBuffer, ha, hb]
  case h_2 ha _ => cases h; simpa [getBuffer] using ha
  case h_3 _ hb => cases h; simpa [getBuffer] using hb
  case h_4 => cases h

theorem serve_sound (n : Nat) : ∀ (held : List OriginatedFrame) (s : State), Sound s (serve n held s) := by
  induction n with
  | zero => exact fun held s => (handNotices_changes held s).sound
  | succ n ih =>
    intro held s
    unfold serve
    split
    · exact (handNotices_changes held s).sound
    next isB ho =>
      have ha := oldestAwaiting_awaits ho
      repeat' split
      · exact (handNotices_changes held s).sound
      next hheld => exact (enterHeld_sound isB s hheld).trans (ih held _)
      next hheld =>
        have hw : (getBuffer s isB).state = .waiting := by simpa [awaits, hheld] using ha
        exact (takeRequest_sound held isB s hw).trans (ih [] _)

theorem handRequest_sound (held : List OriginatedFrame) (src : Byte) (payload : List Byte) (s : State) :
    Sound s (handRequest held src payload s) := by
  have hplace : ∀ (isB : Bool) (bFirst : Bool), (getBuffer s isB).state = .free →
      Sound s { setBuffer s isB (waitingBuffer src payload) with
        management := { (setBuffer s isB (waitingBuffer src payload)).management with bFirst := bFirst } } := by
    intro isB bFirst hfree
    refine ⟨.tail (.single (setBuffer_act s isB _)) (.buffers _ _), fun hb => ?_, fun hd => ?_⟩
    · have hset : BuffersOk (setBuffer s isB (waitingBuffer src payload)) :=
        buffersOk_setBuffer hb (by simp [hfree]) (by simp [waitingBuffer]) (by simp [bufferAgrees, waitingBuffer])
      exact hset
    · cases isB <;> exact hd
  unfold handRequest
  dsimp only
  split
  next ha => exact (hplace false _ ha).trans (serve_sound 2 held _)
  next =>
    split
    next hb => exact (hplace true _ hb).trans (serve_sound 2 held _)
    next => exact (handNotices_changes held s).sound.trans (handOver_changes _ .c _).sound

/-! ## Completion of a validation (R176) -/

theorem inFlightBuffer_state {s : State} {isB : Bool} (h : inFlightBuffer s.management = some isB) :
    (getBuffer s isB).state = .inFlight := by
  unfold inFlightBuffer at h
  split at h
  next ha => cases h; exact ha
  next =>
    split at h
    next hb => cases h; exact hb
    next => cases h

theorem inFlightBuffer_none {s : State} (h : inFlightBuffer s.management = none) (isB : Bool) :
    (getBuffer s isB).state ≠ .inFlight := by
  unfold inFlightBuffer at h
  split at h
  · cases h
  next ha =>
    split at h
    · cases h
    next hb => cases isB <;> assumption

theorem concludeValidation_changes (s : State) : Changes s (concludeValidation s).1 := by
  unfold concludeValidation
  split
  next h => exact enterService_changes s h
  next => exact .refl

/-- The validation's mark goes, its checks have their effect, and its response enters or is HELD. -/
theorem answerValidation_sound (s u : State) (r : ResultCode) (data : List Byte) (hu : Acts s u)
    (hm : u.management = s.management) (hv : u.control.validation = none) (hs : s.control.validation ≠ none) :
    Acts s (answerValidation r data u) ∧ (BuffersOk s → BuffersOk (answerValidation r data u)) := by
  unfold answerValidation
  have hget : ∀ isB, getBuffer u isB = getBuffer s isB := fun isB => by simp [getBuffer, hm]
  split
  next hnone =>
    refine ⟨hu, fun hb => ?_⟩
    obtain ⟨hflight, _⟩ := (buffersOk_iff s true).mp hb
    rw [hm] at hnone
    exact absurd (hflight.mpr hs) (by simp [inFlightBuffer_none hnone])
  next isB hsome =>
    rw [hm] at hsome
    have hold := inFlightBuffer_state hsome
    dsimp only
    split
    · have hchanges := enterResponse_changes u (responseTo (getBuffer u isB) r data)
      refine ⟨hu.trans (hchanges.acts.tail (setBuffer_act _ _ _)), fun hb => ?_⟩
      exact buffersOk_conclude hb (hchanges.standing.management.trans hm) (hchanges.standing.validation.trans hv) hold
        (by simp [Buffer.free]) bufferAgrees_free
    · exact ⟨hu.tail (setBuffer_act _ _ _),
        fun hb => buffersOk_conclude hb hm hv hold (by simp) (by simp [bufferAgrees])⟩

theorem completeValidation_sound (s : State) : Sound s (completeValidation s) := by
  unfold completeValidation
  split
  · exact .refl s
  next n hv =>
    dsimp only
    have hclear : Acts s { s with control := { s.control with validation := none }, deferred := some [] } :=
      .head (.buffers s.management none) (.single (.keepBack (some [])))
    have hchanges := concludeValidation_changes
      { s with control := { s.control with validation := none }, deferred := some [] }
    obtain ⟨hacts, hbuffers⟩ := answerValidation_sound s _
      (concludeValidation { s with control := { s.control with validation := none }, deferred := some [] }).2.1
      (concludeValidation { s with control := { s.control with validation := none }, deferred := some [] }).2.2
      (hclear.trans hchanges.acts) hchanges.standing.management hchanges.standing.validation (by simp [hv])
    refine Sound.trans ⟨hacts.trans (flushNotices_acts _), fun hb => flushNotices_buffers (hbuffers hb),
      fun _ => flushNotices_deferred _⟩ (serve_sound 2 [] _)

/-! ## Arrivals and transmissions -/

theorem admitHeld_sound (s : State) : Sound s (admitHeld s) := by
  unfold admitHeld
  split
  · exact serve_sound 2 [] s
  · exact .refl s

theorem handleOwn_sound (p : Port) (known : Bool) (f : Frame) (s : State) : Sound s (handleOwn p known f s) := by
  unfold handleOwn
  split
  · dsimp only
    have hoffer := offerFrame_changes p f { s with deferred := some [] }
    refine Sound.trans ⟨.head (.keepBack (some [])) (hoffer.acts.tail (.keepBack s.deferred)), fun hb => ?_, id⟩
      (handRequest_sound _ _ _ _)
    exact BuffersOk.congr hb hoffer.standing.management hoffer.standing.validation
  · exact (offerFrame_changes p f s).sound.trans (countAt_changes _ p _).sound

theorem handleArrival_sound (p : Port) (bytes : List Byte) (s : State) : Sound s (handleArrival p bytes s) := by
  have hforward := fun s => (forwardFrame_changes p bytes s).sound
  have hgood : ∀ s, Sound s (handleGood p bytes s) := by
    intro s
    unfold handleGood
    dsimp only
    split
    next i _ =>
      unfold handleKnown
      dsimp only
      split
      · exact (setNode_changes s i _).sound
      next gap _ =>
        refine Sound.trans (setNode_changes s i
          (acceptNode (nodeTimeout s.tables i) (parseFrame bytes).seq gap (getNode s i))).sound ?_
        unfold handleAccepted
        split
        · exact handleOwn_sound _ true _ _
        · exact (offerFrame_changes _ _ _).sound.trans ((consume_changes _ i gap _ _).sound.trans (hforward _))
    next => exact (countAt_changes s .e _).sound
    next =>
      unfold handleUnknown
      split
      · exact handleOwn_sound .c false _ s
      · exact (offerFrame_changes .c _ _).sound.trans (hforward _)
  unfold handleArrival
  split
  · exact (countAt_changes s p _).sound.trans (hgood _)
  · exact (dropDamaged_changes p _ bytes s).sound

theorem completeTransmission_sound (p : Port) (s : State) : Sound s (completeTransmission p s) := by
  unfold completeTransmission
  split
  · exact .refl s
  next originated bytes micros _ =>
    have hsent : Sound s (opportunity (countAt s p (countSent originated)) p (micros - lineMicros bytes)) :=
      (countAt_changes s p _).sound.trans (Change.port p _ (.completed _)).path.sound
    dsimp only
    split
    · exact hsent.trans ((serve_sound 2 [] _).trans (reformNotice_changes _).sound)
    · exact hsent

/-! ## Commands -/

/-- Everything a command can be: one of the two resets, a pin change, or an event with a sound effect. -/
theorem exec_cases (c : Instr) :
    (∃ cause, c = .resetAssert cause) ∨ (∃ release, c = .powerOnReset release)
    ∨ (∃ n high, c = .discretePinChange n high)
    ∨ ∃ f : State → State, (∀ s, exec c s = event s f) ∧ ∀ s, Sound s (f s) := by
  have hrequest : ∀ (src : Byte) (payload : List Byte) (c : Instr),
      (∀ s, exec c s = event s (handRequest [] src payload)) →
      ∃ f : State → State, (∀ s, exec c s = event s f) ∧ ∀ s, Sound s (f s) :=
    fun src payload c h => ⟨_, h, handRequest_sound [] src payload⟩
  have hchanges : ∀ (f : State → State) (c : Instr), (∀ s, exec c s = event s f) → (∀ s, Changes s (f s)) →
      ∃ f : State → State, (∀ s, exec c s = event s f) ∧ ∀ s, Sound s (f s) :=
    fun f c h hf => ⟨f, h, fun s => (hf s).sound⟩
  cases c
  case resetAssert cause => exact .inl ⟨cause, rfl⟩
  case powerOnReset release => exact .inr (.inl ⟨release, rfl⟩)
  case discretePinChange n high => exact .inr (.inr (.inl ⟨n, high, rfl⟩))
  all_goals refine .inr (.inr (.inr ?_))
  case frameArrival p bytes => exact ⟨_, fun _ => rfl, handleArrival_sound p bytes⟩
  case mgmtRequest src payload => exact ⟨_, fun _ => rfl, handRequest_sound [] src payload⟩
  case heldResponseEntry => exact ⟨_, fun _ => rfl, admitHeld_sound⟩
  case validationComplete => exact ⟨_, fun _ => rfl, completeValidation_sound⟩
  case transmitComplete p => exact ⟨_, fun _ => rfl, completeTransmission_sound p⟩
  case demandFrame k gap f => exact hchanges _ _ (fun _ => rfl) (deliverDemand_changes k gap f)
  case sourceSwitchComplete k =>
    exact hchanges _ _ (fun _ => rfl) fun s => (completePending_changes k s).trans (evalSand_changes _)
  case autoSwitch k =>
    exact hchanges _ _ (fun _ => rfl) fun s => (autoSwitch_changes k s).trans (evalSand_changes _)
  case emergencyLatchClear k e r => exact hchanges _ _ (fun _ => rfl) (tryClearLatch_changes k e _)
  case timeFrame payload => exact hchanges _ _ (fun _ => rfl) (handleTime_changes payload)
  case axleSample payload => exact hchanges _ _ (fun _ => rfl) (handleAxleSample_changes payload)
  case radarSample payload => exact hchanges _ _ (fun _ => rfl) (handleRadarSample_changes payload)
  case tractionStatus payload => exact hchanges _ _ (fun _ => rfl) (handleTraction_changes payload)
  case valveStatus t payload => exact hchanges _ _ (fun _ => rfl) (handleValve_changes t payload)
  case noticeReform => exact hchanges _ _ (fun _ => rfl) reformNotice_changes
  case livenessExpiry i => exact hchanges _ _ (fun _ => rfl) (livenessExpired_changes i.val)
  case holdTimerExpiry => exact hchanges _ _ (fun _ => rfl) holdExpiry_changes
  case emergencyResetExpiry => exact hchanges _ _ (fun _ => rfl) emergencyExpiry_changes
  case staleTimerExpiry => exact hchanges _ _ (fun _ => rfl) staleExpiry_changes
  case episodeTimerExpiry i => exact hchanges _ _ (fun _ => rfl) (episodeExpiry_changes i)
  case lockedTimeout i => exact hchanges _ _ (fun _ => rfl) (lockedExpiry_changes i)
  case sandHoldExpiry => exact hchanges _ _ (fun _ => rfl) sandExpiry_changes
  case setupTimerExpiry => exact hchanges _ _ (fun _ => rfl) setupExpiry_changes
  case idleTimerExpiry => exact hchanges _ _ (fun _ => rfl) idleExpiry_changes
  case heatPeriod => exact hchanges _ _ (fun _ => rfl) heatExpiry_changes
  case blendPeriod => exact hchanges _ _ (fun _ => rfl) blendExpiry_changes
  case debounceExpiry n => exact hchanges _ _ (fun _ => rfl) (debounceExpired_changes n)
  all_goals exact hrequest _ _ _ fun _ => rfl

/-- The outputs driven at the end of an event. -/
theorem syncOutputs_changes (s : State) : Changes s (syncOutputs s) := (Change.lines _).path

theorem heldInReset_buffers (hold : Hold) (s : State) : BuffersOk (heldInReset hold s) := by
  simp [BuffersOk, heldInReset, State.reset, Management.reset, Buffer.free, Control.reset]

/-- Every command answers a next state, by a path of changes; a reset leaves no notice kept back, nor does another
command where none was. -/
theorem exec_sound (c : Instr) (s : State) : ∃ t, exec c s = .next t ∧ Sound s t := by
  rcases exec_cases c with ⟨cause, rfl⟩ | ⟨release, rfl⟩ | ⟨n, high, rfl⟩ | ⟨f, hf, hsound⟩
  · show ∃ t, execResetAssert cause s = .next t ∧ _
    unfold execResetAssert
    split
    · exact ⟨_, rfl, .single (.reset _ _ _), fun _ => heldInReset_buffers _ s, fun _ => rfl⟩
    · exact ⟨s, rfl, .refl s⟩
  · show ∃ t, execPowerOnReset release s = .next t ∧ _
    unfold execPowerOnReset
    dsimp only
    split
    · exact ⟨_, rfl, .single (.held _), id, id⟩
    · have hread : Changes _ (syncOutputs (powerOn (releaseStraps release) s)) :=
        (readLines_changes _).trans (syncOutputs_changes _)
      refine ⟨_, rfl, .head (.reset Hold.reset _ (resetLines s.lines)) hread.acts, fun _ => hread.sound.buffers ?_,
        fun _ => hread.standing.deferred rfl⟩
      simp [BuffersOk, State.reset, Management.reset, Buffer.free, Control.reset]
  · show ∃ t, execDiscretePinChange n high s = .next t ∧ _
    unfold execDiscretePinChange
    split
    next => exact ⟨_, rfl, (setInput_changes s n _).sound⟩
    next hlive =>
      rw [event_live s _ (by simpa using hlive)]
      refine ⟨_, rfl, ?_⟩
      exact (changePin_changes n high s).sound.trans (syncOutputs_changes _).sound
  · rw [hf, event_next]
    split
    · exact ⟨_, rfl, .refl s⟩
    · exact ⟨_, rfl, (hsound s).trans (syncOutputs_changes _).sound⟩

/-- Settles O2: a command is a path of changes, and none of them touches the waiting commands. -/
theorem commandsAnswerAndKeepQueue : Obligations.CommandsAnswerAndKeepQueue := by
  unfold Obligations.CommandsAnswerAndKeepQueue
  intro c s
  obtain ⟨t, ht, hsound⟩ := exec_sound c s
  exact ⟨t, ht, hsound.acts.pending_choice.1, hsound.acts.pending_choice.2, hsound.deferred⟩

/-! ## Steps -/

/-- What every command keeps, and a millisecond, and what does not speak of the waiting commands, is kept by a step. -/
theorem step_keeps_of_exec {P : State → Prop} (hexec : ∀ c s t, exec c s = .next t → P s → P t)
    (htick : ∀ s, P s → P (tick s))
    (hqueue : ∀ s (q : List Instr) (n : Nat), P s → P { s with pending := q, choice := n }) {s t : State}
    (hstep : step s = .next t) (hs : P s) : P t := by
  unfold step at hstep
  split at hstep
  next c rest _ => exact hexec c _ _ hstep (hqueue s rest s.choice hs)
  next =>
    unfold idleStep at hstep
    split at hstep
    · cases hstep
      exact hs
    · split at hstep
      · cases hstep
        exact htick s hs
      next c _ => exact hexec c _ _ hstep (hqueue s s.pending (s.choice + 1) hs)

/-- The same, for what the effect of a command keeps. -/
theorem step_keeps_of_sound {P : State → Prop} (hsound : ∀ s t, Sound s t → P s → P t)
    (htick : ∀ s, P s → P (tick s))
    (hqueue : ∀ s (q : List Instr) (n : Nat), P s → P { s with pending := q, choice := n }) {s t : State}
    (hstep : step s = .next t) (hs : P s) : P t := by
  refine step_keeps_of_exec (fun c a b hc ha => ?_) htick hqueue hstep hs
  obtain ⟨b', hb, h⟩ := exec_sound c a
  rw [hb] at hc
  cases hc
  exact hsound _ _ h ha

/-- An invariant of a step is shown act by act. -/
theorem step_keeps {P : State → Prop} (hact : ∀ s t, Act s t → P s → P t) (htick : ∀ s, P s → P (tick s))
    (hqueue : ∀ s (q : List Instr) (n : Nat), P s → P { s with pending := q, choice := n }) {s t : State}
    (hstep : step s = .next t) (hs : P s) : P t := by
  refine step_keeps_of_sound (fun a b h ha => ?_) htick hqueue hstep hs
  obtain ⟨hpath, -, -⟩ := h
  induction hpath with
  | refl => exact ha
  | tail _ hb ih => exact hact _ _ hb ih

end Sys2Proof.Machine
end

section
/-! PROOF. What every step keeps of the authority, of the axles' factors and of the speeds (R6, R12, R13, R26, R32,
R45). -/

namespace Sys2Proof.Machine

/-! ## Authority (R6, R12, R13) -/

/-- R6 without the fields it does not speak of. -/
theorem AuthorityMove.ok {a b : Authority} (hmove : AuthorityMove a b) (h : AuthorityOk a) : AuthorityOk b := by
  obtain ⟨hactive, hlost, hpending, hhold⟩ := h
  cases hmove
  case note => exact ⟨hactive, hlost, hpending, hhold⟩
  case monitor k m hm =>
    refine ⟨?_, hlost, hpending, hhold⟩
    dsimp only
    split at hactive
    next j ha =>
      refine ⟨?_, hactive.2⟩
      by_cases hj : k = j
      · subst hj
        rw [PerSource.get_set_same]
        exact hm hactive.1
      · rw [PerSource.get_set_other _ _ _ _ hj]
        exact hactive.1
    next => exact hactive
  case silence k hk =>
    refine ⟨?_, hlost, hpending, hhold⟩
    dsimp only
    split at hactive
    next j ha =>
      refine ⟨?_, hactive.2⟩
      have hj : k ≠ j := by
        rintro rfl
        exact hk hactive.1 ha
      rw [PerSource.get_set_other _ _ _ _ hj]
      exact hactive.1
    next => exact hactive
  case lose k => simp [AuthorityOk]
  case switch k hvalid hlock =>
    refine ⟨⟨hvalid, rfl, ?_⟩, by simp, by simp, fun _ => rfl⟩
    rcases hlock with hp | hn | hk
    · exact hpending k hp
    · exact .inl hn
    · exact .inr hk
  case select k hlock =>
    refine ⟨hactive, hlost, fun j hj => ?_, hhold⟩
    cases hj
    exact hlock
  case abort => exact ⟨hactive, hlost, by simp, hhold⟩
  case lock k ha hn =>
    refine ⟨?_, hlost, by simp, hhold⟩
    rw [ha] at hactive
    dsimp only
    rw [ha]
    exact ⟨hactive.1, hactive.2.1, .inr rfl⟩
  case penalty hrun =>
    have hphase : a.phase = .hold := by
      by_contra hne
      exact hrun (hhold hne)
    refine ⟨?_, ?_, hpending, fun _ => rfl⟩
    · dsimp only
      split at hactive
      · rw [hphase] at hactive
        cases hactive.2.1
      next => simp
    · simpa using hlost.mp (.inl hphase)

theorem authorityOk_reset : AuthorityOk Authority.reset := by simp [AuthorityOk, Authority.reset]

theorem restartAuthority_ok (a : Authority) : AuthorityOk (restartAuthority a) := by
  simp [AuthorityOk, restartAuthority, Authority.reset]

theorem purgeSetpoints_authority (s : State) : (purgeSetpoints s).authority = s.authority := by
  rw [purgeSetpoints_frame]

theorem Act.authorityOk {s t : State} (hact : Act s t) (h : AuthorityOk s.authority) : AuthorityOk t.authority := by
  cases hact
  case change hc =>
    cases hc
    case authority a hm => exact hm.ok h
    case port p ps _ => rwa [setPort_authority]
    case truck tr r _ => rwa [setTruck_authority]
    case entered _ => rwa [purgeSetpoints_authority]
    all_goals exact h
  case restart => exact restartAuthority_ok s.authority
  case reset => exact authorityOk_reset
  all_goals exact h

/-- A stopped timer stays stopped. -/
theorem tick_authorityOk (s : State) (h : AuthorityOk s.authority) : AuthorityOk (tick s).authority := by
  obtain ⟨hactive, hlost, hpending, hhold⟩ := h
  refine ⟨hactive, hlost, hpending, fun hne => ?_⟩
  show s.authority.holdTimer.tick = .stopped
  rw [hhold hne]
  rfl

/-! ## Slide factors (R45) -/

theorem updateSpeed_ok (dt : Option Nat) (r : AxleReading) {a : AxleRecord} (h : AxleOk a) :
    AxleOk (updateSpeed dt r a) := by
  unfold updateSpeed
  split <;> exact h

theorem recoverAxle_ok {a : AxleRecord} (h : AxleOk a) : AxleOk (recoverAxle a) := by
  unfold recoverAxle
  split
  · exact h
  next hs => simp [AxleOk, endEpisode, h.isolation_none hs]

/-- The slip of R33, at a valid reading. -/
def withSlip (vRef : Nat) (a : AxleRecord) : AxleRecord := if a.lastValid then { a with slip := vRef - a.v } else a

theorem withSlip_ok (vRef : Nat) {a : AxleRecord} (h : AxleOk a) : AxleOk (withSlip vRef a) := by
  unfold withSlip
  split <;> exact h

theorem withSlip_v (vRef : Nat) (a : AxleRecord) : (withSlip vRef a).v = a.v := by
  unfold withSlip
  split <;> rfl

/-- An axle as a sample leaves it before the transitions. -/
def measuredAxle (dt : Option Nat) (lost : Bool) (vRef : Nat) (r : AxleReading) (a : AxleRecord) : AxleRecord :=
  withSlip vRef (if lost then recoverAxle (updateSpeed dt r a) else updateSpeed dt r a)

theorem sampleMeasure_axle (rd : Six AxleReading) (s : State) (i : Fin 6) :
    (sampleMeasure rd s).slide.axles.get i
      = measuredAxle (sampleInterval s) (s.slide.speedState = .lost) (sampleMeasure rd s).slide.vRef (rd.get i)
          (s.slide.axles.get i) := by
  unfold sampleMeasure measuredAxle withSlip
  by_cases hl : s.slide.speedState = .lost <;> simp [hl]

theorem measuredAxle_ok (dt : Option Nat) (lost : Bool) (vRef : Nat) (r : AxleReading) {a : AxleRecord}
    (h : AxleOk a) : AxleOk (measuredAxle dt lost vRef r a) := by
  refine withSlip_ok vRef ?_
  split
  · exact recoverAxle_ok (updateSpeed_ok dt r h)
  · exact updateSpeed_ok dt r h

theorem axleOk_reset : AxleOk AxleRecord.reset := by simp [AxleOk, AxleRecord.reset]

theorem factorsOk_reset : FactorsOk Slide.reset := fun i => by
  simp only [Slide.reset, Six.get_all]
  exact axleOk_reset

theorem purgeSetpoints_slide (s : State) : (purgeSetpoints s).slide = s.slide := by
  rw [purgeSetpoints_frame]

theorem Act.factorsOk {s t : State} (hact : Act s t) (h : FactorsOk s.slide) : FactorsOk t.slide := by
  cases hact
  case change hc =>
    cases hc
    case axles x hx => exact fun i => (hx i).2 (h i)
    case sample rd =>
      intro i
      show AxleOk ((sampleMeasure rd s).slide.axles.get i)
      rw [sampleMeasure_axle]
      exact measuredAxle_ok _ _ _ _ (h i)
    case port p ps _ => rwa [setPort_slide]
    case truck tr r _ => rwa [setTruck_slide]
    case entered _ => rwa [purgeSetpoints_slide]
    all_goals exact h
  case restart => exact factorsOk_reset
  case reset => exact factorsOk_reset
  all_goals exact h

theorem tickSlide_axle (k : Slide) (i : Fin 6) : (tickSlide k).axles.get i
    = if k.speedState = .lost then k.axles.get i else tickAxle (k.axles.get i) := by
  unfold tickSlide
  dsimp only
  split <;> simp

theorem tick_factorsOk (s : State) (h : FactorsOk s.slide) : FactorsOk (tick s).slide := by
  intro i
  show AxleOk ((tickSlide s.slide).axles.get i)
  rw [tickSlide_axle]
  split <;> exact h i

/-! ## Speeds (R26, R32) -/

theorem updateSpeed_speed (dt : Option Nat) (r : AxleReading) (a : AxleRecord) (h : a.v ≤ 20000) :
    (updateSpeed dt r a).v ≤ 20000 := by
  unfold updateSpeed
  split
  · exact Nat.min_le_right _ _
  · exact h

theorem recoverAxle_speed (a : AxleRecord) : (recoverAxle a).v = a.v := by
  unfold recoverAxle
  split <;> rfl

theorem measuredAxle_speed (dt : Option Nat) (lost : Bool) (vRef : Nat) (r : AxleReading) (a : AxleRecord) :
    (measuredAxle dt lost vRef r a).v = (updateSpeed dt r a).v := by
  rw [measuredAxle, withSlip_v]
  split
  · exact recoverAxle_speed _
  · rfl

theorem Six.mem_toList {α : Type} {x : Six α} {v : α} : v ∈ x.toList ↔ ∃ i : Fin 6, x.get i = v := by
  constructor
  · intro h
    simp only [Six.toList, List.mem_cons, List.not_mem_nil, or_false] at h
    rcases h with h | h | h | h | h | h
    exacts [⟨0, h.symm⟩, ⟨1, h.symm⟩, ⟨2, h.symm⟩, ⟨3, h.symm⟩, ⟨4, h.symm⟩, ⟨5, h.symm⟩]
  · rintro ⟨i, rfl⟩
    fin_cases i <;> simp [Six.toList, Six.get]

theorem candidate_le {axles : Six AxleRecord} {v : Nat} (h : ∀ i, (axles.get i).v ≤ 20000)
    (hv : candidate axles = some v) : v ≤ 20000 := by
  obtain ⟨a, ha, rfl⟩ := List.mem_map.mp (List.max?_mem hv)
  obtain ⟨i, rfl⟩ := Six.mem_toList.mp (List.mem_of_mem_filter ha)
  exact h i

theorem axleReference_le {ts : Tables} {dt cand : Option Nat} {vRef : Nat} (hcand : ∀ v ∈ cand, v ≤ 20000)
    (hv : vRef ≤ 20000) : axleReference ts dt cand vRef ≤ 20000 := by
  unfold axleReference
  split
  next d v =>
    have := hcand v rfl
    omega
  next => omega
  next v => exact hcand v rfl
  next => omega

theorem sampleMeasure_vRef_le (rd : Six AxleReading) (s : State) (h : SpeedsOk s.slide) :
    (sampleMeasure rd s).slide.vRef ≤ 20000 := by
  obtain ⟨hv, haxles⟩ := h
  unfold sampleMeasure
  dsimp only
  split
  · exact Nat.min_le_right _ _
  · refine axleReference_le (fun v hc => candidate_le (fun i => ?_) hc) hv
    have hi := updateSpeed_speed (sampleInterval s) (rd.get i) _ (haxles i)
    split
    · rwa [Six.get_map, Six.get_zipWith, recoverAxle_speed]
    · rwa [Six.get_zipWith]

theorem speedsOk_reset : SpeedsOk Slide.reset := by
  refine ⟨Nat.zero_le _, fun i => ?_⟩
  simp [Slide.reset, AxleRecord.reset]

theorem Act.speedsOk {s t : State} (hact : Act s t) (h : SpeedsOk s.slide) : SpeedsOk t.slide := by
  cases hact
  case change hc =>
    cases hc
    case axles x hx => exact ⟨h.1, fun i => (hx i).1 ▸ h.2 i⟩
    case sample rd =>
      refine ⟨sampleMeasure_vRef_le rd s h, fun i => ?_⟩
      show ((sampleMeasure rd s).slide.axles.get i).v ≤ 20000
      rw [sampleMeasure_axle, measuredAxle_speed]
      exact updateSpeed_speed _ _ _ (h.2 i)
    case port p ps _ => rwa [setPort_slide]
    case truck tr r _ => rwa [setTruck_slide]
    case entered _ => rwa [purgeSetpoints_slide]
    all_goals exact h
  case restart => exact speedsOk_reset
  case reset => exact speedsOk_reset
  all_goals exact h

theorem tick_speedsOk (s : State) (h : SpeedsOk s.slide) : SpeedsOk (tick s).slide := by
  refine ⟨h.1, fun i => ?_⟩
  show ((tickSlide s.slide).axles.get i).v ≤ 20000
  rw [tickSlide_axle]
  split <;> exact h.2 i

/-- Settles O55: each predicate is kept by every act of a command, and by a millisecond. -/
theorem stepKeepsAuthorityAndAxles : Obligations.StepKeepsAuthorityAndAxles := by
  unfold Obligations.StepKeepsAuthorityAndAxles
  intro s t hstep
  refine ⟨?authority, ?factors, ?speeds⟩
  case authority =>
    exact step_keeps (P := fun s => AuthorityOk s.authority) (fun _ _ => Act.authorityOk) tick_authorityOk
      (fun _ _ _ => id) hstep
  case factors =>
    exact step_keeps (P := fun s => FactorsOk s.slide) (fun _ _ => Act.factorsOk) tick_factorsOk
      (fun _ _ _ => id) hstep
  case speeds =>
    exact step_keeps (P := fun s => SpeedsOk s.slide) (fun _ _ => Act.speedsOk) tick_speedsOk
      (fun _ _ _ => id) hstep

end Sys2Proof.Machine
end

section
/-! PROOF. What every step keeps of the Incident Recorder (R101, R104, R106, R111). -/

namespace Sys2Proof.Machine

/-! ## Slots after a replacement -/

/-- A slot of the list in which slot `i` was replaced is the new one, or one that stood. -/
theorem mem_setSlot {r : Recorder} {i : Nat} {k x : Slot} (h : x ∈ (setSlot r i k).slots) : x = k ∨ x ∈ r.slots :=
  (List.mem_or_eq_of_mem_set h).symm

theorem getSlot_mem {r : Recorder} {i : Nat} (h : (getSlot r i).state ≠ .free) :
    getSlot r i ∈ r.slots ∧ ∃ hi : i < r.slots.length, r.slots[i] = getSlot r i := by
  by_cases hi : i < r.slots.length
  · have hget : getSlot r i = r.slots[i] := List.getD_eq_getElem _ _ hi
    exact ⟨hget ▸ List.getElem_mem hi, hi, hget.symm⟩
  · refine absurd ?_ h
    rw [getSlot, List.getD_eq_default _ _ (by omega)]
    rfl

theorem fillingSlot_none {r : Recorder} (h : fillingSlot r = none) : ∀ k ∈ r.slots, k.state ≠ .filling := by
  intro k hk hs
  have := List.findIdx?_eq_none_iff.mp h k hk
  simp [hs] at this

theorem fillingCount_eq_zero {r : Recorder} : fillingCount r = 0 ↔ ∀ k ∈ r.slots, k.state ≠ .filling := by
  simp [fillingCount, List.filter_eq_nil_iff]

theorem fillingCount_eq_countP (r : Recorder) :
    fillingCount r = r.slots.countP (fun k => decide (k.state = .filling)) := List.countP_eq_length_filter.symm

/-- A slot in use is exchanged for another: the count loses the old one and gains the new one. -/
theorem fillingCount_setSlot {r : Recorder} {i : Nat} {k : Slot} (hi : i < r.slots.length) :
    fillingCount (setSlot r i k) = fillingCount r - (if (getSlot r i).state = .filling then 1 else 0)
      + (if k.state = .filling then 1 else 0) := by
  have hget : getSlot r i = r.slots[i] := List.getD_eq_getElem _ _ hi
  rw [fillingCount_eq_countP, fillingCount_eq_countP, hget, setSlot]
  simp [List.countP_set hi]

theorem setSlot_of_length_le {r : Recorder} {i : Nat} {k : Slot} (hi : r.slots.length ≤ i) : setSlot r i k = r := by
  rw [setSlot, List.set_eq_of_length_le hi]

/-- A replacement that enters no FILLING slot, or puts one in the place of one, adds none. -/
theorem fillingCount_setSlot_le {r : Recorder} {i : Nat} {k : Slot}
    (h : k.state = .filling → (getSlot r i).state = .filling) : fillingCount (setSlot r i k) ≤ fillingCount r := by
  rcases Nat.lt_or_ge i r.slots.length with hi | hi
  · rw [fillingCount_setSlot hi]
    by_cases hf : (getSlot r i).state = .filling
    · have hpos : fillingCount r ≠ 0 := fun hzero =>
        fillingCount_eq_zero.mp hzero _ (getSlot_mem (by simp [hf])).1 hf
      rw [if_pos hf]
      split <;> omega
    · rw [if_neg hf, if_neg (mt h hf)]
      omega
  · rw [setSlot_of_length_le hi]

theorem fillingCount_setSlot_le_one {r : Recorder} {i : Nat} {k : Slot} (h : fillingSlot r = none) :
    fillingCount (setSlot r i k) ≤ 1 := by
  have hzero := fillingCount_eq_zero.mpr (fillingSlot_none h)
  rcases Nat.lt_or_ge i r.slots.length with hi | hi
  · rw [fillingCount_setSlot hi, hzero]
    split_ifs <;> omega
  · rw [setSlot_of_length_le hi, hzero]
    exact zero_le_one

/-! ## At most one FILLING slot, in SERVICE alone (R104) -/

theorem RecorderMove.filling {mode : Mode} {a b : Recorder} (hmove : RecorderMove mode a b)
    (h : fillingCount a ≤ 1 ∧ (fillingCount a ≠ 0 → mode = .service)) :
    fillingCount b ≤ 1 ∧ (fillingCount b ≠ 0 → mode = .service) := by
  have hle : ∀ {c : Recorder}, fillingCount c ≤ fillingCount a →
      fillingCount c ≤ 1 ∧ (fillingCount c ≠ 0 → mode = .service) :=
    fun hc => ⟨hc.trans h.1, fun hne => h.2 (by omega)⟩
  cases hmove
  case tally => exact h
  case ring => exact h
  case opened i k hmode hnone _ _ _ _ => exact ⟨fillingCount_setSlot_le_one hnone, fun _ => hmode⟩
  case edited i k _ _ hfilling _ _ _ => exact hle (fillingCount_setSlot_le hfilling)
  case freed i => exact hle (fillingCount_setSlot_le (by simp [Slot.free]))

/-- Sealing the one FILLING slot leaves none. -/
theorem fillingCount_sealed {r : Recorder} (h : fillingCount r ≤ 1) : fillingCount (sealedRecorder r) = 0 := by
  unfold sealedRecorder
  split
  next hnone => exact fillingCount_eq_zero.mpr (fillingSlot_none hnone)
  next i hi =>
    have hstate := fillingSlot_state hi
    obtain ⟨-, hlt, -⟩ := getSlot_mem (r := r) (i := i) (by simp [hstate])
    rw [fillingCount_setSlot hlt, if_pos hstate, if_neg (by simp)]
    omega

theorem purgeSetpoints_recorder (s : State) : (purgeSetpoints s).recorder = s.recorder := by
  rw [purgeSetpoints_frame]

theorem purgeSetpoints_control (s : State) : (purgeSetpoints s).control = s.control := by
  rw [purgeSetpoints_frame]

/-- R104 speaks of the slots and the mode alone. -/
theorem SlotsOk.congr {s t : State} (h : SlotsOk s) (hr : t.recorder = s.recorder)
    (hm : t.control.mode = s.control.mode) : SlotsOk t := by
  unfold SlotsOk
  rw [hr, hm]
  exact h

theorem slotsOk_reset : SlotsOk State.reset := by
  have hzero : fillingCount State.reset.recorder = 0 := by decide
  exact ⟨hzero.le.trans zero_le_one, fun hne => absurd hzero hne⟩

theorem Act.slotsOk {s t : State} (hact : Act s t) (h : SlotsOk s) : SlotsOk t := by
  cases hact
  case change hc =>
    cases hc
    case recorder r hr => exact hr.filling h
    case port p ps _ => exact h.congr (setPort_recorder _ _ _) (by rw [setPort_control])
    case truck tr r _ => exact h.congr (setTruck_recorder _ _ _) (by rw [setTruck_control])
    case left e p1 p2 =>
      have hzero := fillingCount_sealed h.1
      exact ⟨hzero.le.trans zero_le_one, fun hne => absurd hzero hne⟩
    case entered _ =>
      unfold SlotsOk
      rw [purgeSetpoints_recorder, purgeSetpoints_control]
      exact ⟨h.1, fun _ => rfl⟩
    all_goals exact h
  case restart => exact h
  case reset => exact slotsOk_reset
  all_goals exact h

/-! ## Capacities (R101, R111) -/

theorem RecorderMove.incidentsOk {mode : Mode} {a b : Recorder} (hmove : RecorderMove mode a b)
    (h : IncidentsOk a) : IncidentsOk b := by
  obtain ⟨hlength, hring, hfree, htriggers⟩ := h
  have hset : ∀ (i : Nat) (k : Slot), (setSlot a i k).slots.length = 8 := fun i k =>
    (List.length_set ..).trans hlength
  cases hmove
  case tally => exact ⟨hlength, hring, hfree, htriggers⟩
  case ring x d hx => exact ⟨hlength, hx hring, hfree, htriggers⟩
  case opened i k _ _ _ hstate _ hone =>
    refine ⟨hset i k, hring, fun x hx hs => ?_, fun x hx hs => ?_⟩
    · rcases mem_setSlot hx with rfl | hx
      · rw [hstate] at hs
        cases hs
      · exact hfree x hx hs
    · rcases mem_setSlot hx with rfl | hx
      · rw [hone]
        decide
      · exact htriggers x hx hs
  case edited i k hold hstate _ _ hle hcap =>
    refine ⟨hset i k, hring, fun x hx hs => ?_, fun x hx hs => ?_⟩
    · rcases mem_setSlot hx with rfl | hx
      · exact absurd hs hstate
      · exact hfree x hx hs
    · rcases mem_setSlot hx with rfl | hx
      · obtain ⟨hpos, hmax⟩ := htriggers _ (getSlot_mem hold).1 hold
        exact ⟨hpos.trans hle, hcap hmax⟩
      · exact htriggers x hx hs
  case freed i =>
    refine ⟨hset i _, hring, fun x hx hs => ?_, fun x hx hs => ?_⟩
    · rcases mem_setSlot hx with rfl | hx
      · rfl
      · exact hfree x hx hs
    · rcases mem_setSlot hx with rfl | hx
      · exact absurd rfl hs
      · exact htriggers x hx hs

theorem sealedRecorder_move (mode : Mode) (r : Recorder) : RecorderMove mode r (sealedRecorder r) := by
  unfold sealedRecorder
  split
  · exact .tally r.overwrites r.lostCount
  next i hi =>
    exact .edited i { getSlot r i with state := .sealed, endCause := some .modeChange }
      (by simp [fillingSlot_state hi]) (by simp) (by simp) rfl le_rfl id

theorem clearRing_move (mode : Mode) (r : Recorder) : RecorderMove mode r { r with ring := [], divider := 0 } :=
  .ring [] 0 fun _ => Nat.zero_le _

/-- Every act of a command leaves the Recorder, moves it, or resets it. -/
theorem Act.recorder {s t : State} (hact : Act s t) :
    t.recorder = s.recorder ∨ RecorderMove s.control.mode s.recorder t.recorder ∨ t.recorder = Recorder.reset := by
  cases hact
  case change hc =>
    cases hc
    case recorder r hr => exact .inr (.inl hr)
    case port p ps _ => exact .inl (setPort_recorder _ _ _)
    case truck tr r _ => exact .inl (setTruck_recorder _ _ _)
    case left e p1 p2 => exact .inr (.inl (sealedRecorder_move _ _))
    case entered _ =>
      rw [purgeSetpoints_recorder]
      exact .inr (.inl (clearRing_move _ _))
    all_goals exact .inl rfl
  case restart => exact .inr (.inl (clearRing_move _ _))
  case reset => exact .inr (.inr rfl)
  all_goals exact .inl rfl

/-- What every move of the Recorder keeps, and its reset state meets, is kept by every act. -/
theorem Act.recorder_keeps {P : Recorder → Prop} (hmove : ∀ mode a b, RecorderMove mode a b → P a → P b)
    (hreset : P Recorder.reset) {s t : State} (hact : Act s t) (h : P s.recorder) : P t.recorder := by
  rcases hact.recorder with he | hm | he
  · rwa [he]
  · exact hmove _ _ _ hm h
  · rwa [he]

theorem incidentsOk_reset : IncidentsOk Recorder.reset := by
  refine ⟨by decide, by decide, ?_, ?_⟩ <;> intro k hk
  · exact fun _ => List.eq_of_mem_replicate hk
  · exact fun hs => absurd (List.eq_of_mem_replicate hk ▸ rfl) hs

/-! ## Numbers (R106) -/

/-- Two slots in use carry different numbers. -/
def DistinctNumbers (a b : Slot) : Prop := a.state ≠ .free → b.state ≠ .free → a.seq ≠ b.seq

theorem usedNumbers_nodup_iff (r : Recorder) : (usedNumbers r).Nodup ↔ r.slots.Pairwise DistinctNumbers := by
  unfold usedNumbers DistinctNumbers
  rw [List.Nodup, List.pairwise_map, List.pairwise_filter]
  simp

/-- A replacement keeps the numbers apart if the new slot's number is apart from those of the others. -/
theorem pairwise_setSlot {r : Recorder} {i : Nat} {k : Slot} (h : r.slots.Pairwise DistinctNumbers)
    (hnew : ∀ j (hj : j < r.slots.length), j ≠ i → DistinctNumbers k r.slots[j]) :
    (setSlot r i k).slots.Pairwise DistinctNumbers := by
  rw [List.pairwise_iff_getElem] at h ⊢
  intro a b ha hb hab
  have ha' : a < r.slots.length := by simpa [setSlot] using ha
  have hb' : b < r.slots.length := by simpa [setSlot] using hb
  simp only [setSlot, List.getElem_set]
  split
  next hia =>
    rw [if_neg (by omega)]
    exact hnew b hb' (by omega)
  next hia =>
    split
    next hib => exact fun hua huk he => hnew a ha' (by omega) huk hua he.symm
    next => exact h a b ha' hb' hab

theorem RecorderMove.numbersOk {mode : Mode} {a b : Recorder} (hmove : RecorderMove mode a b) (h : NumbersOk a) :
    NumbersOk b := by
  obtain ⟨hnodup, hnext, hgiven, hgreatest⟩ := h
  rw [usedNumbers_nodup_iff] at hnodup
  cases hmove
  case tally => exact ⟨(usedNumbers_nodup_iff _).mpr hnodup, hnext, hgiven, hgreatest⟩
  case ring => exact ⟨(usedNumbers_nodup_iff _).mpr hnodup, hnext, hgiven, hgreatest⟩
  case opened i k _ hnone hne hstate hseq _ =>
    have hbelow : ∀ x ∈ a.slots, x.state ≠ .free → ∃ q, x.seq = some q ∧ 1 ≤ q ∧ q ≤ Config.maxU32 ∧ q < a.nextSeq := by
      intro x hx hs
      obtain ⟨q, hq, h1, h2, h3⟩ := hgiven x hx hs
      exact ⟨q, hq, h1, h2, h3 hne⟩
    have hrise : nextSequence a.nextSeq ≠ 0 → nextSequence a.nextSeq = a.nextSeq + 1 := by
      unfold nextSequence
      split <;> simp
    refine ⟨(usedNumbers_nodup_iff _).mpr (pairwise_setSlot hnodup fun j hj _ _ hused he => ?_), ?_, fun x hx hs => ?_,
      fun x hx hf y hy hu => ?_⟩
    · obtain ⟨q, hq, _, _, hlt⟩ := hbelow _ (List.getElem_mem hj) hused
      rw [hseq, hq] at he
      cases he
      exact hlt.false
    · show nextSequence a.nextSeq ≤ Config.maxU32
      unfold nextSequence
      split <;> omega
    · rcases mem_setSlot hx with rfl | hx
      · exact ⟨a.nextSeq, hseq, by omega, hnext, fun hn => by have := hrise hn; dsimp only; omega⟩
      · obtain ⟨q, hq, h1, h2, h3⟩ := hbelow x hx hs
        exact ⟨q, hq, h1, h2, fun hn => by have := hrise hn; dsimp only; omega⟩
    · rcases mem_setSlot hx with rfl | hx
      · rcases mem_setSlot hy with rfl | hy
        · exact le_rfl
        · obtain ⟨q, hq, _, _, hlt⟩ := hbelow y hy hu
          rw [hq, hseq]
          exact hlt.le
      · exact absurd hf (fillingSlot_none hnone x hx)
  case edited i k hold hstate hfilling hseq _ _ =>
    obtain ⟨hmem, hi, hget⟩ := getSlot_mem hold
    refine ⟨(usedNumbers_nodup_iff _).mpr (pairwise_setSlot hnodup fun j hj hji _ hused he => ?_), hnext,
      fun x hx hs => ?_, fun x hx hf y hy hu => ?_⟩
    · rw [hseq] at he
      rw [List.pairwise_iff_getElem] at hnodup
      rcases Nat.lt_or_gt_of_ne hji with hlt | hgt
      · exact hnodup j i hj hi hlt hused (hget ▸ hold) (by rw [hget, he])
      · exact hnodup i j hi hj hgt (hget ▸ hold) hused (by rw [hget, he])
    · rcases mem_setSlot hx with rfl | hx
      · rw [hseq]
        exact hgiven _ hmem hold
      · exact hgiven x hx hs
    · have hy' : ∃ z ∈ a.slots, z.state ≠ .free ∧ z.seq = y.seq := by
        rcases mem_setSlot hy with rfl | hy
        · exact ⟨_, hmem, hold, hseq.symm⟩
        · exact ⟨y, hy, hu, rfl⟩
      obtain ⟨z, hz, huz, hzy⟩ := hy'
      rw [← hzy]
      rcases mem_setSlot hx with rfl | hx
      · rw [hseq]
        exact hgreatest _ hmem (hfilling hf) z hz huz
      · exact hgreatest x hx hf z hz huz
  case freed i =>
    refine ⟨(usedNumbers_nodup_iff _).mpr (pairwise_setSlot hnodup fun j _ _ hfree => absurd rfl hfree), hnext,
      fun x hx hs => ?_, fun x hx hf y hy hu => ?_⟩
    · rcases mem_setSlot hx with rfl | hx
      · exact absurd rfl hs
      · exact hgiven x hx hs
    · rcases mem_setSlot hx with rfl | hx
      · cases hf
      · rcases mem_setSlot hy with rfl | hy
        · exact absurd rfl hu
        · exact hgreatest x hx hf y hy hu

theorem numbersOk_reset : NumbersOk Recorder.reset := by
  refine ⟨by decide, by decide, ?_, ?_⟩ <;> intro k hk
  · exact fun hs => absurd (List.eq_of_mem_replicate hk ▸ rfl) hs
  · rw [List.eq_of_mem_replicate hk]
    intro hs
    cases hs

/-- Settles O56: each predicate is kept by every move of the Recorder. -/
theorem stepKeepsIncidents : Obligations.StepKeepsIncidents := by
  unfold Obligations.StepKeepsIncidents
  intro s t hstep
  refine ⟨?slots, ?incidents, ?numbers⟩
  case slots => exact step_keeps (fun _ _ => Act.slotsOk) (fun _ => id) (fun _ _ _ => id) hstep
  case incidents =>
    exact step_keeps (P := fun s => IncidentsOk s.recorder)
      (fun _ _ => Act.recorder_keeps (fun _ _ _ => RecorderMove.incidentsOk) incidentsOk_reset) (fun _ => id)
      (fun _ _ _ => id) hstep
  case numbers =>
    intro hnumbers _
    exact step_keeps (P := fun s => NumbersOk s.recorder)
      (fun _ _ => Act.recorder_keeps (fun _ _ _ => RecorderMove.numbersOk) numbersOk_reset) (fun _ => id)
      (fun _ _ _ => id) hstep hnumbers

end Sys2Proof.Machine
end

section
/-! PROOF. What every step keeps of the two ports (R136, R137, R140). -/

namespace Sys2Proof.Machine

/-! ## One port -/

/-- R140 for one port. -/
def IdleEmpty (ps : PortState) : Prop := ps.transmitter = .idle → ps.originated = [] ∧ ps.forward = []

/-- R136 for the E-port. -/
def ForeignFree (ps : PortState) : Prop :=
  (∀ raw ∈ ps.forward, isSetpoint raw = false) ∧ sendingSetpoint ps = false

theorem takeNext_portOk (own : Byte) (carry : Nat) {ps : PortState} (h : PortOk ps) : PortOk (takeNext own carry ps) :=
  ⟨(takeNext_forward own carry ps).length_le.trans h.1, (takeNext_originated own carry ps).length_le.trans h.2⟩

theorem takeNext_idleEmpty (own : Byte) (carry : Nat) (ps : PortState) : IdleEmpty (takeNext own carry ps) := by
  rcases takeNext_cases own carry ps with ⟨f, rest, _, h⟩ | ⟨raw, rest, _, _, h⟩ | ⟨ho, hf, h⟩ <;> rw [h] <;> intro hidle
  · cases hidle
  · cases hidle
  · exact ⟨ho, hf⟩

theorem takeNext_foreignFree (own : Byte) (carry : Nat) {ps : PortState}
    (h : ∀ raw ∈ ps.forward, isSetpoint raw = false) : ForeignFree (takeNext own carry ps) := by
  refine ⟨fun raw hraw => h raw ((takeNext_forward own carry ps).subset hraw), ?_⟩
  rcases takeNext_cases own carry ps with ⟨f, rest, _, he⟩ | ⟨raw, rest, _, hf, he⟩ | ⟨_, _, he⟩ <;> rw [he]
  · rfl
  · exact h raw (by simp [hf])
  · rfl

theorem settle_cases (own : Byte) (ps : PortState) :
    (ps.transmitter = .idle ∧ settle own ps = takeNext own 0 ps) ∨ (ps.transmitter ≠ .idle ∧ settle own ps = ps) := by
  unfold settle
  cases ps.transmitter <;> simp

theorem settle_portOk (own : Byte) {ps : PortState} (h : PortOk ps) : PortOk (settle own ps) := by
  rcases settle_cases own ps with ⟨_, he⟩ | ⟨_, he⟩ <;> rw [he]
  · exact takeNext_portOk own 0 h
  · exact h

/-- A frame that enters an IDLE transmitter's queue is taken at once, so a settled port is never IDLE over a waiting
frame. -/
theorem settle_idleEmpty (own : Byte) (ps : PortState) : IdleEmpty (settle own ps) := by
  rcases settle_cases own ps with ⟨_, he⟩ | ⟨hbusy, he⟩ <;> rw [he]
  · exact takeNext_idleEmpty own 0 ps
  · exact fun hidle => absurd hidle hbusy

theorem settle_foreignFree (own : Byte) {ps : PortState} (h : ForeignFree ps) : ForeignFree (settle own ps) := by
  rcases settle_cases own ps with ⟨_, he⟩ | ⟨_, he⟩ <;> rw [he]
  · exact takeNext_foreignFree own 0 h.1
  · exact h

section
variable {s : State} {p : Port} {ps : PortState}

theorem PortMove.portOk (hmove : PortMove s p ps) (h : PortOk (getPort s p)) : PortOk ps := by
  cases hmove
  case counted => exact h
  case entered f q hq => exact settle_portOk _ ⟨h.1, queueOriginated_length p _ q f h.2 hq⟩
  case forwarded raw hroom _ => exact settle_portOk _ ⟨by simpa using hroom, h.2⟩
  case completed carry => exact takeNext_portOk _ _ h

theorem PortMove.idleEmpty (hmove : PortMove s p ps) (h : IdleEmpty (getPort s p)) : IdleEmpty ps := by
  cases hmove
  case counted => exact h
  case entered => exact settle_idleEmpty _ _
  case forwarded => exact settle_idleEmpty _ _
  case completed => exact takeNext_idleEmpty _ _ _

theorem PortMove.foreignFree (hmove : PortMove s .e ps) (hmode : s.control.mode = .service)
    (h : ForeignFree (getPort s .e)) : ForeignFree ps := by
  cases hmove
  case counted => exact h
  case entered => exact settle_foreignFree _ h
  case forwarded raw _ hforeign =>
    refine settle_foreignFree _ ⟨fun x hx => ?_, h.2⟩
    rcases List.mem_append.mp hx with hx | hx
    · exact h.1 x hx
    · rw [List.mem_singleton.mp hx]
      exact hforeign hmode rfl
  case completed => exact takeNext_foreignFree _ _ h.1

end

/-! ## Entry to SERVICE (R136) -/

/-- The E-port without the setpoints that wait to be forwarded. -/
def purgedPort (ps : PortState) : PortState := { ps with forward := ps.forward.filter (fun raw => !isSetpoint raw) }

theorem purgeSetpoints_ePort (s : State) : (purgeSetpoints s).link.ePort =
    if sendingSetpoint s.link.ePort then takeNext s.link.own 0 (purgedPort s.link.ePort)
    else purgedPort s.link.ePort := by
  have hsending : sendingSetpoint (purgeQueue s).link.ePort = sendingSetpoint s.link.ePort := rfl
  unfold purgeSetpoints stopSetpoint
  rw [hsending]
  split <;> rfl

theorem purgeSetpoints_cPort (s : State) : ∃ k, (purgeSetpoints s).link.cPort = { s.link.cPort with counters := k } := by
  unfold purgeSetpoints stopSetpoint
  split <;> exact ⟨_, rfl⟩

theorem purgedPort_portOk {ps : PortState} (h : PortOk ps) : PortOk (purgedPort ps) :=
  ⟨(List.length_filter_le _ _).trans h.1, h.2⟩

theorem purgedPort_idleEmpty {ps : PortState} (h : IdleEmpty ps) : IdleEmpty (purgedPort ps) := by
  intro hidle
  obtain ⟨ho, hf⟩ := h hidle
  exact ⟨ho, by simp [purgedPort, hf]⟩

theorem purgedPort_forward (ps : PortState) : ∀ raw ∈ (purgedPort ps).forward, isSetpoint raw = false := by
  intro raw hraw
  simpa using (List.mem_filter.mp hraw).2

/-! ## Both ports -/

/-- What every move of a port keeps is kept by every act, at each port that meets it after a purge and a restart. -/
theorem Act.ports_keep {P : PortState → Prop}
    (hmove : ∀ (s : State) (p : Port) (ps : PortState), PortMove s p ps → P (getPort s p) → P ps)
    (hpurged : ∀ ps, P ps → P (purgedPort ps)) (htaken : ∀ own ps, P ps → P (takeNext own 0 ps))
    (hrestart : ∀ own kept ps, kept.length ≤ 1 → P (settle own (restartPort kept ps))) (hreset : P PortState.reset)
    (hcounted : ∀ ps k, P ps → P { ps with counters := k }) {s t : State} (hact : Act s t)
    (h : P s.link.cPort ∧ P s.link.ePort) : P t.link.cPort ∧ P t.link.ePort := by
  cases hact
  case change hc =>
    cases hc
    case port p ps hp =>
      cases p
      · exact ⟨hmove s .c ps hp h.1, h.2⟩
      · exact ⟨h.1, hmove s .e ps hp h.2⟩
    case truck tr r _ => rwa [setTruck_link]
    case entered _ =>
      obtain ⟨k, hk⟩ := purgeSetpoints_cPort (clearRing (startBlend (setMode .service s)))
      rw [hk, purgeSetpoints_ePort]
      refine ⟨hcounted _ k h.1, ?_⟩
      split
      · exact htaken _ _ (hpurged _ h.2)
      · exact hpurged _ h.2
    all_goals exact h
  case restart kept hkept _ => exact ⟨hrestart _ _ _ hkept, hrestart _ _ _ (Nat.zero_le _)⟩
  case reset => exact ⟨hreset, hreset⟩
  all_goals exact h

theorem Act.queuesOk {s t : State} (hact : Act s t) (h : QueuesOk s.link) : QueuesOk t.link := by
  refine hact.ports_keep (P := PortOk) (fun _ _ _ => PortMove.portOk) (fun _ => purgedPort_portOk)
    (fun own _ => takeNext_portOk own 0) (fun own kept ps hkept => settle_portOk own ⟨Nat.zero_le _, ?_⟩)
    ⟨Nat.zero_le _, Nat.zero_le _⟩ (fun _ _ => id) h
  exact hkept.trans (by decide)

theorem Act.idleOk {s t : State} (hact : Act s t) (h : IdleOk s.link) : IdleOk t.link :=
  hact.ports_keep (P := IdleEmpty) (fun _ _ _ => PortMove.idleEmpty) (fun _ => purgedPort_idleEmpty)
    (fun own ps _ => takeNext_idleEmpty own 0 ps) (fun own _ _ _ => settle_idleEmpty own _) (fun _ => ⟨rfl, rfl⟩)
    (fun _ _ => id) h

theorem Act.noForeignSetpoints {s t : State} (hact : Act s t) (h : NoForeignSetpoints s) : NoForeignSetpoints t := by
  cases hact
  case change hc =>
    cases hc
    case port p ps hp =>
      cases p
      · exact h
      · exact fun hmode => hp.foreignFree hmode (h hmode)
    case truck tr r _ =>
      unfold NoForeignSetpoints
      rwa [setTruck_control, setTruck_link]
    case left => exact fun hmode => absurd hmode (by simp)
    case entered _ =>
      intro _
      rw [purgeSetpoints_ePort]
      have hforward := purgedPort_forward s.link.ePort
      split
      · exact takeNext_foreignFree _ 0 hforward
      next hquiet => exact ⟨hforward, Bool.eq_false_of_not_eq_true hquiet⟩
    all_goals exact h
  case restart _ _ hmode => exact fun hs => absurd hs hmode
  case reset => exact fun hs => absurd hs (by simp [State.reset, Control.reset])
  all_goals exact h

/-! ## A millisecond -/

theorem tickTransmitter_idle {x : Transmitter} : tickTransmitter x = .idle ↔ x = .idle := by
  cases x <;> simp [tickTransmitter]

theorem tickPort_idleEmpty {ps : PortState} (h : IdleEmpty ps) : IdleEmpty (tickPort ps) :=
  fun hidle => h (tickTransmitter_idle.mp hidle)

theorem tickPort_sendingSetpoint (ps : PortState) : sendingSetpoint (tickPort ps) = sendingSetpoint ps := by
  unfold sendingSetpoint tickPort
  dsimp only
  cases ps.transmitter with
  | idle => rfl
  | sending originated bytes micros => cases originated <;> rfl

theorem tick_noForeignSetpoints (s : State) (h : NoForeignSetpoints s) : NoForeignSetpoints (tick s) := by
  intro hmode
  obtain ⟨hforward, hsending⟩ := h hmode
  exact ⟨hforward, (tickPort_sendingSetpoint _).trans hsending⟩

/-- Settles O57: each predicate is kept by every move of a port, by the purge at entry to SERVICE, and by a restart. -/
theorem stepKeepsQueues : Obligations.StepKeepsQueues := by
  unfold Obligations.StepKeepsQueues
  intro s t hstep
  refine ⟨?queues, ?idle, ?foreign⟩
  case queues =>
    exact step_keeps (P := fun s => QueuesOk s.link) (fun _ _ => Act.queuesOk) (fun _ => id) (fun _ _ _ => id) hstep
  case idle =>
    exact step_keeps (P := fun s => IdleOk s.link) (fun _ _ => Act.idleOk)
      (fun s h => ⟨tickPort_idleEmpty h.1, tickPort_idleEmpty h.2⟩) (fun _ _ _ => id) hstep
  case foreign =>
    exact step_keeps (fun _ _ => Act.noForeignSetpoints) tick_noForeignSetpoints (fun _ _ _ => id) hstep

end Sys2Proof.Machine
end

section
/-! PROOF. What every step keeps of the mode, the tables and the request buffers (O58), and of the outputs and the
records (O59). -/

namespace Sys2Proof.Machine

/-! ## SERVICE over validated tables (R178) -/

theorem purgeSetpoints_tables (s : State) : (purgeSetpoints s).tables = s.tables := by rw [purgeSetpoints_frame]

theorem purgeSetpoints_own (s : State) : (purgeSetpoints s).link.own = s.link.own := by rw [purgeSetpoints_frame]

theorem tablesOk_reset (own : Byte) : Control.reset.mode = .service → validate own Tables.reset = none :=
  fun h => absurd h (by simp [Control.reset])

theorem Act.tablesOk {s t : State} (hact : Act s t) (h : TablesOk s) : TablesOk t := by
  cases hact
  case change hc =>
    cases hc
    case port p ps _ =>
      unfold TablesOk
      rwa [setPort_own, setPort_control, setPort_tables]
    case truck tr r _ => cases tr <;> exact h
    case tables hmode _ => exact fun hs => absurd hs hmode
    case heatTable hmode => exact fun hs => absurd hs hmode
    case left => exact fun hs => absurd hs (by simp)
    case entered hvalid =>
      intro _
      rw [purgeSetpoints_own, purgeSetpoints_tables]
      exact hvalid
    all_goals exact h
  case restart _ _ hmode => exact fun hs => absurd hs hmode
  case reset => exact tablesOk_reset _
  all_goals exact h

/-! ## Excitation and the blend timer in SERVICE alone (R58, R65) -/

theorem excitation_iff (b : Brake) : excitation b = true ↔ b.state = .setup ∨ b.state = .active := by
  simp [excitation]

theorem leftBrake_excitation (b : Brake) : excitation (leftBrake b) = false := by
  unfold leftBrake
  split
  · rfl
  next h => exact Bool.eq_false_of_not_eq_true h

theorem Act.serviceOnlyOk {s t : State} (hact : Act s t) (h : ServiceOnlyOk s) : ServiceOnlyOk t := by
  obtain ⟨hexcited, htimer⟩ := h
  have hquiet : ∀ b : Brake, excitation b = false → (b.state = .setup ∨ b.state = .active) → t.control.mode = .service :=
    fun b hb he => absurd ((excitation_iff b).mpr he) (by simp [hb])
  cases hact
  case change hc =>
    cases hc
    case port p ps _ =>
      unfold ServiceOnlyOk
      rw [setPort_brake, setPort_blend, setPort_control]
      exact ⟨hexcited, htimer⟩
    case truck tr r _ => cases tr <;> exact ⟨hexcited, htimer⟩
    case brake b hb =>
      refine ⟨fun he => ?_, htimer⟩
      rcases hb.excited ((excitation_iff b).mpr he) with hbefore | hservice
      · exact hexcited ((excitation_iff s.brake).mp hbefore)
      · exact hservice
    case blend b hb => exact ⟨hexcited, fun hrun => (hb hrun).elim htimer id⟩
    case left => exact ⟨hquiet _ (leftBrake_excitation s.brake), fun hrun => absurd rfl hrun⟩
    case entered _ =>
      unfold ServiceOnlyOk
      rw [purgeSetpoints_control]
      exact ⟨fun _ => rfl, fun _ => rfl⟩
    all_goals exact ⟨hexcited, htimer⟩
  case restart => exact ⟨hquiet (restartBrake s.brake) rfl, fun hrun => absurd rfl hrun⟩
  case reset => exact ⟨hquiet Brake.reset rfl, fun hrun => absurd rfl hrun⟩
  all_goals exact ⟨hexcited, htimer⟩

theorem Timer.ne_stopped_of_tick {x : Timer} (h : x.tick ≠ .stopped) : x ≠ .stopped := by
  rintro rfl
  exact h rfl

theorem tick_buffersOk (s : State) (h : BuffersOk s) : BuffersOk (tick s) := by
  unfold BuffersOk at h ⊢
  simpa [tick] using h

/-- Settles O58: the buffers agree after every command, by R159's lemmas on serving; the other two act by act. -/
theorem stepKeepsModes : Obligations.StepKeepsModes := by
  unfold Obligations.StepKeepsModes
  intro s t hstep hbuffers
  refine ⟨?buffers, ?tables, ?service⟩
  case buffers =>
    exact step_keeps_of_sound (P := BuffersOk) (fun _ _ h => h.buffers) tick_buffersOk (fun _ _ _ => id) hstep hbuffers
  case tables =>
    exact step_keeps (P := TablesOk) (fun _ _ => Act.tablesOk) (fun _ => id) (fun _ _ _ => id) hstep
  case service =>
    refine step_keeps (P := ServiceOnlyOk) (fun _ _ => Act.serviceOnlyOk) (fun s h => ?_) (fun _ _ _ => id) hstep
    exact ⟨h.1, fun hrun => h.2 (Timer.ne_stopped_of_tick hrun)⟩

/-! ## Outputs (R151) -/

theorem outputsOk_syncOutputs (s : State) : OutputsOk (syncOutputs s) := rfl

/-- R151 speaks of the outputs, the latch, the sand request and the flags alone. -/
theorem OutputsOk.congr {s t : State} (h : OutputsOk s) (hout : t.lines.outputs = s.lines.outputs)
    (hlatch : t.authority.latch = s.authority.latch) (hsand : t.slide.sandRequest = s.slide.sandRequest)
    (hflags : t.lines.flags = s.lines.flags) : OutputsOk t := by
  unfold OutputsOk drivenOutputs at *
  rw [hout, hlatch, hsand, hflags]
  exact h

theorem heldInReset_outputsOk (hold : Hold) (s : State) : OutputsOk (heldInReset hold s) := by
  show (Outputs.mk false false false) = Outputs.mk false false _
  simp [Lines.reset, resetLines, heldInReset]

/-- Every command ends by driving the outputs, or leaves them and their conditions, or releases both. -/
theorem exec_outputsOk (c : Instr) {s t : State} (hexec : exec c s = .next t) (h : OutputsOk s) : OutputsOk t := by
  rcases exec_cases c with ⟨cause, rfl⟩ | ⟨release, rfl⟩ | ⟨n, high, rfl⟩ | ⟨f, hf, -⟩
  · change execResetAssert cause s = _ at hexec
    unfold execResetAssert at hexec
    split at hexec <;> obtain rfl := Host.Outcome.next.inj hexec
    · exact heldInReset_outputsOk _ s
    · exact h
  · change execPowerOnReset release s = _ at hexec
    unfold execPowerOnReset at hexec
    dsimp only at hexec
    split at hexec <;> obtain rfl := Host.Outcome.next.inj hexec
    · exact h.congr rfl rfl rfl rfl
    · exact outputsOk_syncOutputs _
  · change execDiscretePinChange n high s = _ at hexec
    unfold execDiscretePinChange at hexec
    split at hexec
    · obtain rfl := Host.Outcome.next.inj hexec
      exact h.congr rfl rfl rfl rfl
    next hlive =>
      rw [event_live s _ (by simpa using hlive)] at hexec
      obtain rfl := Host.Outcome.next.inj hexec
      exact outputsOk_syncOutputs _
  · rw [hf, event_next] at hexec
    obtain rfl := Host.Outcome.next.inj hexec
    split
    · exact h
    · exact outputsOk_syncOutputs _

/-! ## The standstill timer (R94) -/

theorem Timer.startIfStopped_of_runs {x : Timer} (h : x ≠ .expired) :
    x.startIfStopped.runs = true ∧ x.startIfStopped ≠ .expired := by
  cases x <;> simp_all [Timer.startIfStopped, Timer.runs]

theorem evalStandstill_ok (s : State) (h : s.air.standstill ≠ .expired) : StandstillOk (evalStandstill s) := by
  have hframe : standstill (evalStandstill s) = standstill s := rfl
  unfold StandstillOk
  rw [hframe]
  unfold evalStandstill
  dsimp only
  split
  next hs => exact ⟨(Timer.startIfStopped_of_runs h).1.trans hs.symm, (Timer.startIfStopped_of_runs h).2⟩
  next hs => exact ⟨(Bool.eq_false_of_not_eq_true hs).symm, by simp⟩

theorem standstillOk_idle {s : State} (ha : s.air.standstill = .stopped) (hv : s.slide.speedState ≠ .valid) :
    StandstillOk s := by
  simp [StandstillOk, ha, standstill, hv, Timer.runs]

theorem Act.standstillOk {s t : State} (hact : Act s t) (h : StandstillOk s) : StandstillOk t := by
  cases hact
  case change hc =>
    cases hc
    case sample rd => exact evalStandstill_ok _ (by exact h.2)
    case speedLost => exact evalStandstill_ok _ h.2
    case port p ps _ =>
      unfold StandstillOk standstill
      rw [setPort_air, setPort_slide]
      exact h
    case truck tr r _ => cases tr <;> exact h
    case entered _ => rw [purgeSetpoints_frame]; exact h
    all_goals exact h
  case restart => exact standstillOk_idle rfl (by simp [restartState, Slide.reset])
  case reset => exact standstillOk_idle rfl (by simp [State.reset, Slide.reset])
  all_goals exact h

theorem tick_standstillOk (s : State) (h : StandstillOk s) : StandstillOk (tick s) := by
  obtain ⟨hruns, hne⟩ := h
  refine ⟨(?_ : s.air.standstill.tick.runs = standstill s), (?_ : s.air.standstill.tick ≠ .expired)⟩
  · rw [← hruns]
    cases s.air.standstill <;> rfl
  · cases hx : s.air.standstill
    case expired => exact absurd hx hne
    all_goals simp [Timer.tick]

/-! ## The truck records (R89, R90) -/

/-- What both records meet. -/
def TrucksOk (s : State) : Prop := ∀ t : Truck, TruckOk (getTruck s t)

theorem truckOk_reset (t : Truck) : TruckOk (match t with | .t1 => Air.reset.truck1 | .t2 => Air.reset.truck2) := by
  cases t <;> simp [TruckOk, Air.reset, TruckRecord.reset]

theorem Act.truckOk {s t : State} (hact : Act s t) (tr : Truck) (h : TruckOk (getTruck s tr)) :
    TruckOk (getTruck t tr) := by
  cases hact
  case change hc =>
    cases hc
    case port p ps _ => cases p <;> exact h
    case truck tr' r hr =>
      cases tr <;> cases tr'
      case t1.t1 => exact hr h
      case t2.t2 => exact hr h
      all_goals exact h
    case entered _ => rw [purgeSetpoints_frame]; exact h
    all_goals exact h
  case restart => exact truckOk_reset tr
  case reset => exact truckOk_reset tr
  all_goals exact h

/-! ## The brake record and the thermal factor (R49, R61, R62) -/

theorem thermalFactor_le (ts : Tables) (h : Nat) : thermalFactor ts h ≤ 1000 := by
  unfold thermalFactor
  split
  · omega
  next hmax =>
    split
    · omega
    next hwarn => exact Nat.div_le_of_le_mul (by rw [Nat.mul_comm]; exact Nat.mul_le_mul_right _ (by omega))

theorem brakeOk_reset : BrakeOk Brake.reset := by simp [BrakeOk, Brake.reset]

theorem BrakeOk.restart {b : Brake} (h : BrakeOk b) : BrakeOk (restartBrake b) := by
  obtain ⟨-, hheat, hg, -⟩ := h
  exact ⟨rfl, hheat, hg, by simp [restartBrake, Brake.reset]⟩

theorem BrakeOk.move {mode : Mode} {a b : Brake} (hm : BrakeMove mode a b) (h : BrakeOk a) : BrakeOk b := by
  obtain ⟨hstatus, hheat, hg, hcause⟩ := h
  unfold BrakeOk
  rw [hm.status, hm.aLast, hm.heat, hm.g]
  exact ⟨hstatus, hheat, hg, hm.cause hcause⟩

theorem BrakeOk.left {b : Brake} (h : BrakeOk b) : BrakeOk (leftBrake b) := by
  obtain ⟨hstatus, hheat, hg, hcause⟩ := h
  unfold leftBrake
  split
  next he =>
    refine ⟨hstatus, hheat, hg, ?_⟩
    have hnone : b.cause = none := by
      by_contra hne
      rcases (excitation_iff b).mp he with hs | hs <;> exact absurd (hcause.mp hne) (by simp [hs])
    simp [quiesce, hnone]
  · exact ⟨hstatus, hheat, hg, hcause⟩

theorem Act.brakeOk {s t : State} (hact : Act s t) (h : BrakeOk s.brake) : BrakeOk t.brake := by
  cases hact
  case change hc =>
    cases hc
    case port p ps _ => rwa [setPort_brake]
    case truck tr r _ => cases tr <;> exact h
    case brake b hb => exact h.move hb
    case traction r hr =>
      obtain ⟨-, hheat, hg, hcause⟩ := h
      exact ⟨⟨hr, rfl⟩, hheat, hg, hcause⟩
    case heat n hn =>
      obtain ⟨hstatus, -, -, hcause⟩ := h
      exact ⟨hstatus, hn, thermalFactor_le _ _, hcause⟩
    case heatTable =>
      obtain ⟨hstatus, hheat, -, hcause⟩ := h
      exact ⟨hstatus, hheat, thermalFactor_le _ _, hcause⟩
    case left => exact h.left
    case entered _ => rw [purgeSetpoints_frame]; exact h
    all_goals exact h
  case restart => exact h.restart
  case reset => exact brakeOk_reset
  all_goals exact h

theorem thermalFactor_congr {a b : Tables} (h : a.heat = b.heat) (n : Nat) :
    thermalFactor a n = thermalFactor b n := by
  unfold thermalFactor hMax hWarn
  rw [h]

theorem leftBrake_heat (b : Brake) : (leftBrake b).heat = b.heat ∧ (leftBrake b).g = b.g := by
  unfold leftBrake
  split <;> exact ⟨rfl, rfl⟩

theorem Act.heatFactorOk {s t : State} (hact : Act s t) (h : HeatFactorOk s) : HeatFactorOk t := by
  cases hact
  case change hc =>
    cases hc
    case port p ps _ => cases p <;> exact h
    case truck tr r _ => cases tr <;> exact h
    case brake b hb =>
      unfold HeatFactorOk
      rw [hb.heat, hb.g]
      exact h
    case heat => exact fun _ => rfl
    case tables ts _ hts =>
      unfold HeatFactorOk
      rw [hts, thermalFactor_congr hts]
      exact h
    case heatTable => exact fun _ => rfl
    case left =>
      obtain ⟨hheat, hg⟩ := leftBrake_heat s.brake
      unfold HeatFactorOk
      rw [hheat, hg]
      exact h
    case entered _ => rw [purgeSetpoints_frame]; exact h
    all_goals exact h
  case reset => exact fun hloaded => absurd hloaded Bool.false_ne_true
  all_goals exact h

/-- Settles O59: the outputs by the end of every event, the records act by act. -/
theorem stepKeepsOutputsAndRecords : Obligations.StepKeepsOutputsAndRecords := by
  unfold Obligations.StepKeepsOutputsAndRecords
  intro s t hstep
  refine ⟨?outputs, ?standstill, ?truck1, ?truck2, ?brake, ?heat⟩
  case outputs =>
    exact step_keeps_of_exec (P := OutputsOk) (fun c _ _ => exec_outputsOk c) (fun _ => id) (fun _ _ _ => id) hstep
  case standstill =>
    exact step_keeps (P := StandstillOk) (fun _ _ => Act.standstillOk) tick_standstillOk (fun _ _ _ => id) hstep
  case truck1 =>
    exact step_keeps (P := fun s => TruckOk (getTruck s .t1)) (fun _ _ h => h.truckOk .t1) (fun _ => id)
      (fun _ _ _ => id) hstep
  case truck2 =>
    exact step_keeps (P := fun s => TruckOk (getTruck s .t2)) (fun _ _ h => h.truckOk .t2) (fun _ => id)
      (fun _ _ _ => id) hstep
  case brake =>
    exact step_keeps (P := fun s => BrakeOk s.brake) (fun _ _ => Act.brakeOk) (fun _ => id) (fun _ _ _ => id) hstep
  case heat =>
    exact step_keeps (P := HeatFactorOk) (fun _ _ => Act.heatFactorOk) (fun _ => id) (fun _ _ _ => id) hstep

end Sys2Proof.Machine
end

section
/-! PROOF. The part and its queue (chapter 0): the front command (O1), the holds in power-on reset (O3), time with no
command waiting (O5), and the invariants of the reset state (O60). -/

namespace Sys2Proof.Machine

/-- Settles O1. -/
theorem stepTakesFrontCommand : Obligations.StepTakesFrontCommand := fun _ _ _ => rfl

/-! ## The holds (R182) -/

theorem exec_resetAssert (cause : ResetCause) (s : State) :
    exec (.resetAssert cause) s = .next (if causesReset cause then heldInReset (holdAfter s.hold cause) s else s) := by
  show execResetAssert cause s = _
  unfold execResetAssert
  split <;> rfl

theorem exec_powerOnReset (release : ResetRelease) (s : State) :
    exec (.powerOnReset release) s = .next
      (if ({ s with hold := holdLeft s.hold release } : State).inReset then { s with hold := holdLeft s.hold release }
        else syncOutputs (powerOn (releaseStraps release) s)) := by
  show execPowerOnReset release s = _
  unfold execPowerOnReset
  dsimp only
  split <;> rfl

theorem inReset_iff (s : State) : s.inReset = true ↔ s.hold.pinLow = true ∨ s.hold.powerUp = true := by
  simp [State.inReset]

theorem exec_held {c : Instr} {s : State} (h : s.inReset = true) (hassert : ∀ cause, c ≠ .resetAssert cause)
    (hrelease : ∀ release, c ≠ .powerOnReset release) (hpin : ∀ n high, c ≠ .discretePinChange n high) :
    exec c s = .next s := by
  rcases exec_cases c with ⟨cause, hc⟩ | ⟨release, hc⟩ | ⟨n, high, hc⟩ | ⟨f, hf, -⟩
  · exact absurd hc (hassert cause)
  · exact absurd hc (hrelease release)
  · exact absurd hc (hpin n high)
  · rw [hf, event_held s f h]

/-- Settles O3: by the kinds of command. -/
theorem heldInPowerOnReset : Obligations.HeldInPowerOnReset := by
  unfold Obligations.HeldInPowerOnReset
  refine ⟨fun cause s => ?assert, fun straps s => ⟨fun h => ?rise, fun h => ?supply⟩, inReset_iff, fun c s h => ?held⟩
  case assert =>
    rw [exec_resetAssert]
    cases cause <;> rfl
  case rise => simp [exec_powerOnReset, State.inReset, holdLeft, h]
  case supply => simp [exec_powerOnReset, State.inReset, holdLeft, h]
  case held =>
    cases c
    case resetAssert cause =>
      dsimp only
      rw [exec_resetAssert]
    case powerOnReset release =>
      dsimp only
      rw [exec_powerOnReset]
    case discretePinChange n high => exact if_pos h
    all_goals exact exec_held h nofun nofun nofun

/-! ## Time (R140, R180) -/

theorem dueCommands_nil_iff (s : State) : nextDue s = none ↔ dueCommands s = [] := by
  unfold nextDue
  split <;> simp_all

theorem nextDue_mem {s : State} {c : Instr} (h : nextDue s = some c) : c ∈ dueCommands s := by
  unfold nextDue at h
  split at h
  next => exact absurd h (by simp)
  next d hd => simp_all
  next d ds _ hd =>
    obtain rfl := Option.some.inj h
    have hlt : Config.dueChoice s.choice % (ds.length + 1) < (d :: ds).length := Nat.mod_lt _ (Nat.succ_pos _)
    rw [hd, List.getD_eq_getElem _ _ hlt]
    exact List.getElem_mem hlt

theorem mem_dueIf (due : Bool) (c d : Instr) : c ∈ dueIf due d ↔ due = true ∧ c = d := by
  unfold dueIf
  split <;> simp_all

theorem mem_six (i : Fin 6) : i ∈ six := by fin_cases i <;> simp [six]

/-- The due commands, one expiry after the other. -/
theorem mem_dueCommands (s : State) (c : Instr) : c ∈ dueCommands s ↔
    (∃ p, transmitDue s p = true ∧ c = .transmitComplete p)
    ∨ (∃ i : Fin 32, livenessDue s i.val = true ∧ c = .livenessExpiry i)
    ∨ (s.authority.holdTimer.reached (holdMs s.tables) = true ∧ c = .holdTimerExpiry)
    ∨ (s.authority.resetTimer.reached (emergResetMs s.tables) = true ∧ c = .emergencyResetExpiry)
    ∨ ((s.slide.speedState = .valid ∧ s.slide.staleTimer.exceeded (speedStaleMs s.tables) = true)
      ∧ c = .staleTimerExpiry)
    ∨ (∃ i, episodeDue s i = true ∧ c = .episodeTimerExpiry i)
    ∨ (∃ i, lockedDue s i = true ∧ c = .lockedTimeout i)
    ∨ (s.slide.sandTimer.reached (sandHoldMs s.tables) = true ∧ c = .sandHoldExpiry)
    ∨ ((s.brake.state = .setup ∧ s.brake.setupTimer.reached (setupMs s.tables) = true) ∧ c = .setupTimerExpiry)
    ∨ ((s.brake.state = .active ∧ s.brake.idleTimer.reached (idleMs s.tables) = true) ∧ c = .idleTimerExpiry)
    ∨ (heatDue s = true ∧ c = .heatPeriod)
    ∨ (blendDue s = true ∧ c = .blendPeriod)
    ∨ (∃ n, debounceDue s n = true ∧ c = .debounceExpiry n)
    ∨ (validationDue s = true ∧ c = .validationComplete) := by
  have hports : (∃ p, transmitDue s p = true ∧ c = .transmitComplete p) ↔
      (transmitDue s .c = true ∧ c = .transmitComplete .c) ∨ (transmitDue s .e = true ∧ c = .transmitComplete .e) :=
    ⟨fun ⟨p, h⟩ => by cases p <;> simp [h], fun h => h.elim (fun h => ⟨_, h⟩) fun h => ⟨_, h⟩⟩
  rw [hports]
  simp [dueCommands, mem_dueIf, mem_six, or_assoc]

theorem transmitDue_iff (s : State) (p : Port) : transmitDue s p = true ↔
    ∃ o bytes m, (getPort s p).transmitter = .sending o bytes m ∧ 5 * bytes.length + 20 ≤ m := by
  unfold transmitDue
  split
  next hidle => simp [hidle]
  next o bytes m hsending =>
    rw [decide_eq_true_iff]
    exact ⟨fun h => ⟨o, bytes, m, hsending, h⟩, fun ⟨o', b', m', hs, h⟩ => by rw [hsending] at hs; cases hs; exact h⟩

theorem livenessDue_iff (s : State) (i : Nat) : livenessDue s i = true ↔ tableField s.tables.nodes i 0 = 1
    ∧ (getNode s i).liveness = .live
    ∧ ∃ e, (getNode s i).timer = .running e ∧ tableField s.tables.nodes i 4 ≤ e := by
  simp [livenessDue, nodeUsed, nodeTimeout, Timer.reached_iff, and_assoc]

theorem episodeDue_iff (s : State) (i : Fin 6) : episodeDue s i = true ↔ s.slide.speedState ≠ .lost
    ∧ ∃ e, (s.slide.axles.get i).episode = .running e ∧ tableField s.tables.slide 12 0 < e := by
  simp [episodeDue, Timer.exceeded_iff, prolongMs, param]

theorem lockedDue_iff (s : State) (i : Fin 6) : lockedDue s i = true ↔ s.slide.speedState ≠ .lost
    ∧ (s.slide.axles.get i).state = .locked
    ∧ ∃ e, (s.slide.axles.get i).stateTimer = .running e ∧ tableField s.tables.slide 17 0 ≤ e := by
  simp [lockedDue, Timer.reached_iff, lockFaultMs, param, and_assoc]

theorem heatDue_iff (s : State) : heatDue s = true ↔ 20 ≤ s.brake.heatElapsed := decide_eq_true_iff

theorem blendDue_iff (s : State) : blendDue s = true ↔
    s.control.mode = .service ∧ ∃ e, s.blend.timer = .running e ∧ 20 ≤ e := by
  simp [blendDue, Timer.reached_iff, Config.periodMs]

theorem debounceDue_iff (s : State) (n : Fin 6) : debounceDue s n = true ↔
    ∃ e, (s.lines.inputs.get n).debounce = .running e ∧ tableField s.tables.discrete n.val 1 ≤ e := by
  simp [debounceDue, Timer.reached_iff, lineDebounce]

theorem validationDue_iff (s : State) :
    validationDue s = true ↔ ∃ n, s.control.validation = some n ∧ 2 ≤ n := by
  unfold validationDue
  split
  next n hn => rw [decide_eq_true_iff, hn]; simp [Config.validationMs]
  next hn => simp [hn]

theorem step_idle {s : State} (hp : s.pending = []) (hr : s.inReset = false) :
    step s = match nextDue s with
      | none => .next (tick s)
      | some c => exec c (countChoice s) := by
  unfold step idleStep
  rw [hp]
  dsimp only
  rw [hr]
  rfl

theorem tickSlide_axles (k : Slide) : (tickSlide k).axles = k.axles.map (fun a =>
    if k.speedState = .lost then a
    else { a with stateTimer := a.stateTimer.tick, episode := a.episode.tick, lockTimer := a.lockTimer.tick }) := by
  unfold tickSlide
  dsimp only
  split <;> rfl

/-- Settles O5: the due commands one kind at a time, and the millisecond field by field. -/
theorem idleStepPassesTime : Obligations.IdleStepPassesTime := by
  unfold Obligations.IdleStepPassesTime
  refine ⟨fun s hp hr hdue => ?taken, fun c s => ?due, fun s hp hr hnone => ?tick⟩
  case taken =>
    obtain ⟨c, hc⟩ := Option.ne_none_iff_exists'.mp (mt (dueCommands_nil_iff s).mp hdue)
    exact ⟨c, nextDue_mem hc, by rw [step_idle hp hr, hc]; rfl⟩
  case due =>
    cases c
    all_goals simp only [mem_dueCommands, transmitDue_iff, livenessDue_iff, episodeDue_iff, lockedDue_iff, heatDue_iff,
      blendDue_iff, debounceDue_iff, validationDue_iff, Timer.reached_iff, Timer.exceeded_iff, reduceCtorEq, and_false,
      exists_false, or_false, false_or, and_true, Instr.transmitComplete.injEq, Instr.livenessExpiry.injEq,
      Instr.episodeTimerExpiry.injEq, Instr.lockedTimeout.injEq, Instr.debounceExpiry.injEq, exists_eq_right']
    all_goals rfl
  case tick =>
    rw [step_idle hp hr, (dueCommands_nil_iff s).mpr hnone, ← tickSlide_axles]
    rfl

theorem portOk_reset : PortOk PortState.reset := by simp [PortOk, PortState.reset]

theorem outputsOk_reset : OutputsOk State.reset := heldInReset_outputsOk Hold.reset State.reset

/-- Settles O60: by the reset lemma of each invariant. -/
theorem resetMeetsInvariants : Obligations.ResetMeetsInvariants := by
  unfold Obligations.ResetMeetsInvariants
  intro s
  refine ⟨authorityOk_reset, factorsOk_reset, speedsOk_reset, slotsOk_reset, incidentsOk_reset, numbersOk_reset,
    ⟨portOk_reset, portOk_reset⟩, ⟨fun _ => ⟨rfl, rfl⟩, fun _ => ⟨rfl, rfl⟩⟩, fun hs => absurd hs ?mode, tablesOk_reset _, ?service, heldInReset_buffers s.hold s,
    outputsOk_reset, standstillOk_idle rfl ?speed, truckOk_reset .t1, truckOk_reset .t2, brakeOk_reset,
    fun hloaded => absurd hloaded Bool.false_ne_true⟩
  case mode => exact nofun
  case speed => exact nofun
  case service => exact ⟨fun h => h.elim nofun nofun, fun h => absurd rfl h⟩

end Sys2Proof.Machine
end

section
/-! PROOF. Reading a line after a reset (R157), and the state after power-on reset (O4). -/

namespace Sys2Proof.Machine

/-! ## The six lines: three with a consumer, three without (R149) -/

theorem line_cases (n : Fin 6) : n = 0 ∨ n = 1 ∨ n = 2 ∨ 3 ≤ n := by omega

theorem deliverLine_plain {n : Fin 6} (hplain : 3 ≤ n) (active : Bool) (u : State) : deliverLine n active u = u := by
  unfold deliverLine
  split
  · exact absurd hplain (by decide)
  · exact absurd hplain (by decide)
  · exact absurd hplain (by decide)
  · rfl

/-! ## Reading one line -/

/-- A line after a reset, before it is read. -/
def unreadLine (pin : Bool) : InputRecord := ⟨pin, false, false, .stopped, false⟩

@[simp] theorem setInput_setInput (s : State) (n : Fin 6) (a b : InputRecord) :
    setInput (setInput s n a) n b = setInput s n b := by
  fin_cases n <;> rfl

theorem compareLine_equal {s : State} {n : Fin 6} (h : (s.lines.inputs.get n).present = (s.lines.inputs.get n).accepted) :
    compareLine n s = setInput s n { s.lines.inputs.get n with debounce := .stopped } := if_pos h

theorem compareLine_debounced {s : State} {n : Fin 6}
    (h : (s.lines.inputs.get n).present ≠ (s.lines.inputs.get n).accepted) (hd : lineDebounce s.tables n ≠ 0) :
    compareLine n s = setInput s n { s.lines.inputs.get n with debounce := .running 0 } := by
  unfold compareLine
  dsimp only
  rw [if_neg h, if_neg hd]

theorem compareLine_accepted {s : State} {n : Fin 6}
    (h : (s.lines.inputs.get n).present ≠ (s.lines.inputs.get n).accepted) (hd : lineDebounce s.tables n = 0) :
    compareLine n s = acceptLine n s := by
  unfold compareLine
  dsimp only
  rw [if_neg h, if_pos hd]

theorem readLine_inactive {s : State} {n : Fin 6} {pin : Bool} (h : s.lines.inputs.get n = unreadLine pin)
    (ha : presentLevel s n pin = false) : readLine s n = setInput s n (unreadLine pin) := by
  unfold readLine
  simp only [h, unreadLine, ha]
  rw [compareLine_equal (by simp)]
  simp

theorem readLine_debounced {s : State} {n : Fin 6} {pin : Bool} (h : s.lines.inputs.get n = unreadLine pin)
    (ha : presentLevel s n pin = true) (hd : lineDebounce s.tables n ≠ 0) :
    readLine s n = setInput s n ⟨pin, true, false, .running 0, false⟩ := by
  unfold readLine
  simp only [h, unreadLine, ha]
  rw [compareLine_debounced (by simp) (by exact hd)]
  simp

/-- A line that reads ACTIVE with debounce 0 is accepted in the same event (R147, R148). -/
theorem readLine_accepted {s : State} {n : Fin 6} {pin : Bool} (h : s.lines.inputs.get n = unreadLine pin)
    (ha : presentLevel s n pin = true) (hd : lineDebounce s.tables n = 0) :
    readLine s n = deliverLine n true
      (if edgeMatches s.tables n true then edgeResults n (setInput s n ⟨pin, true, true, .stopped, false⟩)
        else setInput s n ⟨pin, true, true, .stopped, false⟩) := by
  unfold readLine
  simp only [h, unreadLine, ha]
  rw [compareLine_accepted (by simp) (by exact hd)]
  simp [acceptLine]

/-! ## The defaults of power-on reset (R147, R170) -/

theorem tableField_zero (n k entry fld : Nat) : tableField (Table.zero n k) entry fld = 0 := by
  have hentry : ∀ m : Nat, (List.replicate m (0 : Nat)).getD fld 0 = 0 := fun m => by
    rw [List.getD_eq_getElem?_getD, List.getElem?_replicate]
    split <;> rfl
  have hentries : (List.replicate n (List.replicate k (0 : Nat))).getD entry [] = List.replicate k 0
      ∨ (List.replicate n (List.replicate k (0 : Nat))).getD entry [] = [] := by
    rw [List.getD_eq_getElem?_getD, List.getElem?_replicate]
    split
    · exact .inl rfl
    · exact .inr rfl
  unfold tableField Table.zero
  rcases hentries with h | h <;> rw [h]
  · exact hentry k
  · exact hentry 0

/-- A flag that is not in NOTICE_ENABLE rises alone (R152, R154). -/
theorem raise_unnoticed {s : State} {f : Flag} (h : noticeEnabled s.tables f = false) :
    raise f s = { s with lines := { s.lines with flags := s.lines.flags ||| flagMask f } } := by
  by_cases hset : flagSet s f = true
  · rw [← raise_flags, raise_of_set hset]
  · unfold raise
    rw [if_neg hset]
    dsimp only
    rw [if_neg (by simp [h])]

/-! ## The latch (R19, R20) -/

theorem emergencyCondition_of_active {s : State} (h : emergActive s = true) : emergencyCondition s = true := by
  simp [emergencyCondition, h]

/-- While a condition is present, or the latch is clear, the reset timer stands still (R20). -/
theorem evalEmergency_stopped {s : State} (h : s.authority.latch = false ∨ emergencyCondition s = true) :
    evalEmergency s = { s with authority := { s.authority with resetTimer := .stopped } } := by
  unfold evalEmergency
  refine if_pos ?_
  rcases h with h | h <;> simp [h]

/-- The latch set, its reset timer stopped. -/
def latched (s : State) : State :=
  { s with authority := { s.authority with latch := true, resetTimer := .stopped } }

theorem setLatch_of_set {s : State} (h : s.authority.latch = true) : setLatch s = s := if_pos h

theorem setLatch_of_clear {s : State} (h : s.authority.latch = false) :
    setLatch s = trigger .emergency (raise .emergency (latched s)) :=
  if_neg (by simp [h])

/-- A part that reads its lines at power-on: the tables hold their zeros and the mode is INIT. -/
structure PoweringOn (s : State) : Prop where
  tables : s.tables = Tables.reset
  mode : s.control.mode = .init

section
variable {s : State} (h : PoweringOn s) {pin : Bool}
include h

theorem PoweringOn.setInput (n : Fin 6) (r : InputRecord) : PoweringOn (setInput s n r) := ⟨h.tables, h.mode⟩

theorem PoweringOn.level (n : Fin 6) : presentLevel s n pin = pin := by
  unfold presentLevel lineActiveLow
  rw [h.tables]
  simp [Tables.reset, tableField_zero]

theorem PoweringOn.debounce (n : Fin 6) : lineDebounce s.tables n = 0 := by
  rw [h.tables]
  exact tableField_zero 6 3 _ _

theorem PoweringOn.noEdge (n : Fin 6) : edgeMatches s.tables n true = false := by
  unfold edgeMatches lineEdgeMode
  rw [h.tables]
  simp [Tables.reset, tableField_zero]

theorem PoweringOn.raise (f : Flag) :
    raise f s = { s with lines := { s.lines with flags := s.lines.flags ||| flagMask f } } := by
  refine raise_unnoticed ?_
  unfold noticeEnabled param
  rw [h.tables]
  simp [Tables.reset, tableField_zero]

/-- At power-on a high pin is accepted ACTIVE at once (R157). -/
theorem PoweringOn.readLine (n : Fin 6) (hn : s.lines.inputs.get n = unreadLine pin) :
    readLine s n = if pin then deliverLine n true (Machine.setInput s n ⟨pin, pin, pin, .stopped, false⟩)
      else Machine.setInput s n ⟨pin, pin, pin, .stopped, false⟩ := by
  cases pin
  · exact readLine_inactive hn (h.level n)
  · rw [readLine_accepted hn (h.level n) (h.debounce n), h.noEdge n]
    rfl

/-- EMERG accepted ACTIVE sets the latch with its flag; no Recorder takes the trigger in INIT. -/
theorem PoweringOn.deliverEmerg (ha : s.authority = Authority.reset) (he : emergActive s = true) :
    deliverLine 0 true s = { latched s with lines := { s.lines with flags := s.lines.flags ||| 1 } } := by
  have hset : setLatch s = { latched s with lines := { s.lines with flags := s.lines.flags ||| 1 } } := by
    have hl : PoweringOn (latched s) := ⟨h.tables, h.mode⟩
    rw [setLatch_of_clear (by rw [ha]; rfl), hl.raise, trigger_ignored _ _ (by simp [latched, h.mode])]
    rfl
  show evalEmergency (setLatch s) = _
  rw [hset, evalEmergency_stopped (.inr (emergencyCondition_of_active (by exact he)))]
  rfl

theorem PoweringOn.readEmerg (hn : s.lines.inputs.get 0 = unreadLine pin) (ha : s.authority = Authority.reset) :
    Machine.readLine s 0 = { s with
      authority := { Authority.reset with latch := pin }
      lines := { s.lines with
        inputs := s.lines.inputs.set 0 ⟨pin, pin, pin, .stopped, false⟩
        flags := s.lines.flags ||| if pin then 1 else 0 } } := by
  rw [h.readLine 0 hn]
  cases pin
  · simp [Machine.setInput, ha, Authority.reset]
  · rw [if_pos rfl, (h.setInput _ _).deliverEmerg ha (by simp [emergActive])]
    simp [latched, Machine.setInput, ha, Authority.reset]

theorem PoweringOn.readPenalty (hn : s.lines.inputs.get 1 = unreadLine pin) :
    Machine.readLine s 1 = { s with
      lines := { s.lines with
        inputs := s.lines.inputs.set 1 ⟨pin, pin, pin, .stopped, false⟩
        flags := s.lines.flags ||| if pin then 2 else 0 } } := by
  rw [h.readLine 1 hn]
  cases pin
  · simp [Machine.setInput]
  · show Machine.raise .penalty _ = _
    rw [(h.setInput _ _).raise]
    rfl

theorem PoweringOn.readCutout (hn : s.lines.inputs.get 2 = unreadLine pin) (hb : s.brake = Brake.reset) :
    Machine.readLine s 2 = { s with
      brake := { Brake.reset with state := if pin then .cutout else .off }
      lines := { s.lines with inputs := s.lines.inputs.set 2 ⟨pin, pin, pin, .stopped, false⟩ } } := by
  rw [h.readLine 2 hn]
  cases pin
  · simp [Machine.setInput, hb, Brake.reset]
  · show enterCutout _ = _
    unfold enterCutout
    rw [setInput_brake, hb]
    rfl

theorem PoweringOn.readPlain (n : Fin 6) (hplain : 3 ≤ n) (hn : s.lines.inputs.get n = unreadLine pin) :
    Machine.readLine s n = Machine.setInput s n ⟨pin, pin, pin, .stopped, false⟩ := by
  rw [h.readLine n hn]
  rw [deliverLine_plain hplain]
  exact ite_self _

end

theorem heldAfterRelease (release : ResetRelease) (s : State) :
    (State.inReset { s with hold := holdLeft s.hold release }) = match release with
      | .risingEdge _ => s.hold.powerUp
      | .supplyInRange _ => s.hold.pinLow := by
  cases release <;> simp [State.inReset, holdLeft]

/-- Settles O4: the six lines one after the other. -/
theorem powerOnResetState : Obligations.PowerOnResetState := by
  unfold Obligations.PowerOnResetState
  intro release s hfree straps pin
  rw [exec_powerOnReset, if_neg (by rw [heldAfterRelease]; exact Bool.not_eq_true _ ▸ hfree)]
  have hstraps : releaseStraps release = straps := by cases release <;> rfl
  rw [hstraps]
  unfold powerOn readLines
  simp only [six, List.foldl]
  rw [PoweringOn.readEmerg (pin := pin 0) ⟨rfl, rfl⟩ rfl rfl, PoweringOn.readPenalty (pin := pin 1) ⟨rfl, rfl⟩ rfl,
    PoweringOn.readCutout (pin := pin 2) ⟨rfl, rfl⟩ rfl rfl, PoweringOn.readPlain (pin := pin 3) ⟨rfl, rfl⟩ 3 (by decide) rfl,
    PoweringOn.readPlain (pin := pin 4) ⟨rfl, rfl⟩ 4 (by decide) rfl, PoweringOn.readPlain (pin := pin 5) ⟨rfl, rfl⟩ 5 (by decide) rfl]
  have hflags : ∀ a b : Bool, Lines.reset.flags ||| (if a then 1 else 0) ||| (if b then 2 else 0)
      = (if a then 1 else 0) ||| (if b then 2 else 0) := by decide
  have hfault : ∀ a b : Bool,
      decide (((if a then (1 : BitVec 19) else 0) ||| (if b then 2 else 0)) &&& faultFlags ≠ 0) = false := by decide
  simp only [syncOutputs, drivenOutputs, setInput, resetLines, hflags, hfault]
  rfl

end Sys2Proof.Machine
end

section
/-! PROOF. What a stretch of an event does that only raises flags (`Rises`) or also delivers triggers (`Moves`), before
the outputs are driven: the composable forms of `RaisedFrom` and `TriggeredFrom`. -/

namespace Sys2Proof.Machine

/-! ## Notices toward an IDLE C-port -/

/-- An IDLE transmitter with empty queues. -/
def EmptyPort (a : PortState) : Prop := a.transmitter = .idle ∧ a.originated = [] ∧ a.forward = []

/-- A transmitter that has just taken a NOTICE, with no forwarded frame behind it. -/
def Noticing (a : PortState) : Prop :=
  a.forward = [] ∧ ∃ notice, a.transmitter = .sending true notice 0 ∧ notice.getD 2 0 = 0x44

/-- What the notices of an event do to the C-port: nothing without a NOTICE_NODE, and an IDLE transmitter with empty
queues takes the first of them (R140, R154). -/
def NoticesSent (ts : Tables) (a b : PortState) : Prop :=
  (noticeNode ts = 0 → b = a) ∧ (EmptyPort a ∨ Noticing a → EmptyPort b ∨ Noticing b)

theorem NoticesSent.refl (ts : Tables) (a : PortState) : NoticesSent ts a a := ⟨fun _ => rfl, id⟩

theorem NoticesSent.trans {ts : Tables} {a b c : PortState} (h : NoticesSent ts a b) (k : NoticesSent ts b c) :
    NoticesSent ts a c :=
  ⟨fun hn => (k.1 hn).trans (h.1 hn), fun ha => k.2 (h.2 ha)⟩

theorem handNotice_sent (s : State) (f : OriginatedFrame) (hcls : f.cls = Config.clsNotice)
    (ha : EmptyPort s.link.cPort ∨ Noticing s.link.cPort) : Noticing (handNotice s f).link.cPort
      ∨ EmptyPort (handNotice s f).link.cPort := by
  unfold handNotice
  rcases enterOriginated_cases s .c f with ⟨q, hq, h⟩ | ⟨_, h⟩ <;> rw [h]
  · simp only [opportunityIfIdle_eq, getPort_setPort_same, setPort_setPort, setPort_own]
    left
    rcases ha with ⟨hidle, hempty, hforward⟩ | ⟨hforward, notice, hsending, hbyte⟩
    · have hone : q = [f] := by
        have hq' : queueOriginated .c [] f = some q := by
          rw [← hempty]
          exact hq
        rcases queueOriginated_cases .c [] f with ⟨_, hany, _⟩ | ⟨_, heq⟩ | ⟨hfull, _⟩
        · exact absurd hany (by simp)
        · exact Option.some.inj (hq'.symm.trans heq)
        · exact absurd hfull (by simp [Config.originatedCapacity])
      have hstate : (getPort s .c).transmitter = .idle := hidle
      rw [hstate, hone]
      exact ⟨hforward, sentBytes s.link.own s.link.cPort.sequence f, rfl, hcls⟩
    · have hstate : (getPort s .c).transmitter = .sending true notice 0 := hsending
      rw [hstate]
      exact ⟨hforward, notice, rfl, hbyte⟩
  · rcases ha with ha | ha
    · exact .inr ha
    · exact .inl ha

theorem notify_sent (s : State) : NoticesSent s.tables s.link.cPort (notify s).link.cPort := by
  unfold notify
  split
  · exact .refl _ _
  next hnode =>
    split
    · exact ⟨fun hn => absurd hn hnode, fun ha => (handNotice_sent s _ rfl ha).symm⟩
    · exact .refl _ _

theorem raise_sent (f : Flag) (s : State) : NoticesSent s.tables s.link.cPort (raise f s).link.cPort := by
  unfold raise
  split
  · exact .refl _ _
  · dsimp only
    split
    · exact notify_sent { s with lines := { s.lines with
        flags := s.lines.flags ||| flagMask f, noticePending := true } }
    · exact .refl _ _

/-! ## Rises -/

/-- State `t` is `s` after nothing but the rise of flags and the notices this causes. -/
structure Rises (must may : List Flag) (s t : State) : Prop where
  frame : t = withNotices s t
  flags : FlagsRaised must may s t
  notices : NoticesOnly s.link.cPort t.link.cPort
  sent : NoticesSent s.tables s.link.cPort t.link.cPort
  deferred : s.deferred = none → t.deferred = none

theorem Rises.refl (s : State) : Rises [] [] s s := ⟨rfl, FlagsRaised.refl s, NoticesOnly.refl _, .refl _ _, id⟩

theorem Rises.tables {must may : List Flag} {s t : State} (h : Rises must may s t) : t.tables = s.tables := by
  rw [h.frame]; rfl

theorem Rises.trans {m1 y1 m2 y2 : List Flag} {a b c : State} (h : Rises m1 y1 a b) (k : Rises m2 y2 b c) :
    Rises (m1 ++ m2) (y1 ++ y2) a c :=
  ⟨withNotices_trans h.frame k.frame, h.flags.trans k.flags, h.notices.trans k.notices,
    h.sent.trans (h.tables ▸ k.sent), fun hd => k.deferred (h.deferred hd)⟩

theorem raise_rises (f : Flag) (s : State) : Rises [f] [] s (raise f s) :=
  ⟨raise_frame s f, raise_flagsRaised s f, raise_noticesOnly s f, raise_sent f s, raise_deferred s f⟩

theorem Rises.raisedFrom {must may : List Flag} {s t : State} (h : Rises must may s t) :
    RaisedFrom must may s (syncOutputs t) :=
  ⟨syncOutputs_withNotices h.frame, h.flags, h.notices, rfl, h.deferred⟩

/-! ## Moves -/

/-- State `t` is `s` after nothing but triggers, the rise of flags and the notices this causes. -/
structure Moves (must may : List Flag) (s t : State) : Prop where
  frame : t = withTriggers s t
  flags : FlagsRaised must may s t
  notices : NoticesOnly s.link.cPort t.link.cPort
  sent : NoticesSent s.tables s.link.cPort t.link.cPort
  deferred : s.deferred = none → t.deferred = none
  recorder : s.control.mode ≠ .service → t.recorder = s.recorder

theorem Moves.mode {must may : List Flag} {s t : State} (h : Moves must may s t) : t.control = s.control := by
  rw [h.frame]; rfl

theorem Moves.refl (s : State) : Moves [] [] s s :=
  ⟨rfl, FlagsRaised.refl s, NoticesOnly.refl _, .refl _ _, id, fun _ => rfl⟩

theorem Moves.tables {must may : List Flag} {s t : State} (h : Moves must may s t) : t.tables = s.tables := by
  rw [h.frame]; rfl

theorem Moves.trans {m1 y1 m2 y2 : List Flag} {a b c : State} (h : Moves m1 y1 a b) (k : Moves m2 y2 b c) :
    Moves (m1 ++ m2) (y1 ++ y2) a c :=
  ⟨withTriggers_trans h.frame k.frame, h.flags.trans k.flags, h.notices.trans k.notices,
    h.sent.trans (h.tables ▸ k.sent), fun hd => k.deferred (h.deferred hd),
    fun hm => (k.recorder (by rw [h.mode]; exact hm)).trans (h.recorder hm)⟩

theorem Moves.weaken {must may may' : List Flag} {s t : State} (h : Moves must may s t)
    (hmay : ∀ f ∈ may, f ∈ may') : Moves must may' s t :=
  { h with flags := h.flags.weaken hmay }

theorem Rises.moves {must may : List Flag} {s t : State} (h : Rises must may s t) : Moves must may s t :=
  ⟨withTriggers_of_notices h.frame, h.flags, h.notices, h.sent, h.deferred, fun _ => by rw [h.frame]; rfl⟩

theorem raise_moves (f : Flag) (s : State) : Moves [f] [] s (raise f s) := (raise_rises f s).moves

theorem Moves.triggeredFrom {must may : List Flag} {s t : State} (h : Moves must may s t) :
    TriggeredFrom must may s (syncOutputs t) :=
  ⟨syncOutputs_withTriggers h.frame, h.flags, h.notices, rfl, h.deferred, h.recorder⟩

/-- A flag that may have risen beside those that must. -/
theorem FlagsRaised.maybe {must may : List Flag} {s t : State} (h : FlagsRaised must may s t) :
    FlagsRaised [] (must ++ may) s t := by
  intro f
  have hf := h f
  simp only [List.mem_append]
  tauto

/-- In SERVICE the Recorder may move, and INCIDENT_LOST may rise. -/
theorem recorder_moves {s : State} (hmode : s.control.mode = .service) (r : Recorder) :
    Moves [] [.incidentLost] s { s with recorder := r } :=
  ⟨rfl, (FlagsRaised.refl s).weaken (by simp), NoticesOnly.refl _, .refl _ _, id,
    fun hm => absurd hmode hm⟩

theorem recorder_raise_moves {s : State} (hmode : s.control.mode = .service) (r : Recorder) :
    Moves [] [.incidentLost] s (raise .incidentLost { s with recorder := r }) := by
  have h := (recorder_moves hmode r).trans (raise_moves .incidentLost _)
  exact { h with flags := h.flags.maybe.weaken (by simp) }

theorem openIncident_moves {s : State} (hmode : s.control.mode = .service) (kind : TriggerKind) (frame : Option Capture)
    (have_ : Option Nat) : Moves [] [.incidentLost] s (openIncident s kind frame have_).1 := by
  unfold openIncident
  dsimp only
  split
  · exact recorder_raise_moves hmode _
  · split
    · exact recorder_moves hmode _
    · split
      · refine ((recorder_raise_moves hmode _).trans (recorder_moves ?_ _)).weaken (by simp)
        simpa using hmode
      · exact recorder_raise_moves hmode _

theorem deliverTrigger_moves (s : State) (kind : TriggerKind) (frame : Option Capture) (have_ : Option Nat) :
    Moves [] [.incidentLost] s (deliverTrigger s kind frame have_).1 := by
  rcases deliverTrigger_cases s kind frame have_ with ⟨_, h⟩ | ⟨hmode, _, ⟨_, h⟩ | ⟨i, _, h⟩⟩ <;> rw [h]
  · exact (Moves.refl s).weaken (by simp)
  · exact openIncident_moves hmode kind frame have_
  · exact recorder_moves hmode _

theorem trigger_moves (kind : TriggerKind) (s : State) : Moves [] [.incidentLost] s (trigger kind s) :=
  deliverTrigger_moves s kind none none

theorem raise_trigger_moves (f : Flag) (kind : TriggerKind) (s : State) :
    Moves [f] [.incidentLost] s (trigger kind (raise f s)) := (raise_moves f s).trans (trigger_moves kind _)

theorem foldl_offer_moves (port : Port) (f : Frame) (ps : List (Fin 8)) (acc : State × Option Nat) :
    Moves [] [.incidentLost] acc.1 (ps.foldl (offerToPattern port f) acc).1 := by
  induction ps generalizing acc with
  | nil => exact (Moves.refl _).weaken (by simp)
  | cons p ps ih =>
    have hp : Moves [] [.incidentLost] acc.1 (offerToPattern port f acc p).1 := by
      unfold offerToPattern
      dsimp only
      split
      · exact deliverTrigger_moves _ _ _ _
      · exact (Moves.refl _).weaken (by simp)
    exact (hp.trans (ih _)).weaken (by simp)

theorem offerFrame_moves (port : Port) (f : Frame) (s : State) : Moves [] [.incidentLost] s (offerFrame port f s) := by
  unfold offerFrame
  split
  · exact foldl_offer_moves port f _ (s, none)
  · exact (Moves.refl s).weaken (by simp)

end Sys2Proof.Machine
end

section
/-! PROOF. Arriving frames (chapter 7): the receive status and what is dropped (O6), whole frames (O7), frames to the own
address (O9), and the liveness of nodes (O13, O14). -/

namespace Sys2Proof.Machine

theorem exec_frameArrival (p : Port) (bytes : List Byte) {s : State} (h : s.inReset = false) :
    exec (.frameArrival p bytes) s = .next (syncOutputs (handleArrival p bytes s)) := event_live s _ h

theorem handleArrival_damaged {p : Port} {bytes : List Byte} (s : State) (h : receiveStatus bytes ≠ .good) :
    handleArrival p bytes s = dropDamaged p (receiveStatus bytes) bytes s := by
  unfold handleArrival
  split
  next hgood => exact absurd hgood h
  next => rfl

theorem handleArrival_good {p : Port} {bytes : List Byte} (s : State) (h : receiveStatus bytes = .good) :
    handleArrival p bytes s = handleGood p bytes (countAt s p (countStatus .good)) := by
  unfold handleArrival
  rw [h]

theorem fieldAt_two (bytes : List Byte) (k : Nat) (h : k + 1 < bytes.length) :
    fieldAt bytes k 2 = 256 * (bytes.getD k 0).toNat + (bytes.getD (k + 1) 0).toNat := by
  have hdrop : (bytes.drop k).take 2 = [bytes[k], bytes[k + 1]] := by
    rw [List.drop_eq_getElem_cons (by omega), List.drop_eq_getElem_cons h]
    rfl
  rw [fieldAt, hdrop, List.getD_eq_getElem _ _ (by omega), List.getD_eq_getElem _ _ h]
  simp [beValue]
  omega

theorem receiveStatus_tests (bytes : List Byte) : receiveStatus bytes =
    if bytes.length < 7 then .runt
    else if 247 < bytes.length then .long
    else if bytes.length ≠ 7 + (bytes.getD 4 0).toNat then .lengthMismatch
    else if (crc16 (bytes.take (bytes.length - 2))).toNat
        ≠ 256 * (bytes.getD (bytes.length - 2) 0).toNat + (bytes.getD (bytes.length - 1) 0).toNat then .checkError
    else .good := by
  by_cases hrunt : bytes.length < 7
  · simp [receiveStatus, hrunt, Config.frameOverhead]
  · have hlast : bytes.length - 2 + 1 = bytes.length - 1 := by omega
    rw [← hlast, ← fieldAt_two bytes _ (by omega)]
    rfl

theorem blamedNode_eq (ts : Tables) (p : Port) (bytes : List Byte) :
    blamedNode ts p bytes = bytes[1]?.bind (lookupNode ts p) := by
  match bytes with
  | [] => rfl
  | [_] => rfl
  | _ :: _ :: _ => rfl

/-- What the sequence check accepts, and the gap it finds (R131). -/
theorem sequenceCheck_accepted {last : Option Byte} {seq : Byte} (h : last ≠ some seq) :
    sequenceCheck last seq = .accepted (decide (∃ x, last = some x ∧ seq ≠ x + 1)) := by
  unfold sequenceCheck
  split
  next => simp
  next x =>
    rw [if_neg (fun heq => h (by rw [heq]))]
    simp

theorem sequenceCheck_duplicate (seq : Byte) : sequenceCheck (some seq) seq = .duplicate := if_pos rfl

/-- Settles O6. -/
theorem framesDroppedOnArrival : Obligations.FramesDroppedOnArrival := by
  unfold Obligations.FramesDroppedOnArrival
  refine ⟨receiveStatus_tests, fun p bytes s hr hbad => ?damaged, fun bytes s hr hgood hnode => ?unknown,
    fun p bytes i s hr hgood hnode hseq => ?duplicate⟩
  case damaged =>
    refine ⟨_, exec_frameArrival p bytes hr, ?_⟩
    rw [handleArrival_damaged s hbad]
    have hcounted : countNodeError p bytes (countAt s p (countStatus (receiveStatus bytes))) =
        (let u := countAt s p (countStatus (receiveStatus bytes))
        match bytes[1]?.bind (lookupNode s.tables p) with
        | some i => setNode u i { getNode s i with error := bump (getNode s i).error }
        | none => u) := by
      unfold countNodeError
      rw [countAt_tables, blamedNode_eq]
      cases bytes[1]?.bind (lookupNode s.tables p) with
      | none => rfl
      | some i => simp [getNode]
    have hport : countAt s p (countStatus (receiveStatus bytes)) = setPort s p { getPort s p with
        counters := match receiveStatus bytes with
          | .runt => { (getPort s p).counters with runt := bump (getPort s p).counters.runt }
          | .long => { (getPort s p).counters with long := bump (getPort s p).counters.long }
          | .lengthMismatch =>
            { (getPort s p).counters with lengthMismatch := bump (getPort s p).counters.lengthMismatch }
          | .checkError => { (getPort s p).counters with checkError := bump (getPort s p).counters.checkError }
          | .good => (getPort s p).counters } := by
      unfold countAt
      cases hst : receiveStatus bytes
      case good => exact absurd hst hbad
      all_goals rfl
    unfold dropDamaged
    rw [hcounted, hport]
    exact raisedFrom_raise _ .frameError
  case unknown =>
    rw [exec_frameArrival .e bytes hr, handleArrival_good s hgood]
    unfold handleGood
    dsimp only
    rw [countAt_tables, hnode]
    rfl
  case duplicate =>
    rw [exec_frameArrival p bytes hr, handleArrival_good s hgood]
    unfold handleGood
    dsimp only
    rw [countAt_tables, hnode]
    unfold handleKnown
    have hsame : getNode (countAt s p (countStatus .good)) i = getNode s i := by simp [getNode]
    dsimp only
    rw [hsame, hseq, sequenceCheck_duplicate]
    rfl

/-! ## Whole frames (chapter 11) -/

theorem be_two (v : Nat) : be 2 v = [BitVec.ofNat 8 (v / 256), BitVec.ofNat 8 v] := rfl

theorem beValue_be_two {v : Nat} (h : v < 65536) : beValue (be 2 v) = v := by
  rw [be_two]
  simp [beValue]
  omega

theorem frameBytes_length (f : Frame) : (frameBytes f).length = 5 + f.payload.length := by
  simp [frameBytes]
  omega

theorem wholeFrame_length (f : Frame) : (wholeFrame f).length = 7 + f.payload.length := by
  simp [wholeFrame, frameBytes_length, be_two]
  omega

/-- Settles O7. -/
theorem wholeFramesReceivedAsSent : Obligations.WholeFramesReceivedAsSent := by
  unfold Obligations.WholeFramesReceivedAsSent
  intro f hlen
  have hcount : (BitVec.ofNat 8 f.payload.length).toNat = f.payload.length := by
    rw [BitVec.toNat_ofNat]
    omega
  have hlength : (byteAt (wholeFrame f) 4).toNat = f.payload.length := hcount
  have hbody : (wholeFrame f).take ((wholeFrame f).length - 2) = frameBytes f := by
    rw [wholeFrame_length, show 7 + f.payload.length - 2 = (frameBytes f).length by rw [frameBytes_length]; omega]
    exact List.take_left
  have hcheck : fieldAt (wholeFrame f) ((wholeFrame f).length - 2) 2 = (crc16 (frameBytes f)).toNat := by
    rw [wholeFrame_length, show 7 + f.payload.length - 2 = (frameBytes f).length by rw [frameBytes_length]; omega]
    unfold fieldAt wholeFrame
    dsimp only
    rw [List.drop_left]
    exact beValue_be_two (crc16 (frameBytes f)).isLt
  constructor
  · unfold receiveStatus
    rw [hbody, hcheck, hlength, wholeFrame_length]
    rw [if_neg (by simp [Config.frameOverhead]), if_neg (by simp [Config.maxFrame]; omega), if_neg (by simp [Config.frameOverhead]),
      if_neg (by simp)]
  · have hpayload : ((wholeFrame f).drop 5).take (byteAt (wholeFrame f) 4).toNat = f.payload := by
      rw [hlength]
      exact List.take_left
    unfold parseFrame
    rw [hpayload]
    rfl

end Sys2Proof.Machine
end

section
/-! PROOF. Frames to the own address that are dropped (O9), and the liveness of nodes (O13, O14). -/

namespace Sys2Proof.Machine

/-! ## A port counter beside the moves of an event -/

/-- A count that does not speak of ORIGINATED_DROP. -/
def Plain (f : PortCounters → PortCounters) : Prop :=
  ∀ k d, f { k with originatedDrop := d } = { f k with originatedDrop := d }

theorem NoticesOnly.counted {a b : PortState} {f : PortCounters → PortCounters} (h : NoticesOnly a b) (hf : Plain f) :
    NoticesOnly { a with counters := f a.counters } { b with counters := f b.counters } := by
  obtain ⟨horiginated, hforward, hcounters, hbusy⟩ := h
  refine ⟨horiginated, hforward, ?_, hbusy⟩
  dsimp only
  rw [hcounters, hf]

theorem Moves.countAt {must may : List Flag} {s t : State} {f : PortCounters → PortCounters} (h : Moves must may s t)
    (hf : Plain f) (p : Port) : Moves must may (countAt s p f) (countAt t p f) := by
  obtain ⟨hframe, hflags, hnotices, hsent, hdeferred, hrecorder⟩ := h
  refine ⟨?_, ?_, ?_, ?_, ?_, ?_⟩
  · rw [hframe]
    cases p <;> rfl
  · intro x
    have := hflags x
    simpa [flagSet] using this
  · cases p
    · exact hnotices.counted hf
    · exact hnotices
  · rw [countAt_tables]
    cases p
    · exact ⟨fun hn => congrArg (fun a : PortState => { a with counters := f a.counters }) (hsent.1 hn), hsent.2⟩
    · exact hsent
  · simpa using hdeferred
  · simpa using hrecorder

/-! ## The own address (R132) -/

/-- What the acceptance of a frame of node `i` makes of its entry (R131, R142). -/
theorem acceptNode_eq (timeout : Nat) (seq : Byte) (gap : Bool) (r : NodeRuntime) : acceptNode timeout seq gap r =
    { r with
      lastSeq := some seq
      good := bump r.good
      gap := if gap then bump r.gap else r.gap
      liveness := .live
      timer := if timeout = 0 then .stopped else .running 0 } := rfl

/-- The state that stage 2 hands on: the frame counted, its node accepted if it has one (R130, R131). -/
def acceptedState (p : Port) (bytes : List Byte) (s : State) : State :=
  let u := countAt s p (countStatus .good)
  match lookupNode s.tables p (parseFrame bytes).src with
  | some i => setNode u i (acceptNode (nodeTimeout s.tables i) (parseFrame bytes).seq
      (decide (∃ x, (getNode s i).lastSeq = some x ∧ (parseFrame bytes).seq ≠ x + 1)) (getNode s i))
  | none => u

@[simp] theorem acceptedState_tables (p : Port) (bytes : List Byte) (s : State) :
    (acceptedState p bytes s).tables = s.tables := by
  unfold acceptedState
  dsimp only
  split <;> simp

@[simp] theorem acceptedState_control (p : Port) (bytes : List Byte) (s : State) :
    (acceptedState p bytes s).control = s.control := by
  unfold acceptedState
  dsimp only
  split <;> simp

@[simp] theorem acceptedState_own (p : Port) (bytes : List Byte) (s : State) :
    (acceptedState p bytes s).link.own = s.link.own := by
  unfold acceptedState
  dsimp only
  split <;> simp

/-- A GOOD frame of a known node that is no duplicate, or of no node on the C-port, reaches stage 3. -/
theorem handleArrival_accepted {p : Port} {bytes : List Byte} {s : State} (hgood : receiveStatus bytes = .good)
    (hseq : ∀ i, lookupNode s.tables p (parseFrame bytes).src = some i →
      (getNode s i).lastSeq ≠ some (parseFrame bytes).seq)
    (hport : lookupNode s.tables p (parseFrame bytes).src = none → p = .c) :
    handleArrival p bytes s = match lookupNode s.tables p (parseFrame bytes).src with
      | some i => handleAccepted p i (decide (∃ x, (getNode s i).lastSeq = some x ∧ (parseFrame bytes).seq ≠ x + 1))
          (parseFrame bytes) bytes (acceptedState p bytes s)
      | none => handleUnknown .c (parseFrame bytes) bytes (acceptedState p bytes s) := by
  rw [handleArrival_good s hgood]
  unfold handleGood acceptedState
  dsimp only
  rw [countAt_tables]
  cases hnode : lookupNode s.tables p (parseFrame bytes).src with
  | none =>
    obtain rfl := hport hnode
    rfl
  | some i =>
    have hsame : getNode (countAt s p (countStatus .good)) i = getNode s i := by simp [getNode]
    unfold handleKnown
    dsimp only
    rw [hsame, sequenceCheck_accepted (hseq i hnode), countAt_tables]

theorem acceptedState_dropped (p : Port) (bytes : List Byte) (s : State) :
    countAt (acceptedState p bytes s) p (fun k => { k with ownDropped := bump k.ownDropped }) =
      (let u := setPort s p { getPort s p with counters := { (getPort s p).counters with
          rxGood := bump (getPort s p).counters.rxGood
          ownDropped := bump (getPort s p).counters.ownDropped } }
      match lookupNode s.tables p (parseFrame bytes).src with
      | some i => setNode u i { getNode s i with
          lastSeq := some (parseFrame bytes).seq
          good := bump (getNode s i).good
          gap := if (∃ x, (getNode s i).lastSeq = some x ∧ (parseFrame bytes).seq ≠ x + 1)
            then bump (getNode s i).gap else (getNode s i).gap
          liveness := .live
          timer := if nodeTimeout s.tables i = 0 then .stopped else .running 0 }
      | none => u) := by
  unfold acceptedState
  cases lookupNode s.tables p (parseFrame bytes).src with
  | none => cases p <;> rfl
  | some i =>
    simp only [acceptNode_eq, decide_eq_true_iff]
    cases p <;> rfl

/-- Settles O9. -/
theorem ownAddressFrameDropped : Obligations.OwnAddressFrameDropped := by
  unfold Obligations.OwnAddressFrameDropped
  intro p bytes s hr hgood hdst node hseq hcase
  have hport : node = none → p = .c := by
    intro hnone
    rcases hcase with ⟨_, h⟩ | ⟨h, _⟩ | ⟨h, _⟩
    · exact absurd hnone h
    · exact h
    · exact h
  refine ⟨_, exec_frameArrival p bytes hr, ?_⟩
  have hdropped : handleArrival p bytes s = dropOwn p (offerFrame p (parseFrame bytes) (acceptedState p bytes s)) := by
    rw [handleArrival_accepted hgood hseq hport]
    have hrefuse : ∀ known : Bool, known = (node).isSome →
        handleOwn p known (parseFrame bytes) (acceptedState p bytes s)
          = dropOwn p (offerFrame p (parseFrame bytes) (acceptedState p bytes s)) := by
      intro known hknown
      refine if_neg ?_
      subst hknown
      rcases hcase with ⟨rfl, _⟩ | ⟨rfl, hcls⟩ | ⟨rfl, hnone, hmode⟩
      · simp [ownHandedOver]
      · simp [ownHandedOver, hcls]
      · simp [ownHandedOver, hnone, hmode]
    cases hnode : lookupNode s.tables p (parseFrame bytes).src with
    | none =>
      obtain rfl := hport hnode
      unfold handleUnknown
      dsimp only
      rw [acceptedState_own, if_pos hdst]
      exact hrefuse false (by simp [node, hnode])
    | some i =>
      unfold handleAccepted
      dsimp only
      rw [acceptedState_own, if_pos hdst]
      exact hrefuse true (by simp [node, hnode])
  have hmoves := ((offerFrame_moves p (parseFrame bytes) (acceptedState p bytes s)).countAt
    (f := fun k => { k with ownDropped := bump k.ownDropped }) (fun _ _ => rfl) p).triggeredFrom
  rw [hdropped]
  rw [acceptedState_dropped] at hmoves
  exact hmoves

end Sys2Proof.Machine
end

section
/-! PROOF. What the owners of the roles can do at a delivered frame and at the loss of a node, said once: their records,
and what their flags and triggers move. -/

namespace Sys2Proof.Machine

/-- `s` with those parts taken from `t` that the owners' records, flags and triggers may change. -/
def withOwners (s t : State) : State :=
  { withTriggers s t with authority := t.authority, slide := t.slide, brake := t.brake, air := t.air }

/-- State `t` is `s` after nothing but moves of the owners, their flags and triggers. -/
structure OwnerMove (s t : State) : Prop where
  frame : t = withOwners s t
  flags : ∀ f, flagSet s f = true → flagSet t f = true
  notices : NoticesOnly s.link.cPort t.link.cPort
  sent : NoticesSent s.tables s.link.cPort t.link.cPort
  deferred : s.deferred = none → t.deferred = none

theorem OwnerMove.refl (s : State) : OwnerMove s s := ⟨rfl, fun _ => id, NoticesOnly.refl _, .refl _ _, id⟩

theorem OwnerMove.tables {s t : State} (h : OwnerMove s t) : t.tables = s.tables := by
  rw [h.frame]; rfl

theorem OwnerMove.trans {a b c : State} (h : OwnerMove a b) (k : OwnerMove b c) : OwnerMove a c := by
  refine ⟨?_, fun f hf => k.flags f (h.flags f hf), h.notices.trans k.notices,
    h.sent.trans (h.tables ▸ k.sent), fun hd => k.deferred (h.deferred hd)⟩
  rw [k.frame, h.frame]
  rfl

theorem Moves.owner {must may : List Flag} {s t : State} (h : Moves must may s t) : OwnerMove s t := by
  refine ⟨?_, fun f hf => (h.flags f).1 (.inl hf), h.notices, h.sent, h.deferred⟩
  rw [h.frame]
  rfl

/-- The records of the owners may be written. -/
theorem records_owner (s : State) (a : Authority) (k : Slide) (b : Brake) (x : Air) :
    OwnerMove s { s with authority := a, slide := k, brake := b, air := x } :=
  ⟨rfl, fun _ => id, NoticesOnly.refl _, .refl _ _, id⟩

theorem evalSand_owner (s : State) : OwnerMove s (evalSand s) := by
  unfold evalSand
  repeat' split
  all_goals exact records_owner s s.authority _ s.brake s.air

theorem evalEmergency_owner (s : State) : OwnerMove s (evalEmergency s) := by
  unfold evalEmergency
  repeat' split
  all_goals exact records_owner s _ s.slide s.brake s.air

theorem setLatch_owner (s : State) : OwnerMove s (setLatch s) := by
  unfold setLatch
  split
  · exact .refl s
  · exact (records_owner s _ s.slide s.brake s.air).trans (raise_trigger_moves .emergency .emergency _).owner

theorem tryClearLatch_owner (k : Source) (e : Bool) (r : Nat) (s : State) : OwnerMove s (tryClearLatch k e r s) := by
  unfold tryClearLatch
  split
  · exact records_owner s _ s.slide s.brake s.air
  · exact .refl s

theorem completeSwitch_owner (k : Source) (s : State) : OwnerMove s (completeSwitch k s) :=
  (records_owner s _ s.slide s.brake s.air).trans (raise_moves _ _).owner

theorem validTransition_owner (k : Source) (s : State) : OwnerMove s (validTransition k s) := by
  unfold validTransition completePending autoSwitch
  split
  · split
    · exact completeSwitch_owner k s
    · exact .refl s
  · split
    · exact (records_owner s _ s.slide s.brake s.air).trans (completeSwitch_owner k _)
    · exact .refl s

theorem moveMonitor_owner (k : Source) (gap : Bool) (s : State) : OwnerMove s (moveMonitor k gap s) := by
  unfold moveMonitor
  split
  · exact .refl s
  · dsimp only
    split
    · exact (records_owner s _ s.slide s.brake s.air).trans (validTransition_owner k _)
    · exact records_owner s _ s.slide s.brake s.air

theorem deliverDemand_owner (k : Source) (gap : Bool) (f : Frame) (s : State) :
    OwnerMove s (deliverDemand k gap f s) := by
  unfold deliverDemand
  split
  · exact .refl s
  next d _ =>
    dsimp only
    have hstore : OwnerMove s (storeDemand k ⟨d, f⟩ s) := records_owner s _ s.slide s.brake s.air
    refine (hstore.trans (moveMonitor_owner k gap _)).trans (OwnerMove.trans ?_ ((evalEmergency_owner _).trans
      ((tryClearLatch_owner k _ _ _).trans (evalSand_owner _))))
    split
    · exact setLatch_owner _
    · exact .refl _

theorem silenceMonitor_owner (k : Source) (s : State) : OwnerMove s (silenceMonitor k s) := by
  have hsilent : OwnerMove s
      { s with authority := { s.authority with monitors := s.authority.monitors.set k ⟨.silent, 0⟩ } } :=
    records_owner s _ s.slide s.brake s.air
  unfold silenceMonitor
  dsimp only
  split
  · refine hsilent.trans (OwnerMove.trans ?_ ((evalEmergency_owner _).trans (evalSand_owner _)))
    split
    · exact (records_owner _ _ s.slide s.brake s.air).trans (raise_trigger_moves .sourceLoss .sourceLoss _).owner
    · exact .refl _
  · exact hsilent

theorem reports_owner (rs : List (Option AxleReport)) : ∀ s : State, OwnerMove s (rs.foldl reportAxle s) := by
  induction rs with
  | nil => exact OwnerMove.refl
  | cons r rs ih =>
    intro s
    refine OwnerMove.trans ?_ (ih _)
    unfold reportAxle
    split
    · exact (raise_moves _ s).owner
    · exact (raise_trigger_moves .axleLocked .axleLocked s).owner
    · exact .refl s

theorem handleAxleSample_owner (payload : List Byte) (s : State) : OwnerMove s (handleAxleSample payload s) := by
  unfold handleAxleSample
  split
  · split
    · exact .refl s
    next rd _ =>
      have hmeasured : OwnerMove s (evalStandstill (sampleMeasure rd s)) := records_owner s s.authority _ s.brake _
      exact hmeasured.trans (((records_owner _ s.authority _ s.brake _).trans (reports_owner _ _)).trans
        (evalSand_owner _))
  · exact .refl s

theorem handleRadarSample_owner (payload : List Byte) (s : State) : OwnerMove s (handleRadarSample payload s) := by
  unfold handleRadarSample
  split
  · exact .refl s
  · exact records_owner s s.authority _ s.brake s.air

theorem loseSpeed_owner (s : State) : OwnerMove s (loseSpeed s) := by
  unfold loseSpeed
  split
  · exact (records_owner s s.authority _ s.brake _).trans (raise_trigger_moves .speedLost .speedLost _).owner
  · exact .refl s

theorem dropRadar_owner (s : State) : OwnerMove s (dropRadar s) := records_owner s s.authority _ s.brake s.air

theorem trip_owner (cause : TripCause) (s : State) : OwnerMove s (trip cause s) :=
  (records_owner s s.authority s.slide _ s.air).trans (raise_trigger_moves .dbTrip .dbTrip _).owner

theorem offerTraction_owner (r : TractionRecord) (s : State) : OwnerMove s (offerTraction r s) := by
  have hbrake : ∀ b, OwnerMove s { s with brake := b } := fun b => records_owner s s.authority s.slide b s.air
  unfold offerTraction
  split
  · split
    · exact trip_owner _ s
    · split
      · exact hbrake _
      · exact .refl s
  · split
    · exact trip_owner _ s
    · split
      · unfold shortfallClearTest
        dsimp only
        split
        · split <;> exact hbrake _
        · exact hbrake _
      · unfold shortfallSetTest
        dsimp only
        split
        · split
          · exact (hbrake _).trans (raise_trigger_moves .dbShortfall .dbShortfall _).owner
          · exact hbrake _
        · exact hbrake _
  all_goals exact .refl s

theorem handleTraction_owner (payload : List Byte) (s : State) : OwnerMove s (handleTraction payload s) := by
  unfold handleTraction
  split
  · exact .refl s
  · exact (records_owner s s.authority s.slide _ s.air).trans (offerTraction_owner _ _)

theorem tractionLost_owner (s : State) : OwnerMove s (tractionLost s) := by
  unfold tractionLost
  split
  · exact trip_owner _ s
  · exact .refl s

theorem setTruck_owner (s : State) (t : Truck) (r : TruckRecord) : OwnerMove s (setTruck s t r) := by
  cases t <;> exact records_owner s s.authority s.slide s.brake _

theorem loseValve_owner (t : Truck) (cause : ValveCondition) (s : State) : OwnerMove s (loseValve t cause s) := by
  unfold loseValve
  dsimp only
  split
  · exact (setTruck_owner s t _).trans (raise_trigger_moves .valveLost .valveLost _).owner
  · exact setTruck_owner s t _

theorem handleValve_owner (t : Truck) (payload : List Byte) (s : State) : OwnerMove s (handleValve t payload s) := by
  unfold handleValve
  split
  · exact .refl s
  · dsimp only
    split
    · exact (setTruck_owner s t _).trans (loseValve_owner t _ _)
    · exact (setTruck_owner s t _).trans (setTruck_owner _ t _)

/-- The loss of a node is a move of its role's owner (R143). -/
theorem deliverLoss_owner (r : Role) (s : State) : OwnerMove s (deliverLoss r s) := by
  unfold deliverLoss
  split
  case h_1 | h_2 | h_3 => exact silenceMonitor_owner _ s
  case h_4 => exact loseSpeed_owner s
  case h_5 => exact dropRadar_owner s
  case h_6 => exact tractionLost_owner s
  case h_7 | h_8 => exact loseValve_owner _ _ s
  all_goals exact .refl s

/-- A consumed frame is a move of its owner, or a time of day (R133, R134). -/
theorem deliverConsumed_owner (p : Port) (r : Role) (gap : Bool) (f : Frame) (s : State) :
    OwnerMove s (deliverConsumed p r gap f s)
      ∨ ∃ b, deliverConsumed p r gap f s = { s with control := { s.control with timeBase := b } } := by
  have hclass : ∀ (c : Byte) (t : State), OwnerMove s t → OwnerMove s (if f.cls = c then t else s) := by
    intro c t h
    split
    · exact h
    · exact .refl s
  unfold deliverConsumed
  split
  case h_1 | h_2 | h_3 => exact .inl (hclass _ _ (deliverDemand_owner _ gap f s))
  case h_4 =>
    split
    · unfold handleTime
      split
      · exact .inl (.refl s)
      · exact .inr ⟨_, rfl⟩
    · exact .inl (.refl s)
  case h_5 => exact .inl (hclass _ _ (handleAxleSample_owner f.payload s))
  case h_6 => exact .inl (hclass _ _ (handleRadarSample_owner f.payload s))
  case h_7 => exact .inl (hclass _ _ (handleTraction_owner f.payload s))
  case h_8 | h_9 => exact .inl (hclass _ _ (handleValve_owner _ f.payload s))
  case h_10 => exact .inl (.refl s)

theorem consume_owner (p : Port) (i : Nat) (gap : Bool) (f : Frame) (s : State) : OwnerMove s (consume p i gap f s)
    ∨ ∃ b, consume p i gap f s = { s with control := { s.control with timeBase := b } } := by
  unfold consume
  split
  · exact .inl (.refl s)
  · split
    · exact .inl (.refl s)
    · exact deliverConsumed_owner p _ gap f s

end Sys2Proof.Machine
end

section
/-! PROOF. What a trigger reads: the Recorder, the mode and time, the tables, and the demand frame of the active source. -/

namespace Sys2Proof.Machine

/-- Two states that a trigger does not tell apart. -/
structure SameForTrigger (s t : State) : Prop where
  recorder : t.recorder = s.recorder
  control : t.control = s.control
  tables : t.tables = s.tables
  capture : demandCapture t = demandCapture s

section
variable {s t : State} (h : SameForTrigger s t) (kind : TriggerKind) (frame : Option Capture) (have_ : Option Nat)
include h

theorem SameForTrigger.openedSlot_eq : openedSlot t kind = openedSlot s kind := by
  unfold openedSlot timeOfDayAt
  rw [h.recorder, h.control, h.tables, h.capture]

theorem SameForTrigger.openIn_eq (i : Nat) :
    (openIn t i kind frame have_).1.recorder = (openIn s i kind frame have_).1.recorder := by
  unfold openIn
  dsimp only
  rw [h.openedSlot_eq, h.recorder]

theorem SameForTrigger.countOverwrite_same : SameForTrigger (countOverwrite s) (countOverwrite t) := by
  have hframe : ∀ u : State, countOverwrite u = withNotices
      { u with recorder := { u.recorder with overwrites := bump16 u.recorder.overwrites } } (countOverwrite u) :=
    fun u => raise_frame _ _
  rw [hframe s, hframe t]
  exact ⟨congrArg (fun r : Recorder => { r with overwrites := bump16 r.overwrites }) h.recorder, h.control, h.tables, h.capture⟩

theorem SameForTrigger.openIncident_eq :
    (openIncident t kind frame have_).1.recorder = (openIncident s kind frame have_).1.recorder := by
  unfold openIncident
  rw [h.recorder]
  dsimp only
  split
  · rw [loseIncident_recorder, loseIncident_recorder, h.recorder]
  · split
    · exact h.openIn_eq kind frame have_ _
    · split
      · exact h.countOverwrite_same.openIn_eq kind frame have_ _
      · rw [loseIncident_recorder, loseIncident_recorder, h.recorder]

theorem SameForTrigger.deliverTrigger_eq :
    (deliverTrigger t kind frame have_).1.recorder = (deliverTrigger s kind frame have_).1.recorder := by
  unfold deliverTrigger
  rw [h.control, h.tables, h.recorder]
  split
  · split
    · exact h.openIncident_eq kind frame have_
    next i _ =>
      unfold joinIncident
      dsimp only
      rw [h.recorder, h.control, h.tables]
  · exact h.recorder

end

theorem flagSet_congr {s t : State} (h : t.lines.flags = s.lines.flags) (f : Flag) : flagSet t f = flagSet s f := by
  unfold flagSet
  rw [h]

/-- Where the Recorder loses an incident the flag rises, whatever it was before. -/
theorem loseIncident_flag (s : State) : flagSet (loseIncident s) .incidentLost = true := flagSet_raise_self _ _

theorem SameForTrigger.lost {s t : State} (h : SameForTrigger s t) (kind : TriggerKind) (frame : Option Capture)
    (have_ : Option Nat) (hflag : flagSet t .incidentLost = flagSet s .incidentLost) :
    flagSet (deliverTrigger t kind frame have_).1 .incidentLost
      = flagSet (deliverTrigger s kind frame have_).1 .incidentLost := by
  have hover : ∀ (u : State) (i : Nat), flagSet (openIn (countOverwrite u) i kind frame have_).1 .incidentLost = true :=
    fun u i => flagSet_raise_self
      { u with recorder := { u.recorder with overwrites := bump16 u.recorder.overwrites } } .incidentLost
  unfold deliverTrigger
  rw [h.control, h.tables, h.recorder]
  split
  · split
    · unfold openIncident
      rw [h.recorder]
      dsimp only
      split
      · rw [loseIncident_flag, loseIncident_flag]
      · split
        · exact hflag
        · split
          · exact (hover t _).trans (hover s _).symm
          · rw [loseIncident_flag, loseIncident_flag]
    · exact hflag
  · exact hflag

end Sys2Proof.Machine
end

section
/-! PROOF. The loss of a node (R143): the expiry itself (O13), and its delivery to the owner of the role (O14). -/

namespace Sys2Proof.Machine

/-! ## Sand and the emergency reset timer -/

theorem evalSand_frame (s : State) : ∃ request timer, evalSand s =
    { s with slide := { s.slide with sandRequest := request, sandTimer := timer } } := by
  unfold evalSand
  repeat' split
  all_goals exact ⟨_, _, rfl⟩

@[simp] theorem evalSand_authority (s : State) : (evalSand s).authority = s.authority := by
  obtain ⟨_, _, h⟩ := evalSand_frame s
  rw [h]

@[simp] theorem evalSand_brake (s : State) : (evalSand s).brake = s.brake := by
  obtain ⟨_, _, h⟩ := evalSand_frame s
  rw [h]

@[simp] theorem evalSand_air (s : State) : (evalSand s).air = s.air := by
  obtain ⟨_, _, h⟩ := evalSand_frame s
  rw [h]

@[simp] theorem evalSand_recorder (s : State) : (evalSand s).recorder = s.recorder := by
  obtain ⟨_, _, h⟩ := evalSand_frame s
  rw [h]

@[simp] theorem evalSand_lines (s : State) : (evalSand s).lines = s.lines := by
  obtain ⟨_, _, h⟩ := evalSand_frame s
  rw [h]

@[simp] theorem evalSand_tables (s : State) : (evalSand s).tables = s.tables := by
  obtain ⟨_, _, h⟩ := evalSand_frame s
  rw [h]

@[simp] theorem evalSand_flagSet (s : State) (f : Flag) : flagSet (evalSand s) f = flagSet s f :=
  flagSet_congr (by rw [evalSand_lines]) f

@[simp] theorem evalSand_axles (s : State) : (evalSand s).slide.axles = s.slide.axles := by
  obtain ⟨_, _, h⟩ := evalSand_frame s
  rw [h]

@[simp] theorem evalSand_vRef (s : State) : (evalSand s).slide.vRef = s.slide.vRef := by
  obtain ⟨_, _, h⟩ := evalSand_frame s
  rw [h]

/-- The sand request follows the axles, the tables, the authority and the PENALTY line alone (R46). -/
theorem evalSand_slide_congr {s t : State} (hslide : t.slide = s.slide) (htables : t.tables = s.tables)
    (hauthority : t.authority = s.authority) (hinputs : t.lines.inputs = s.lines.inputs) :
    (evalSand t).slide = (evalSand s).slide := by
  have hcalled : sandCalled t = sandCalled s := by
    unfold sandCalled activeDemand clampDemand applyPenalty presentedDemand penaltyActive
    rw [hslide, htables, hauthority, hinputs]
  unfold evalSand
  rw [hcalled, hslide, htables]
  split
  · exact hslide
  · split
    · rfl
    · split
      · exact hslide
      · split <;> rfl

theorem sourceCallsEmergency_iff (a : Authority) (k : Source) : sourceCallsEmergency a k = true ↔
    (a.monitors.get k).state = .valid ∧ ∃ g, a.good.get k = some g ∧ g.record.emergency = true := by
  unfold sourceCallsEmergency
  cases a.good.get k <;> simp

theorem emergencyCondition_iff (s : State) : emergencyCondition s = true ↔ EmergencyPresent s := by
  unfold emergencyCondition EmergencyPresent emergActive
  simp only [Bool.or_eq_true, sourceCallsEmergency_iff]
  constructor
  · rintro (((h | h) | h) | h)
    · exact .inl h
    all_goals exact .inr ⟨_, h⟩
  · rintro (h | ⟨k, h⟩)
    · exact .inl (.inl (.inl h))
    · cases k
      · exact .inl (.inl (.inr h))
      · exact .inl (.inr h)
      · exact .inr h

/-- The evaluation of R20 moves the reset timer alone. -/
theorem evalEmergency_frame (s : State) : ∃ timer,
    evalEmergency s = { s with authority := { s.authority with resetTimer := timer } } := by
  unfold evalEmergency
  repeat' split
  all_goals exact ⟨_, rfl⟩

theorem EmergencyPresent.congr {s t : State} (hinputs : t.lines.inputs = s.lines.inputs)
    (hmonitors : t.authority.monitors = s.authority.monitors) (hgood : t.authority.good = s.authority.good) :
    EmergencyPresent t ↔ EmergencyPresent s := by
  unfold EmergencyPresent
  rw [hinputs, hmonitors, hgood]

theorem evalEmergency_follows (s : State) : ResetTimerFollows s.authority.resetTimer (evalEmergency s) := by
  have hframe := evalEmergency_frame s
  have hsame : EmergencyPresent (evalEmergency s) ↔ EmergencyPresent s := by
    obtain ⟨_, h⟩ := hframe
    rw [h]
    exact .rfl
  have hlatch : (evalEmergency s).authority.latch = s.authority.latch := by
    obtain ⟨_, h⟩ := hframe
    rw [h]
  have htables : (evalEmergency s).tables = s.tables := by
    obtain ⟨_, h⟩ := hframe
    rw [h]
  unfold ResetTimerFollows
  rw [hsame, hlatch, htables, ← emergencyCondition_iff]
  have hrun : s.authority.latch = true → ¬ emergencyCondition s = true → evalEmergency s =
      match s.authority.resetTimer with
      | .stopped => if s.tables.source.loaded then
          { s with authority := { s.authority with resetTimer := .running 0 } } else s
      | .running _ | .expired => s := fun hl hc => if_neg (by simp [hl, hc])
  refine ⟨fun h => ?_, fun hl hc hstopped => ?_, fun hl hc hgoes => ?_⟩
  · rw [evalEmergency_stopped h]
  · rw [hrun hl hc, hstopped]
    dsimp only
    split
    · rfl
    · exact hstopped
  · rw [hrun hl hc]
    split
    next hs => exact absurd hs hgoes
    all_goals rfl

/-- R20 speaks of the lines, the authority and the SOURCE table alone. -/
theorem ResetTimerFollows.congr {before : Timer} {s t : State} (h : ResetTimerFollows before s)
    (hinputs : t.lines.inputs = s.lines.inputs) (hauthority : t.authority = s.authority)
    (htables : t.tables = s.tables) : ResetTimerFollows before t := by
  unfold ResetTimerFollows at *
  rwa [EmergencyPresent.congr hinputs (by rw [hauthority]) (by rw [hauthority]), hauthority, htables]

/-! ## A trigger after the rise of other flags -/

theorem FlagsRaised.unchanged {must may : List Flag} {s t : State} (h : FlagsRaised must may s t) {f : Flag}
    (hmust : f ∉ must) (hmay : f ∉ may) : flagSet t f = flagSet s f := by
  have hf := h f
  rw [Bool.eq_iff_iff]
  tauto

/-- A flag and its trigger, after a stretch that raised the flags of `must`. -/
theorem raise_trigger_after {must : List Flag} {s v : State} (hsame : SameForTrigger s v)
    (hflags : FlagsRaised must [] s v) (hmust : Flag.incidentLost ∉ must) {f : Flag} (hf : f ≠ .incidentLost)
    (kind : TriggerKind) : FlagsRaised (must ++ [f]) [.incidentLost] s (trigger kind (raise f v))
      ∧ (trigger kind (raise f v)).recorder = (deliverTrigger s kind none none).1.recorder
      ∧ flagSet (trigger kind (raise f v)) .incidentLost
        = flagSet (deliverTrigger s kind none none).1 .incidentLost := by
  have hraised : SameForTrigger s (raise f v) := by
    obtain ⟨hr, hc, ht, hd⟩ := hsame
    refine ⟨?_, ?_, ?_, ?_⟩
    · rw [raise_recorder, hr]
    · rw [raise_control, hc]
    · rw [raise_tables, ht]
    · rw [← hd]
      unfold demandCapture
      rw [raise_authority]
  refine ⟨hflags.trans (raise_trigger_moves f kind v).flags, hraised.deliverTrigger_eq kind none none,
    hraised.lost kind none none ?_⟩
  rw [flagSet_raise, hflags.unchanged hmust (by simp)]
  simp [hf.symm]

/-! ## The expiry (O13) -/

theorem exec_livenessExpiry (i : Fin 32) {s : State} (h : s.inReset = false) :
    exec (.livenessExpiry i) s = .next (syncOutputs (livenessExpired i.val s)) := event_live s _ h

theorem livenessDue_timer (s : State) (i : Nat) : livenessDue s i = true ↔ nodeUsed s.tables i = true
    ∧ (getNode s i).liveness = .live ∧ ∃ e, (getNode s i).timer = .running e ∧ nodeTimeout s.tables i ≤ e := by
  simp [livenessDue, Timer.reached_iff, and_assoc]

/-- The node marked LOST, with its flag (R143). -/
def nodeMarked (i : Nat) (s : State) : State :=
  raise .nodeLost (setNode s i { getNode s i with liveness := .lost, timer := .stopped })

theorem loseNode_delivered {i : Nat} {s : State} {r : Role} (hrole : nodeRole s.tables i = some r)
    (hbound : binding s.tables r = some i) : loseNode i s = deliverLoss r (nodeMarked i s) := by
  unfold loseNode
  dsimp only
  rw [hrole]
  exact if_pos hbound

theorem loseNode_undelivered {i : Nat} {s : State}
    (h : ∀ r, nodeRole s.tables i = some r →
      r = .locoComputer ∨ r = .recorder ∨ r = .tool ∨ r = .other ∨ binding s.tables r ≠ some i) :
    loseNode i s = nodeMarked i s := by
  unfold loseNode
  dsimp only
  split
  next r hr =>
    split
    next hbound =>
      rcases h r hr with rfl | rfl | rfl | rfl | hne
      case inr.inr.inr.inr => exact absurd hbound hne
      all_goals rfl
    · rfl
  · rfl

theorem loseNode_owner (i : Nat) (s : State) : OwnerMove (nodeMarked i s) (loseNode i s) := by
  unfold loseNode
  dsimp only
  split
  · split
    · exact deliverLoss_owner _ _
    · exact .refl _
  · exact .refl _

/-- Settles O13. -/
theorem livenessExpiryLosesNode : Obligations.LivenessExpiryLosesNode := by
  unfold Obligations.LivenessExpiryLosesNode
  intro i s hr n due u
  refine ⟨fun hnot => ?_, fun hdue => ?_⟩
  · rw [exec_livenessExpiry i hr]
    unfold livenessExpired
    rw [if_neg (fun h => hnot ((livenessDue_timer s i.val).mp h))]
  · have hlost : livenessExpired i.val s = loseNode i.val s := if_pos ((livenessDue_timer s i.val).mpr hdue)
    obtain ⟨hframe, hflags, -, -, -⟩ := loseNode_owner i.val s
    have hmarked : nodeMarked i.val s = raise .nodeLost u := rfl
    have hframe' : loseNode i.val s = withOwners (raise .nodeLost u) (loseNode i.val s) := hframe
    refine ⟨_, exec_livenessExpiry i hr, ?_⟩
    rw [hlost]
    refine ⟨?_, ?_, ?_, ?_, ?_, ?_, ?_, fun hun => ?_⟩
    case refine_2 => exact hflags .nodeLost (flagSet_raise_self u .nodeLost)
    case refine_8 =>
      rw [loseNode_undelivered hun]
      exact (raise_rises .nodeLost u).raisedFrom
    all_goals rw [hframe']
    · exact raise_nodes u .nodeLost
    · exact raise_tables u .nodeLost
    · exact raise_control u .nodeLost
    · exact raise_blend u .nodeLost
    · exact raise_management u .nodeLost
    · exact raise_ePort u .nodeLost

end Sys2Proof.Machine
end

section
/-! PROOF. The loss of a node delivered to the owner of its role (O14). -/

namespace Sys2Proof.Machine

/-! ## The state in which a loss is delivered -/

theorem nodeMarked_rises (i : Nat) (s : State) : Rises [.nodeLost] []
    (setNode s i { getNode s i with liveness := .lost, timer := .stopped }) (nodeMarked i s) := raise_rises _ _

theorem nodeMarked_flags (i : Nat) (s : State) : FlagsRaised [.nodeLost] [] s (nodeMarked i s) :=
  (nodeMarked_rises i s).flags

@[simp] theorem nodeMarked_authority (i : Nat) (s : State) : (nodeMarked i s).authority = s.authority := by
  simp [nodeMarked]
@[simp] theorem nodeMarked_slide (i : Nat) (s : State) : (nodeMarked i s).slide = s.slide := by simp [nodeMarked]
@[simp] theorem nodeMarked_brake (i : Nat) (s : State) : (nodeMarked i s).brake = s.brake := by simp [nodeMarked]
@[simp] theorem nodeMarked_air (i : Nat) (s : State) : (nodeMarked i s).air = s.air := by simp [nodeMarked]
@[simp] theorem nodeMarked_recorder (i : Nat) (s : State) : (nodeMarked i s).recorder = s.recorder := by
  simp [nodeMarked]
@[simp] theorem nodeMarked_control (i : Nat) (s : State) : (nodeMarked i s).control = s.control := by simp [nodeMarked]
@[simp] theorem nodeMarked_tables (i : Nat) (s : State) : (nodeMarked i s).tables = s.tables := by simp [nodeMarked]
@[simp] theorem nodeMarked_inputs (i : Nat) (s : State) : (nodeMarked i s).lines.inputs = s.lines.inputs := by
  simp [nodeMarked]

theorem nodeMarked_same (i : Nat) (s : State) : SameForTrigger s (nodeMarked i s) :=
  ⟨nodeMarked_recorder i s, nodeMarked_control i s, nodeMarked_tables i s, by
    unfold demandCapture
    rw [nodeMarked_authority]⟩

/-- Only the record of an owner has moved since `s`, which a trigger does not read. -/
theorem SameForTrigger.record {s u : State} (h : SameForTrigger s u) (k : Slide) (b : Brake) (x : Air) :
    SameForTrigger s { u with slide := k, brake := b, air := x } :=
  ⟨h.recorder, h.control, h.tables, h.capture⟩

/-! ## A source (R3, R12) -/

/-- The Demand Authority Unit after the loss of source `k` while it commands (R12), with its monitor SILENT. -/
def lostAuthority (k : Source) (a : Authority) : Authority :=
  { a with
    monitors := a.monitors.set k ⟨.silent, 0⟩
    active := .fallback
    phase := .hold
    lost := some k
    holdTimer := .running 0
    pendingSwitch := none }

/-- Its authority after the loss of any source, before the reset timer is evaluated. -/
def silencedAuthority (k : Source) (a : Authority) : Authority :=
  if (a.monitors.get k).state = .valid ∧ a.active = .source k then lostAuthority k a
  else { a with monitors := a.monitors.set k ⟨.silent, 0⟩ }

/-- The state after the fail-safe loss, if the source commands (R12), or with its monitor SILENT. -/
def silencedState (k : Source) (s : State) : State :=
  let u : State := { s with authority := silencedAuthority k s.authority }
  if (s.authority.monitors.get k).state = .valid ∧ s.authority.active = .source k then
    trigger .sourceLoss (raise .sourceLoss u)
  else u

theorem silenceMonitor_eq (k : Source) (s : State) : silenceMonitor k s =
    if (s.authority.monitors.get k).state = .valid then evalSand (evalEmergency (silencedState k s))
    else silencedState k s := by
  unfold silenceMonitor silencedState silencedAuthority failSafeLoss lostAuthority
  dsimp only
  by_cases hv : (s.authority.monitors.get k).state = .valid <;> by_cases ha : s.authority.active = .source k <;>
    simp [hv, ha]

@[simp] theorem silencedState_authority (k : Source) (s : State) :
    (silencedState k s).authority = silencedAuthority k s.authority := by
  unfold silencedState
  dsimp only
  split <;> simp
@[simp] theorem silencedState_slide (k : Source) (s : State) : (silencedState k s).slide = s.slide := by
  unfold silencedState
  dsimp only
  split <;> simp
@[simp] theorem silencedState_brake (k : Source) (s : State) : (silencedState k s).brake = s.brake := by
  unfold silencedState
  dsimp only
  split <;> simp
@[simp] theorem silencedState_air (k : Source) (s : State) : (silencedState k s).air = s.air := by
  unfold silencedState
  dsimp only
  split <;> simp
@[simp] theorem silencedState_tables (k : Source) (s : State) : (silencedState k s).tables = s.tables := by
  unfold silencedState
  dsimp only
  split <;> simp
@[simp] theorem silencedState_inputs (k : Source) (s : State) :
    (silencedState k s).lines.inputs = s.lines.inputs := by
  unfold silencedState
  dsimp only
  split <;> simp

/-- Of a silenced source's loss, the reset timer apart: R20 moves it where the source was VALID. -/
theorem silenceMonitor_authority (k : Source) (s : State) : ∃ timer,
    (silenceMonitor k s).authority = { silencedAuthority k s.authority with resetTimer := timer }
    ∧ ((s.authority.monitors.get k).state ≠ .valid → timer = s.authority.resetTimer) := by
  rw [silenceMonitor_eq]
  split
  next hv =>
    obtain ⟨timer, h⟩ := evalEmergency_frame (silencedState k s)
    exact ⟨timer, by rw [evalSand_authority, h, silencedState_authority], fun hn => absurd hv hn⟩
  next hv =>
    refine ⟨s.authority.resetTimer, ?_, fun _ => rfl⟩
    rw [silencedState_authority]
    unfold silencedAuthority
    rw [if_neg (fun h => hv h.1)]

theorem evalEmergency_recorder (s : State) : (evalEmergency s).recorder = s.recorder := by
  obtain ⟨_, h⟩ := evalEmergency_frame s
  rw [h]

theorem silenceMonitor_recorder (k : Source) (s : State) : (silenceMonitor k s).recorder = (silencedState k s).recorder := by
  rw [silenceMonitor_eq]
  split
  · rw [evalSand_recorder, evalEmergency_recorder]
  · rfl

theorem silenceMonitor_flags (k : Source) (s : State) : (silenceMonitor k s).lines.flags = (silencedState k s).lines.flags := by
  rw [silenceMonitor_eq]
  split
  · obtain ⟨_, h⟩ := evalEmergency_frame (silencedState k s)
    rw [evalSand_lines, h]
  · rfl

/-- A source silenced after the loss of its node (R3, R12, R20, R46). -/
theorem silenceMonitor_silenced (k : Source) (i : Nat) (s : State) :
    SourceSilenced k s (syncOutputs (silenceMonitor k (nodeMarked i s))) := by
  obtain ⟨timer, hauthority, htimer⟩ := silenceMonitor_authority k (nodeMarked i s)
  rw [nodeMarked_authority] at hauthority htimer
  have hcommon : (silencedAuthority k s.authority).monitors = s.authority.monitors.set k ⟨.silent, 0⟩
      ∧ (silencedAuthority k s.authority).good = s.authority.good
      ∧ (silencedAuthority k s.authority).lock = s.authority.lock
      ∧ (silencedAuthority k s.authority).autoMark = s.authority.autoMark
      ∧ (silencedAuthority k s.authority).latch = s.authority.latch
      ∧ (silencedAuthority k s.authority).resetTimer = s.authority.resetTimer := by
    unfold silencedAuthority
    split <;> exact ⟨rfl, rfl, rfl, rfl, rfl, rfl⟩
  obtain ⟨hmonitors, hgood, hlock, hmark, hlatch, hreset⟩ := hcommon
  have hslide : (silenceMonitor k (nodeMarked i s)).slide = if (s.authority.monitors.get k).state = .valid then
      (evalSand { s with authority := (silenceMonitor k (nodeMarked i s)).authority }).slide else s.slide := by
    obtain ⟨_, hframe⟩ := evalEmergency_frame (silencedState k (nodeMarked i s))
    rw [silenceMonitor_eq, nodeMarked_authority]
    split
    · refine evalSand_slide_congr ?_ ?_ ?_ ?_
      · rw [hframe, silencedState_slide, nodeMarked_slide]
      · rw [hframe, silencedState_tables, nodeMarked_tables]
      · rw [evalSand_authority]
      · rw [hframe, silencedState_inputs, nodeMarked_inputs]
    · rw [silencedState_slide, nodeMarked_slide]
  unfold SourceSilenced
  simp only [syncOutputs_authority, syncOutputs_slide, syncOutputs_brake, syncOutputs_air, syncOutputs_recorder]
  refine ⟨?_, ?_, ?_, ?_, ?_, ?_, ?_, hslide, ?_, ?_, ?_, ?_⟩
  case refine_6 =>
    split
    next hcommands =>
      have hlost : silencedAuthority k s.authority = lostAuthority k s.authority := if_pos hcommands
      have hstate : silencedState k (nodeMarked i s) = trigger .sourceLoss (raise .sourceLoss
          { nodeMarked i s with authority := silencedAuthority k s.authority }) := by
        unfold silencedState
        simp only [nodeMarked_authority]
        exact if_pos hcommands
      have hsame : SameForTrigger { s with authority := (silenceMonitor k (nodeMarked i s)).authority }
          { nodeMarked i s with authority := silencedAuthority k s.authority } := by
        refine ⟨nodeMarked_recorder i s, nodeMarked_control i s, nodeMarked_tables i s, ?_⟩
        rw [hauthority]
        rfl
      have hflags : FlagsRaised [.nodeLost] [] { s with authority := (silenceMonitor k (nodeMarked i s)).authority }
          { nodeMarked i s with authority := silencedAuthority k s.authority } := nodeMarked_flags i s
      obtain ⟨hraised, hrecorder, -⟩ := raise_trigger_after hsame hflags (by simp) (f := .sourceLoss) (by simp) .sourceLoss
      refine ⟨?_, ?_, ?_, ?_, ?_, ?_, ?_⟩
      case refine_6 =>
        have := (hraised .sourceLoss).1 (.inr (by simp))
        rw [← hstate] at this
        exact (flagSet_congr (silenceMonitor_flags k (nodeMarked i s)) .sourceLoss).trans this
      case refine_7 => rw [silenceMonitor_recorder, hstate, hrecorder]
      all_goals rw [hauthority, hlost]; rfl
    next hnot =>
      have hkeeps : silencedAuthority k s.authority =
          { s.authority with monitors := s.authority.monitors.set k ⟨.silent, 0⟩ } := if_neg hnot
      refine ⟨?_, ?_, ?_, ?_, ?_, ?_⟩
      case refine_1 =>
        rw [silenceMonitor_recorder]
        unfold silencedState
        simp only [nodeMarked_authority]
        rw [if_neg hnot]
        exact nodeMarked_recorder i s
      all_goals rw [hauthority, hkeeps]
  case refine_7 =>
    split
    next hv =>
      rw [silenceMonitor_eq, nodeMarked_authority, if_pos hv]
      have hfollows := evalEmergency_follows (silencedState k (nodeMarked i s))
      rw [silencedState_authority, nodeMarked_authority, hreset] at hfollows
      exact hfollows.congr (by simp) (by simp) (by simp)
    next hv => rw [hauthority, htimer hv]
  case refine_8 | refine_9 =>
    rw [silenceMonitor_eq]
    obtain ⟨_, hframe⟩ := evalEmergency_frame (silencedState k (nodeMarked i s))
    split <;> simp [hframe]
  case refine_10 | refine_11 =>
    rw [hslide]
    split <;> simp
  all_goals rw [hauthority]
  exacts [hmonitors, hgood, hlock, hmark, hlatch]

/-! ## The other owners -/

/-- A record that an owner writes before its flag and trigger: nothing else moves. -/
theorem raise_trigger_record (i : Nat) (s : State) (k : Slide) (b : Brake) (x : Air) {f : Flag}
    (hf : f ≠ .incidentLost) (kind : TriggerKind) :
    let u : State := { nodeMarked i s with slide := k, brake := b, air := x }
    let t := syncOutputs (trigger kind (raise f u))
    (FlagsRaised [.nodeLost, f] [.incidentLost] s t
      ∧ t.recorder = (deliverTrigger s kind none none).1.recorder
      ∧ flagSet t .incidentLost = flagSet (deliverTrigger s kind none none).1 .incidentLost)
    ∧ t.authority = s.authority ∧ t.slide = k ∧ t.brake = b ∧ t.air = x := by
  refine ⟨raise_trigger_after ((nodeMarked_same i s).record k b x) (nodeMarked_flags i s) (by simp) hf kind, ?_⟩
  simp

/-- An owner that writes its record alone. -/
theorem stands_record (i : Nat) (s : State) (k : Slide) (b : Brake) (x : Air) :
    let t := syncOutputs { nodeMarked i s with slide := k, brake := b, air := x }
    FlagsRaised [.nodeLost] [] s t ∧ t.recorder = s.recorder :=
  ⟨nodeMarked_flags i s, nodeMarked_recorder i s⟩

theorem loseSpeed_valid {s : State} (h : s.slide.speedState = .valid) : loseSpeed s =
    trigger .speedLost (raise .speedLost { s with
      slide := { s.slide with speedState := .lost, staleTimer := .stopped }
      air := { s.air with standstill := .stopped } }) := by
  unfold loseSpeed
  rw [if_pos h]
  unfold evalStandstill standstill
  simp

theorem loseSpeed_not_valid {s : State} (h : s.slide.speedState ≠ .valid) : loseSpeed s = s := if_neg h

theorem tractionLost_active {s : State} (h : s.brake.state = .active) : tractionLost s =
    trigger .dbTrip (raise .dbTrip { s with brake := broughtOut s.brake .tripped (some .link) }) := if_pos h

theorem tractionLost_not_active {s : State} (h : s.brake.state ≠ .active) : tractionLost s = s := if_neg h

theorem loseValve_clear {t : Truck} {cause : ValveCondition} {s : State} (h : (getTruck s t).condition = .clear) :
    loseValve t cause s =
      trigger .valveLost (raise .valveLost (setTruck s t { getTruck s t with condition := cause })) := if_pos h

theorem loseValve_not_clear {t : Truck} {cause : ValveCondition} {s : State} (h : (getTruck s t).condition ≠ .clear) :
    loseValve t cause s = setTruck s t { getTruck s t with condition := cause } := if_neg h

/-- The record of a truck whose valve node is lost (R90). -/
def valveLostAir (a : Air) : Truck → Air
  | .t1 => { a with truck1 := { a.truck1 with condition := .link } }
  | .t2 => { a with truck2 := { a.truck2 with condition := .link } }

theorem valveLoss_delivered (i : Nat) (s : State) (tr : Truck) :
    let t := syncOutputs (loseValve tr .link (nodeMarked i s))
    t.air = valveLostAir s.air tr
    ∧ ((getTruck s tr).condition = .clear →
      FlagsRaised [.nodeLost, .valveLost] [.incidentLost] s t
      ∧ t.recorder = (deliverTrigger s .valveLost none none).1.recorder
      ∧ flagSet t .incidentLost = flagSet (deliverTrigger s .valveLost none none).1 .incidentLost)
    ∧ ((getTruck s tr).condition ≠ .clear → FlagsRaised [.nodeLost] [] s t ∧ t.recorder = s.recorder) := by
  have hsame : getTruck (nodeMarked i s) tr = getTruck s tr := by cases tr <;> simp [getTruck]
  have hset : setTruck (nodeMarked i s) tr { getTruck (nodeMarked i s) tr with condition := .link } =
      { nodeMarked i s with slide := s.slide, brake := s.brake, air := valveLostAir s.air tr } := by
    rw [hsame]
    cases tr <;> simp [setTruck, getTruck, valveLostAir]
  by_cases hc : (getTruck s tr).condition = .clear
  · obtain ⟨hmoves, -, -, -, hx⟩ := raise_trigger_record i s s.slide s.brake (valveLostAir s.air tr)
      (f := .valveLost) (by simp) .valveLost
    rw [loseValve_clear (by rw [hsame]; exact hc), hset]
    exact ⟨hx, fun _ => hmoves, fun hn => absurd hc hn⟩
  · rw [loseValve_not_clear (by rw [hsame]; exact hc), hset]
    exact ⟨rfl, fun h => absurd h hc, fun _ => stands_record i s _ _ _⟩

/-- Settles O14: owner by owner. -/
theorem nodeLossDelivered : Obligations.NodeLossDelivered := by
  unfold Obligations.NodeLossDelivered
  intro i s hr hused hlive htimer r hrole hbound stands triggered
  have hdue : livenessDue s i.val = true := (livenessDue_timer s i.val).mpr ⟨hused, hlive, htimer⟩
  have hexec : exec (.livenessExpiry i) s = .next (syncOutputs (deliverLoss r (nodeMarked i.val s))) := by
    rw [exec_livenessExpiry i hr, ← loseNode_delivered hrole hbound]
    unfold livenessExpired
    rw [if_pos hdue]
  refine ⟨_, hexec, ?_, ?_, ?_, ?_, ?_, ?_, ?_, ?_, ?_, ?_, ?_⟩
  · rintro rfl
    exact silenceMonitor_silenced .cabA i.val s
  · rintro rfl
    exact silenceMonitor_silenced .cabB i.val s
  · rintro rfl
    exact silenceMonitor_silenced .dp i.val s
  · rintro rfl hvalid
    obtain ⟨hmoves, ha, hk, hb, hx⟩ := raise_trigger_record i.val s
      { s.slide with speedState := .lost, staleTimer := .stopped } s.brake { s.air with standstill := .stopped }
      (f := .speedLost) (by simp) .speedLost
    have hlost : deliverLoss .axleConc (nodeMarked i.val s) = trigger .speedLost (raise .speedLost
        { nodeMarked i.val s with
          slide := { s.slide with speedState := .lost, staleTimer := .stopped }
          brake := s.brake
          air := { s.air with standstill := .stopped } }) := by
      show loseSpeed _ = _
      rw [loseSpeed_valid (by simpa using hvalid)]
      simp
    rw [hlost]
    exact ⟨hk, hx, hmoves, ha, hb⟩
  · rintro rfl hnot
    have hkept : deliverLoss .axleConc (nodeMarked i.val s) = nodeMarked i.val s :=
      loseSpeed_not_valid (by simpa using hnot)
    rw [hkept]
    exact ⟨nodeMarked_slide i s, nodeMarked_air i s, nodeMarked_flags i s, nodeMarked_recorder i s⟩
  · rintro rfl
    have hdrop : deliverLoss .radar (nodeMarked i.val s)
        = { nodeMarked i.val s with slide := { s.slide with radar := none } } := by
      show dropRadar _ = _
      unfold dropRadar
      rw [nodeMarked_slide]
    rw [hdrop]
    exact ⟨rfl, ⟨nodeMarked_flags i s, nodeMarked_recorder i s⟩, nodeMarked_authority i s, nodeMarked_brake i s,
      nodeMarked_air i s⟩
  · rintro rfl hactive
    obtain ⟨hmoves, ha, hk, hb, hx⟩ := raise_trigger_record i.val s s.slide (broughtOut s.brake .tripped (some .link))
      s.air (f := .dbTrip) (by simp) .dbTrip
    have hlost : deliverLoss .traction (nodeMarked i.val s) = trigger .dbTrip (raise .dbTrip
        { nodeMarked i.val s with slide := s.slide, brake := broughtOut s.brake .tripped (some .link), air := s.air }) := by
      show tractionLost _ = _
      rw [tractionLost_active (by simpa using hactive)]
      simp
    rw [hlost]
    exact ⟨hb, hmoves, ha, hk, hx⟩
  · rintro rfl hnot
    have hkept : deliverLoss .traction (nodeMarked i.val s) = nodeMarked i.val s :=
      tractionLost_not_active (by simpa using hnot)
    rw [hkept]
    exact ⟨nodeMarked_brake i s, nodeMarked_flags i s, nodeMarked_recorder i s⟩
  · rintro rfl
    exact valveLoss_delivered i.val s .t1
  · rintro rfl
    exact valveLoss_delivered i.val s .t2
  · intro hplain
    have hkept : deliverLoss r (nodeMarked i.val s) = nodeMarked i.val s := by
      rcases hplain with rfl | rfl | rfl | rfl <;> rfl
    rw [hkept]
    exact ⟨nodeMarked_flags i s, nodeMarked_recorder i s⟩

end Sys2Proof.Machine
end

section
/-! PROOF. The forwarding decision (O10). -/

namespace Sys2Proof.Machine

/-! ## What reaches stage 6 -/

/-- The state that stage 5 hands on (R133): the pattern offer made, and the frame of a node consumed. -/
def consumedState (p : Port) (bytes : List Byte) (s : State) : State :=
  let f := parseFrame bytes
  let offered := offerFrame p f (acceptedState p bytes s)
  match lookupNode s.tables p f.src with
  | some i => consume p i (decide (∃ x, (getNode s i).lastSeq = some x ∧ f.seq ≠ x + 1)) f offered
  | none => offered

/-- A frame that is not to the own address reaches the forwarding decision. -/
theorem handleArrival_forwarded {p : Port} {bytes : List Byte} {s : State} (hgood : receiveStatus bytes = .good)
    (hdst : (parseFrame bytes).dst ≠ s.link.own)
    (hseq : ∀ i, lookupNode s.tables p (parseFrame bytes).src = some i →
      (getNode s i).lastSeq ≠ some (parseFrame bytes).seq)
    (hport : lookupNode s.tables p (parseFrame bytes).src = none → p = .c) :
    handleArrival p bytes s = forwardFrame p bytes (parseFrame bytes).cls (consumedState p bytes s) := by
  rw [handleArrival_accepted hgood hseq hport]
  unfold consumedState
  cases hnode : lookupNode s.tables p (parseFrame bytes).src with
  | none =>
    obtain rfl := hport hnode
    unfold handleUnknown
    dsimp only
    rw [acceptedState_own, if_neg hdst, hnode]
  | some i =>
    unfold handleAccepted
    dsimp only
    rw [acceptedState_own, if_neg hdst, hnode]

/-- What offer and consumption leave of the ports and of what the forwarding decision reads. -/
structure ToPorts (s t : State) : Prop where
  tables : t.tables = s.tables
  mode : t.control.mode = s.control.mode
  own : t.link.own = s.link.own
  nodes : t.link.nodes = s.link.nodes
  management : t.management = s.management
  ePort : t.link.ePort = s.link.ePort
  notices : NoticesOnly s.link.cPort t.link.cPort
  sent : NoticesSent s.tables s.link.cPort t.link.cPort

theorem ToPorts.trans {a b c : State} (h : ToPorts a b) (k : ToPorts b c) : ToPorts a c :=
  ⟨k.tables.trans h.tables, k.mode.trans h.mode, k.own.trans h.own, k.nodes.trans h.nodes,
    k.management.trans h.management, k.ePort.trans h.ePort, h.notices.trans k.notices, h.sent.trans (h.tables ▸ k.sent)⟩

theorem OwnerMove.toPorts {s t : State} (h : OwnerMove s t) : ToPorts s t := by
  refine ⟨h.tables, ?_, ?_, ?_, ?_, ?_, h.notices, h.sent⟩
  all_goals rw [h.frame]; rfl

theorem consume_toPorts (p : Port) (i : Nat) (gap : Bool) (f : Frame) (s : State) :
    ToPorts s (consume p i gap f s) := by
  rcases consume_owner p i gap f s with h | ⟨b, h⟩
  · exact h.toPorts
  · rw [h]
    exact ⟨rfl, rfl, rfl, rfl, rfl, rfl, .refl _, .refl _ _⟩

theorem consumedState_toPorts (p : Port) (bytes : List Byte) (s : State) :
    ToPorts (acceptedState p bytes s) (consumedState p bytes s) := by
  have hoffer := (offerFrame_moves p (parseFrame bytes) (acceptedState p bytes s)).owner.toPorts
  unfold consumedState
  dsimp only
  split
  · exact hoffer.trans (consume_toPorts _ _ _ _ _)
  · exact hoffer

theorem acceptedState_port (p : Port) (bytes : List Byte) (s : State) :
    getPort (acceptedState p bytes s) p = { getPort s p with
      counters := { (getPort s p).counters with rxGood := bump (getPort s p).counters.rxGood } } := by
  unfold acceptedState
  dsimp only
  split <;> cases p <;> rfl

theorem acceptedState_other (p : Port) (bytes : List Byte) (s : State) :
    getPort (acceptedState p bytes s) (Port.other p) = getPort s (Port.other p) := by
  unfold acceptedState
  dsimp only
  split <;> cases p <;> rfl

/-- The own port of an arriving frame once it is offered: it is counted, and nothing but notices move it. -/
theorem ToPorts.counters {p : Port} {bytes : List Byte} {s v : State} (h : ToPorts (acceptedState p bytes s) v) :
    ∃ d, (getPort v p).counters = { (getPort s p).counters with
      rxGood := bump (getPort s p).counters.rxGood, originatedDrop := d } := by
  have hport := acceptedState_port p bytes s
  cases p
  · obtain ⟨-, -, hcounters, -⟩ := h.notices
    refine ⟨v.link.cPort.counters.originatedDrop, hcounters.trans ?_⟩
    rw [show (acceptedState .c bytes s).link.cPort = _ from hport]
  · refine ⟨(getPort s .e).counters.originatedDrop, ?_⟩
    show v.link.ePort.counters = _
    rw [h.ePort, show (acceptedState .e bytes s).link.ePort = _ from hport]

/-- The port a frame goes toward at stage 6: nothing but notices have moved it. -/
theorem consumedState_toward (p : Port) (bytes : List Byte) (s : State) :
    NoticesOnly (getPort s (Port.other p)) (getPort (consumedState p bytes s) (Port.other p))
    ∧ (p = .c → getPort (consumedState p bytes s) (Port.other p) = getPort s (Port.other p))
    ∧ (p = .e → NoticesSent s.tables (getPort s (Port.other p)) (getPort (consumedState p bytes s) (Port.other p))) := by
  have h := consumedState_toPorts p bytes s
  have hother := acceptedState_other p bytes s
  cases p
  · have hsame : getPort (consumedState .c bytes s) .e = getPort s .e := h.ePort.trans hother
    refine ⟨?_, fun _ => hsame, nofun⟩
    show NoticesOnly (getPort s .e) (getPort (consumedState .c bytes s) .e)
    rw [hsame]
    exact .refl _
  · have hnotices := h.notices
    have hsent := h.sent
    rw [show (acceptedState .e bytes s).link.cPort = _ from hother] at hnotices hsent
    rw [acceptedState_tables] at hsent
    exact ⟨hnotices, nofun, fun _ => hsent⟩

/-! ## Stage 6 (R135, R137) -/

/-- A frame of a class of the pass set that is no setpoint arriving at the C-port in SERVICE (R135, R136). -/
theorem passes_iff (s : State) (p : Port) (cls : Byte) : passes s p cls = true ↔
    tableField s.tables.classSets ((if p = .c then 0 else 256) + cls.toNat) 0 = 1
    ∧ ¬ (s.control.mode = .service ∧ p = .c ∧ (cls = 0x70 ∨ cls = 0x74)) := by
  have hset : inPassSet s.tables p cls = true
      ↔ tableField s.tables.classSets ((if p = .c then 0 else 256) + cls.toNat) 0 = 1 := by
    cases p
    · exact decide_eq_true_iff.trans (by rw [if_pos rfl, Nat.zero_add]; rfl)
    · exact decide_eq_true_iff
  show _ ↔ _ ∧ ¬ (s.control.mode = .service ∧ p = .c ∧ (cls = Config.clsDbSetpoint ∨ cls = Config.clsBcSetpoint))
  rw [← hset]
  simp [passes, setpointClass]
  tauto

theorem forwardFrame_refused {p : Port} {raw : List Byte} {cls : Byte} {s : State} (h : ¬ passes s p cls = true) :
    forwardFrame p raw cls s = countAt s p (fun k => { k with notPassed := bump k.notPassed }) := if_neg h

theorem forwardFrame_room {p : Port} {raw : List Byte} {cls : Byte} {s : State} (h : passes s p cls = true)
    (hroom : (getPort s (Port.other p)).forward.length < 16) :
    forwardFrame p raw cls s = enterForward (Port.other p) raw s := by
  unfold forwardFrame
  rw [if_pos h, if_pos (by exact hroom)]

theorem forwardFrame_full {p : Port} {raw : List Byte} {cls : Byte} {s : State} (h : passes s p cls = true)
    (hfull : 16 ≤ (getPort s (Port.other p)).forward.length) : forwardFrame p raw cls s =
      raise .queueOverflow (countAt s p (fun k => { k with forwardDrop := bump k.forwardDrop })) := by
  unfold forwardFrame
  rw [if_pos h, if_neg (by exact Nat.not_lt.mpr hfull)]

/-- The copy toward a port (R137, R140): behind a frame that is being sent it waits, at an IDLE one it is taken. -/
theorem enterForward_port (out : Port) (raw : List Byte) (s : State) : getPort (enterForward out raw s) out =
    settle s.link.own { getPort s out with forward := (getPort s out).forward ++ [raw] } := by
  unfold enterForward
  rw [opportunityIfIdle_settle, getPort_setPort_same, getPort_setPort_same, setPort_own]

theorem enterForward_other (p : Port) (raw : List Byte) (s : State) :
    getPort (enterForward (Port.other p) raw s) p = getPort s p := by
  unfold enterForward
  rw [opportunityIfIdle_settle]
  cases p <;> rfl

theorem settle_busy (own : Byte) {ps : PortState} (h : ps.transmitter ≠ .idle) : settle own ps = ps := by
  unfold settle
  split
  next hidle => exact absurd hidle h
  next => rfl

theorem settle_single (own : Byte) {ps : PortState} {raw : List Byte} (hidle : ps.transmitter = .idle)
    (hempty : ps.originated = []) (hforward : ps.forward = [raw]) :
    settle own ps = { ps with forward := [], transmitter := .sending false raw 0 } := by
  unfold settle
  rw [hidle]
  dsimp only
  unfold takeNext
  rw [hempty, hforward]

/-- The rise of QUEUE_OVERFLOW leaves the queues but for notices. -/
theorem overflow_ports (p : Port) (s : State) :
    let t := raise .queueOverflow (countAt s p (fun k => { k with forwardDrop := bump k.forwardDrop }))
    NoticesOnly (getPort s (Port.other p)) (getPort t (Port.other p))
    ∧ ∃ d, (getPort t p).counters = { (getPort s p).counters with
        forwardDrop := bump (getPort s p).counters.forwardDrop, originatedDrop := d } := by
  intro t
  have h := (raise_rises .queueOverflow (countAt s p (fun k => { k with forwardDrop := bump k.forwardDrop }))).notices
  have hE : t.link.ePort = (countAt s p (fun k => { k with forwardDrop := bump k.forwardDrop })).link.ePort :=
    raise_ePort _ .queueOverflow
  cases p
  · refine ⟨?_, t.link.cPort.counters.originatedDrop, h.2.2.1⟩
    rw [show getPort t (Port.other .c) = getPort s .e from hE]
    exact .refl _
  · refine ⟨h, s.link.ePort.counters.originatedDrop, ?_⟩
    show t.link.ePort.counters = _
    rw [hE]
    rfl

@[simp] theorem syncOutputs_getPort (s : State) (p : Port) : getPort (syncOutputs s) p = getPort s p := by
  cases p <;> rfl

@[simp] theorem flagSet_syncOutputs (s : State) (f : Flag) : flagSet (syncOutputs s) f = flagSet s f := rfl

/-- Settles O10. -/
theorem forwardingDecision : Obligations.ForwardingDecision := by
  unfold Obligations.ForwardingDecision
  intro p bytes s hr hgood hdst hseq hport cls member blocked waiting old toward
  refine ⟨_, exec_frameArrival p bytes hr, ?_⟩
  rw [handleArrival_forwarded hgood hdst hseq hport]
  have hreach := consumedState_toPorts p bytes s
  obtain ⟨d, hcounters⟩ := hreach.counters
  obtain ⟨hnotices, hsame, hsent⟩ := consumedState_toward p bytes s
  generalize consumedState p bytes s = v at *
  have hpasses : passes v p cls = true ↔ member ∧ ¬ blocked := by
    rw [passes_iff, hreach.tables, hreach.mode, acceptedState_tables, acceptedState_control]
  have hrefused : ¬ (member ∧ ¬ blocked) → forwardFrame p bytes cls v =
      countAt v p (fun k => { k with notPassed := bump k.notPassed }) :=
    fun h => forwardFrame_refused (fun hp => h (hpasses.mp hp))
  refine ⟨fun hbusy => ?busy, fun hidle hempty hforward => ?idle⟩
  case busy =>
    obtain ⟨htransmitter, -, hqueue, -⟩ := hnotices.2.2.2 hbusy
    refine ⟨fun ⟨hm, hb, hroom⟩ => ?room, fun ⟨hm, hb, hfull⟩ => ?full, fun hnot => ?refused, ?transmitter⟩
    case room =>
      rw [forwardFrame_room (hpasses.mpr ⟨hm, hb⟩) (by rw [hqueue]; exact hroom), syncOutputs_getPort, syncOutputs_getPort,
        enterForward_port, enterForward_other, settle_busy _ (by rw [htransmitter]; exact hbusy), hqueue, hcounters]
      exact ⟨rfl, rfl, rfl⟩
    case full =>
      obtain ⟨hqueues, d', hfinal⟩ := overflow_ports p v
      obtain ⟨-, -, hforward, -⟩ := hqueues.2.2.2 (by rw [htransmitter]; exact hbusy)
      rw [forwardFrame_full (hpasses.mpr ⟨hm, hb⟩) (by rw [hqueue]; exact hfull), syncOutputs_getPort, syncOutputs_getPort,
        hforward, hfinal, hcounters, flagSet_syncOutputs]
      exact ⟨hqueue, flagSet_raise_self _ .queueOverflow, rfl, rfl⟩
    case refused =>
      rw [hrefused (fun h => hnot.elim (fun hn => hn h.1) h.2), syncOutputs_getPort, syncOutputs_getPort, getPort_countAt_other, getPort_countAt_same, hcounters]
      exact ⟨hqueue, rfl, rfl⟩
    case transmitter =>
      rw [syncOutputs_getPort, ← htransmitter]
      have hbusy' : (getPort v (Port.other p)).transmitter ≠ .idle := by rw [htransmitter]; exact hbusy
      by_cases hp : passes v p cls = true
      · by_cases hroom : (getPort v (Port.other p)).forward.length < 16
        · rw [forwardFrame_room hp hroom, enterForward_port, settle_busy _ (by exact hbusy')]
        · rw [forwardFrame_full hp (Nat.not_lt.mp hroom)]
          exact ((overflow_ports p v).1.2.2.2 hbusy').1
      · rw [forwardFrame_refused hp, getPort_countAt_other]
  case idle =>
    intro sent
    have hqueue : (getPort v (Port.other p)).forward = [] := List.eq_nil_of_suffix_nil (hforward ▸ hnotices.2.1)
    have hpasses' : member ∧ ¬ blocked →
        forwardFrame p bytes cls v = enterForward (Port.other p) bytes v :=
      fun h => forwardFrame_room (hpasses.mpr h) (by rw [hqueue]; exact Nat.succ_pos 15)
    have hstate : EmptyPort (getPort v (Port.other p))
        ∨ p = .e ∧ noticeNode s.tables ≠ 0 ∧ Noticing (getPort v (Port.other p)) := by
      cases p
      · left
        rw [hsame rfl]
        exact ⟨hidle, hempty, hforward⟩
      · obtain ⟨hnone, hmoves⟩ := hsent rfl
        by_cases hn : noticeNode s.tables = 0
        · left
          rw [hnone hn]
          exact ⟨hidle, hempty, hforward⟩
        · rcases hmoves (.inl ⟨hidle, hempty, hforward⟩) with h | h
          · exact .inl h
          · exact .inr ⟨rfl, hn, h⟩
    have hcopy : ∀ h : member ∧ ¬ blocked, EmptyPort (getPort v (Port.other p)) →
        sent.transmitter = .sending false bytes 0 ∧ sent.forward = [] := by
      intro h ⟨hi, he, hf⟩
      have hsent : sent = settle v.link.own { getPort v (Port.other p) with
          forward := (getPort v (Port.other p)).forward ++ [bytes] } := by
        show getPort (syncOutputs _) _ = _
        rw [syncOutputs_getPort, hpasses' h, enterForward_port]
      rw [hsent, settle_single v.link.own (raw := bytes) (by exact hi) (by exact he) (by rw [hf]; rfl)]
      exact ⟨rfl, rfl⟩
    refine ⟨?drop, fun h => ⟨?counted, ?sent⟩, fun h hquiet => ?alone, fun hnot => ?refused⟩
    case drop =>
      rw [syncOutputs_getPort]
      by_cases h : member ∧ ¬ blocked
      · rw [hpasses' h, enterForward_other, hcounters]
      · rw [hrefused h, getPort_countAt_same, hcounters]
    case counted => rw [syncOutputs_getPort, hpasses' h, enterForward_other, hcounters]
    case sent =>
      rcases hstate with hem | ⟨hp, -, hf, notice, hsending, hcls⟩
      · exact .inl (hcopy h hem)
      · have hsent : sent = { getPort v (Port.other p) with
            forward := (getPort v (Port.other p)).forward ++ [bytes] } := by
          show getPort (syncOutputs _) _ = _
          rw [syncOutputs_getPort, hpasses' h, enterForward_port, settle_busy]
          simp [hsending]
        rw [hsent]
        exact .inr ⟨hp, by rw [hf]; rfl, notice, hsending, hcls⟩
    case alone =>
      rcases hstate with hem | ⟨hp, hn, -⟩
      · exact (hcopy h hem).1
      · exact absurd hquiet (fun hq => hq.elim (fun hc => by simp [hp] at hc) hn)
    case refused =>
      have hsent : sent = getPort v (Port.other p) := by
        show getPort (syncOutputs _) _ = _
        rw [syncOutputs_getPort, hrefused (fun h => hnot.elim (fun hn => hn h.1) h.2), getPort_countAt_other]
      rw [hsent]
      refine ⟨?_, hqueue, fun hc => ?_⟩
      · rw [syncOutputs_getPort, hrefused (fun h => hnot.elim (fun hn => hn h.1) h.2), getPort_countAt_same, hcounters]
      · rw [hsame hc]
        exact hidle

end Sys2Proof.Machine
end

section
/-! PROOF. The owners' events neither read nor disturb a port counter: each commutes with a count. -/

namespace Sys2Proof.Machine

/-- An operation that commutes with a count at a port. -/
def CountFree (p : Port) (k : PortCounters → PortCounters) (f : State → State) : Prop :=
  ∀ s, f (countAt s p k) = countAt (f s) p k

section
variable {p : Port} {k : PortCounters → PortCounters}

theorem CountFree.id : CountFree p k id := fun _ => rfl

theorem CountFree.comp {f g : State → State} (hg : CountFree p k g) (hf : CountFree p k f) :
    CountFree p k (fun s => g (f s)) := fun s => (congrArg g (hf s)).trans (hg (f s))

/-- A choice by what a count leaves. -/
theorem CountFree.ite {c : State → Prop} [∀ s, Decidable (c s)] {f g : State → State}
    (hc : ∀ s, c (countAt s p k) ↔ c s) (hf : CountFree p k f) (hg : CountFree p k g) :
    CountFree p k (fun s => if c s then f s else g s) := by
  intro s
  dsimp only
  by_cases h : c s
  · rw [if_pos h, if_pos ((hc s).mpr h), hf]
  · rw [if_neg h, if_neg (fun hn => h ((hc s).mp hn)), hg]

/-- Records of the owners written from what a count leaves. -/
theorem CountFree.records {a : State → Authority} {x : State → Slide} {b : State → Brake} {y : State → Air}
    (ha : ∀ s, a (countAt s p k) = a s) (hx : ∀ s, x (countAt s p k) = x s) (hb : ∀ s, b (countAt s p k) = b s)
    (hy : ∀ s, y (countAt s p k) = y s) :
    CountFree p k (fun s => { s with authority := a s, slide := x s, brake := b s, air := y s }) := by
  intro s
  dsimp only
  rw [ha, hx, hb, hy]
  cases p <;> rfl

theorem CountFree.recorder {r : State → Recorder} (hr : ∀ s, r (countAt s p k) = r s) :
    CountFree p k (fun s => { s with recorder := r s }) := by
  intro s
  dsimp only
  rw [hr]
  cases p <;> rfl

theorem CountFree.lines {l : State → Lines} (hl : ∀ s, l (countAt s p k) = l s) :
    CountFree p k (fun s => { s with lines := l s }) := by
  intro s
  dsimp only
  rw [hl]
  cases p <;> rfl

/-! ## Notices, flags and triggers -/

theorem Plain.drop {k : PortCounters → PortCounters} (hk : Plain k) (c : PortCounters) :
    (k c).originatedDrop = c.originatedDrop := by
  have h := congrArg PortCounters.originatedDrop (hk c c.originatedDrop)
  exact h

theorem takeNext_counted (own : Byte) (carry : Nat) (ps : PortState) (c : PortCounters) :
    takeNext own carry { ps with counters := c } = { takeNext own carry ps with counters := c } := by
  rcases takeNext_cases own carry ps with ⟨f, rest, ho, h⟩ | ⟨raw, rest, ho, hf, h⟩ | ⟨ho, hf, h⟩
  all_goals rw [h]
  · simp [takeNext, ho]
  · simp [takeNext, ho, hf]
  · simp [takeNext, ho, hf]

theorem settle_counted (own : Byte) (ps : PortState) (c : PortCounters) :
    settle own { ps with counters := c } = { settle own ps with counters := c } := by
  unfold settle
  dsimp only
  split
  · exact takeNext_counted own 0 ps c
  · rfl

theorem settle_counters (own : Byte) (ps : PortState) : (settle own ps).counters = ps.counters := by
  unfold settle
  split
  · exact takeNext_counters _ _ _
  · rfl

/-- What handing over a notice makes of the C-port. -/
def noticedPort (own : Byte) (ps : PortState) (f : OriginatedFrame) : PortState :=
  match queueOriginated .c ps.originated f with
  | some q => settle own { ps with originated := q }
  | none => { ps with counters := { ps.counters with originatedDrop := bump ps.counters.originatedDrop } }

theorem handNotice_eq (s : State) (f : OriginatedFrame) : handNotice s f = { s with
    link := { s.link with cPort := noticedPort s.link.own s.link.cPort f }
    lines := { s.lines with noticePending :=
      if (queueOriginated .c s.link.cPort.originated f).isSome then false else s.lines.noticePending } } := by
  unfold handNotice noticedPort
  rcases enterOriginated_cases s .c f with ⟨q, hq, h⟩ | ⟨hq, h⟩
  · have hq' : queueOriginated .c s.link.cPort.originated f = some q := hq
    rw [h, hq', opportunityIfIdle_settle]
    rfl
  · have hq' : queueOriginated .c s.link.cPort.originated f = none := hq
    rw [h, hq']
    rfl

theorem noticedPort_counted (hk : Plain k) (own : Byte) (ps : PortState) (f : OriginatedFrame) :
    noticedPort own { ps with counters := k ps.counters } f =
      { noticedPort own ps f with counters := k (noticedPort own ps f).counters } := by
  unfold noticedPort
  dsimp only
  split
  next q _ =>
    rw [settle_counters]
    exact settle_counted own { ps with originated := q } (k ps.counters)
  next =>
    dsimp only
    rw [hk ps.counters (bump ps.counters.originatedDrop), hk.drop ps.counters]

variable (hk : Plain k)
include hk

theorem handNotice_countFree (f : OriginatedFrame) : CountFree p k (fun s => handNotice s f) := by
  intro s
  dsimp only
  rw [handNotice_eq, handNotice_eq]
  cases p
  · have hport : (countAt s .c k).link.cPort = { s.link.cPort with counters := k s.link.cPort.counters } := rfl
    rw [hport, countAt_own, noticedPort_counted hk]
    rfl
  · rfl

theorem notify_countFree : CountFree p k notify := by
  intro s
  have hform : formNotice (countAt s p k) = formNotice s := by cases p <;> rfl
  unfold notify
  rw [countAt_tables, countAt_deferred, hform]
  split
  · rfl
  · split
    · exact handNotice_countFree hk _ s
    · cases p <;> rfl

theorem raise_countFree (f : Flag) : CountFree p k (raise f) := by
  intro s
  have hset : flagSet (countAt s p k) f = flagSet s f := flagSet_congr (by rw [countAt_lines]) f
  unfold raise
  rw [hset, countAt_tables, countAt_lines]
  split
  · rfl
  · dsimp only
    split
    · rw [← notify_countFree hk]
      cases p <;> rfl
    · cases p <;> rfl

theorem raise_recorder_countFree (f : Flag) {r : State → Recorder} (hr : ∀ s, r (countAt s p k) = r s) :
    CountFree p k (fun s => raise f { s with recorder := r s }) := (raise_countFree hk f).comp (.recorder hr)

/-- A trigger commutes with a count, and reports the same. -/
theorem deliverTrigger_countFree (kind : TriggerKind) (frame : Option Capture) (have_ : Option Nat) (s : State) :
    deliverTrigger (countAt s p k) kind frame have_ =
      (countAt (deliverTrigger s kind frame have_).1 p k, (deliverTrigger s kind frame have_).2) := by
  have hopened : openedSlot (countAt s p k) kind = openedSlot s kind := by
    cases p <;> rfl
  have hopen : ∀ (u : State) (i : Nat), openIn (countAt u p k) i kind frame have_ =
      (countAt (openIn u i kind frame have_).1 p k, (openIn u i kind frame have_).2) := by
    intro u i
    cases p <;> rfl
  have hlose : loseIncident (countAt s p k) = countAt (loseIncident s) p k :=
    raise_recorder_countFree hk .incidentLost
      (r := fun s => { s.recorder with lostCount := bump16 s.recorder.lostCount }) (fun s => by rw [countAt_recorder]) s
  have hover : countOverwrite (countAt s p k) = countAt (countOverwrite s) p k :=
    raise_recorder_countFree hk .incidentLost
      (r := fun s => { s.recorder with overwrites := bump16 s.recorder.overwrites }) (fun s => by rw [countAt_recorder]) s
  have hincident : openIncident (countAt s p k) kind frame have_ =
      (countAt (openIncident s kind frame have_).1 p k, (openIncident s kind frame have_).2) := by
    unfold openIncident
    rw [countAt_recorder]
    dsimp only
    split
    · rw [hlose]
    · split
      · rw [hopen]
      · split
        · rw [hover, hopen]
        · rw [hlose]
  unfold deliverTrigger
  rw [countAt_control, countAt_tables, countAt_recorder]
  split
  · split
    · exact hincident
    · cases p <;> rfl
  · rfl

theorem trigger_countFree (kind : TriggerKind) : CountFree p k (trigger kind) := by
  intro s
  unfold trigger
  rw [deliverTrigger_countFree hk]

theorem raise_trigger_countFree (f : Flag) (kind : TriggerKind) : CountFree p k (fun s => trigger kind (raise f s)) :=
  (trigger_countFree hk kind).comp (raise_countFree hk f)

end

end Sys2Proof.Machine
end

section
/-! PROOF. The owners' events commute with a count at a port. -/

namespace Sys2Proof.Machine

section
variable {p : Port} {k : PortCounters → PortCounters}

theorem activeDemand_counted (s : State) : activeDemand (countAt s p k) = activeDemand s := by cases p <;> rfl

theorem sandCalled_counted (s : State) : sandCalled (countAt s p k) = sandCalled s := by cases p <;> rfl

theorem emergencyCondition_counted (s : State) : emergencyCondition (countAt s p k) = emergencyCondition s := by
  cases p <;> rfl

theorem isValid_counted (s : State) (j : Source) : isValid (countAt s p k) j = isValid s j := by cases p <;> rfl

theorem clearsLatch_counted (s : State) (j : Source) (e : Bool) (r : Nat) :
    clearsLatch (countAt s p k) j e r = clearsLatch s j e r := by cases p <;> rfl

theorem autoSwitchApplies_counted (s : State) (j : Source) :
    autoSwitchApplies (countAt s p k) j = autoSwitchApplies s j := by cases p <;> rfl

theorem sampleMeasure_counted (rd : Six AxleReading) : CountFree p k (sampleMeasure rd) := by
  intro s
  cases p <;> rfl

theorem evalStandstill_counted : CountFree p k evalStandstill := by
  intro s
  cases p <;> rfl

theorem setTruck_counted (s : State) (t : Truck) (r : TruckRecord) :
    setTruck (countAt s p k) t r = countAt (setTruck s t r) p k := by
  cases p <;> cases t <;> rfl

theorem getTruck_counted (s : State) (t : Truck) : getTruck (countAt s p k) t = getTruck s t := by
  cases p <;> cases t <;> rfl

theorem authority_counted (s : State) (a : Authority) :
    ({ countAt s p k with authority := a } : State) = countAt { s with authority := a } p k := by
  cases p <;> rfl

theorem slide_counted (s : State) (x : Slide) :
    ({ countAt s p k with slide := x } : State) = countAt { s with slide := x } p k := by
  cases p <;> rfl

theorem brake_counted (s : State) (b : Brake) :
    ({ countAt s p k with brake := b } : State) = countAt { s with brake := b } p k := by
  cases p <;> rfl

theorem evalSand_countFree : CountFree p k evalSand := by
  intro s
  unfold evalSand
  simp only [slide_counted]
  simp only [countAt_tables, sandCalled_counted, countAt_slide]
  repeat' split
  all_goals rfl

theorem evalEmergency_countFree : CountFree p k evalEmergency := by
  intro s
  unfold evalEmergency
  simp only [authority_counted]
  simp only [countAt_authority, emergencyCondition_counted, countAt_tables]
  split
  · rfl
  · split
    · split <;> rfl
    · rfl
    · rfl

theorem tryClearLatch_countFree (j : Source) (e : Bool) (r : Nat) : CountFree p k (tryClearLatch j e r) := by
  intro s
  unfold tryClearLatch
  simp only [authority_counted]
  simp only [clearsLatch_counted, countAt_authority]
  split <;> rfl

variable (hk : Plain k)
include hk

theorem setLatch_countFree : CountFree p k setLatch := by
  intro s
  unfold setLatch
  simp only [authority_counted]
  simp only [countAt_authority]
  split
  · rfl
  · exact raise_trigger_countFree hk .emergency .emergency _

theorem completeSwitch_countFree (j : Source) : CountFree p k (completeSwitch j) := by
  intro s
  unfold completeSwitch
  simp only [authority_counted]
  simp only [countAt_authority]
  exact raise_countFree hk .sourceSwitched _

theorem validTransition_countFree (j : Source) : CountFree p k (validTransition j) := by
  intro s
  unfold validTransition completePending autoSwitch
  simp only [authority_counted]
  simp only [countAt_authority, isValid_counted, autoSwitchApplies_counted]
  split
  · split
    · exact completeSwitch_countFree hk j s
    · rfl
  · split
    · exact completeSwitch_countFree hk j _
    · rfl

theorem moveMonitor_countFree (j : Source) (gap : Bool) : CountFree p k (moveMonitor j gap) := by
  intro s
  unfold moveMonitor
  simp only [authority_counted]
  simp only [countAt_tables, countAt_authority]
  split
  · rfl
  · split
    · exact validTransition_countFree hk j _
    · rfl

theorem deliverDemand_countFree (j : Source) (gap : Bool) (f : Frame) : CountFree p k (deliverDemand j gap f) := by
  intro s
  unfold deliverDemand
  split
  · rfl
  next d _ =>
    have hmoved : moveMonitor j gap (storeDemand j ⟨d, f⟩ (countAt s p k)) =
        countAt (moveMonitor j gap (storeDemand j ⟨d, f⟩ s)) p k := by
      rw [← moveMonitor_countFree hk j gap]
      unfold storeDemand
      rw [authority_counted, countAt_authority]
    dsimp only
    rw [hmoved, isValid_counted]
    split
    · rw [setLatch_countFree hk, evalEmergency_countFree, tryClearLatch_countFree, evalSand_countFree]
    · rw [evalEmergency_countFree, tryClearLatch_countFree, evalSand_countFree]

theorem reports_countFree (rs : List (Option AxleReport)) : CountFree p k (fun s => rs.foldl reportAxle s) := by
  induction rs with
  | nil => exact fun _ => rfl
  | cons r rs ih =>
    intro s
    have hone : reportAxle (countAt s p k) r = countAt (reportAxle s r) p k := by
      unfold reportAxle
      split
      · exact raise_countFree hk .sensorFault s
      · exact raise_trigger_countFree hk .axleLocked .axleLocked s
      · rfl
    show rs.foldl reportAxle (reportAxle (countAt s p k) r) = _
    rw [hone]
    exact ih _

theorem sampleTransitions_countFree : CountFree p k sampleTransitions := by
  intro s
  have hbraked : ∀ i, braked (countAt s p k) i = braked s i := fun i => by cases p <;> rfl
  unfold sampleTransitions
  simp only [slide_counted]
  simp only [countAt_tables, countAt_slide, hbraked]
  exact reports_countFree hk _ _

theorem handleAxleSample_countFree (payload : List Byte) : CountFree p k (handleAxleSample payload) := by
  intro s
  unfold handleAxleSample
  rw [countAt_tables]
  split
  · split
    · rfl
    · rw [sampleMeasure_counted, evalStandstill_counted, sampleTransitions_countFree hk, evalSand_countFree]
  · rfl

omit hk in
theorem handleRadarSample_countFree (payload : List Byte) : CountFree p k (handleRadarSample payload) := by
  intro s
  unfold handleRadarSample
  split
  · rfl
  · cases p <;> rfl

omit hk in
theorem handleTime_countFree (payload : List Byte) : CountFree p k (handleTime payload) := by
  intro s
  unfold handleTime
  split
  · rfl
  · cases p <;> rfl

theorem trip_countFree (cause : TripCause) : CountFree p k (trip cause) := by
  intro s
  unfold trip
  rw [brake_counted, countAt_brake]
  exact raise_trigger_countFree hk .dbTrip .dbTrip _

theorem shortfallSetTest_countFree : CountFree p k shortfallSetTest := by
  intro s
  unfold shortfallSetTest
  simp only [brake_counted]
  simp only [countAt_tables, countAt_brake, countAt_blend]
  split
  · split
    · exact raise_trigger_countFree hk .dbShortfall .dbShortfall _
    · rfl
  · rfl

omit hk in
theorem shortfallClearTest_countFree : CountFree p k shortfallClearTest := by
  intro s
  unfold shortfallClearTest
  simp only [brake_counted]
  simp only [countAt_tables, countAt_brake, countAt_blend]
  repeat' split
  all_goals rfl

theorem offerTraction_countFree (t : TractionRecord) : CountFree p k (offerTraction t) := by
  intro s
  unfold offerTraction becomeActive
  simp only [brake_counted]
  simp only [countAt_brake]
  split
  · split
    · exact trip_countFree hk .converter s
    · split <;> rfl
  · split
    · exact trip_countFree hk .converter s
    · split
      · exact shortfallClearTest_countFree s
      · exact shortfallSetTest_countFree hk s
  all_goals rfl

theorem handleTraction_countFree (payload : List Byte) : CountFree p k (handleTraction payload) := by
  intro s
  unfold handleTraction storeTraction
  split
  · rfl
  · rw [brake_counted, countAt_brake]
    exact offerTraction_countFree hk _ _

theorem loseValve_countFree (t : Truck) (cause : ValveCondition) : CountFree p k (loseValve t cause) := by
  intro s
  unfold loseValve
  simp only [getTruck_counted]
  rw [setTruck_counted]
  split
  · exact raise_trigger_countFree hk .valveLost .valveLost _
  · rfl

theorem handleValve_countFree (t : Truck) (payload : List Byte) : CountFree p k (handleValve t payload) := by
  intro s
  unfold handleValve
  split
  · rfl
  · dsimp only
    rw [getTruck_counted, setTruck_counted]
    split
    · exact loseValve_countFree hk t .fault _
    · simp only [getTruck_counted]
      rw [setTruck_counted]

end

end Sys2Proof.Machine
end

section
/-! PROOF. Notices, hand-over and responses as what they make of the C-port (R138 to R141, R154, R164). -/

namespace Sys2Proof.Machine

/-! ## The C-port after a hand-over -/

theorem handOver_c (s : State) (f : OriginatedFrame) :
    handOver s .c f = { s with link := { s.link with cPort := noticedPort s.link.own s.link.cPort f } } := by
  unfold handOver noticedPort
  rcases enterOriginated_cases s .c f with ⟨q, hq, h⟩ | ⟨hq, h⟩
  · have hq' : queueOriginated .c s.link.cPort.originated f = some q := hq
    rw [h, hq', opportunityIfIdle_settle]
    rfl
  · have hq' : queueOriginated .c s.link.cPort.originated f = none := hq
    rw [h, hq']
    rfl

/-- A NOTICE finds room at a free place, or at a waiting NOTICE to the same destination (R138, R139). -/
theorem notice_room_iff {f : OriginatedFrame} (hf : f.cls = 0x44) (waiting : List OriginatedFrame) :
    (queueOriginated .c waiting f).isSome = true ↔
      waiting.length < 8 ∨ ∃ g ∈ waiting, g.cls = 0x44 ∧ g.dst = f.dst := by
  have hsupersedes : supersedes .c f.cls = true := (supersedes_c_iff f.cls).mpr (.inl hf)
  have hany : waiting.any (sameKind f) = true ↔ ∃ g ∈ waiting, g.cls = 0x44 ∧ g.dst = f.dst := by
    rw [List.any_eq_true]
    simp only [sameKind_iff, hf]
  rw [← hany]
  unfold queueOriginated
  rw [hsupersedes, Bool.true_and]
  by_cases h : waiting.any (sameKind f) = true
  · simp [h]
  · rw [if_neg h]
    by_cases hlength : waiting.length < 8
    · simp [hlength, Config.originatedCapacity]
    · simp [hlength, h, Config.originatedCapacity]

/-- Handing over a notice: the mark is cleared exactly when it finds room (R155). -/
theorem handNotice_handOver (s : State) (f : OriginatedFrame) : handNotice s f = { handOver s .c f with
    lines := { s.lines with noticePending :=
      if (queueOriginated .c s.link.cPort.originated f).isSome then false else s.lines.noticePending } } := by
  rw [handNotice_eq, handOver_c]

/-! ## Responses -/

/-- The C-port after a response enters; without room it stays as it is (R164). -/
def responsePort (own : Byte) (ps : PortState) (f : OriginatedFrame) : PortState :=
  match queueOriginated .c ps.originated f with
  | some q => settle own { ps with originated := q }
  | none => ps

theorem enterResponse_eq (f : OriginatedFrame) (s : State) : enterResponse f s =
    { s with link := { s.link with cPort := responsePort s.link.own s.link.cPort f } } := by
  unfold enterResponse responsePort
  rcases enterOriginated_cases s .c f with ⟨q, hq, h⟩ | ⟨hq, h⟩
  · have hq' : queueOriginated .c s.link.cPort.originated f = some q := hq
    rw [h, hq', opportunityIfIdle_settle]
    rfl
  · have hq' : queueOriginated .c s.link.cPort.originated f = none := hq
    rw [h, hq']
    rfl

/-! ## A request that only reads -/

/-- A request taken in its arrival event (R158, R160), with the notices that its frame's event formed before. -/
theorem handRequest_taken (held : List OriginatedFrame) (src : Byte) (payload : List Byte) {s : State} {isB : Bool}
    (hs : slotFor s.management = some isB) (hr : s.link.cPort.originated.length < Config.originatedCapacity) :
    handRequest held src payload s = serve 1 [] (takeRequest held isB
      { s with management := placed s.management (waitingBuffer src payload) }) := by
  have hoccupied := oldestAwaiting_placed s.management (waitingBuffer src payload) isB hs rfl
  have hwaiting : (getBuffer { s with management := placed s.management (waitingBuffer src payload) } isB).state
      = .waiting := by
    unfold getBuffer
    rw [placed_buffer s.management (waitingBuffer src payload) isB hs]
    rfl
  have hserve : serve 2 held { s with management := placed s.management (waitingBuffer src payload) } =
      serve 1 [] (takeRequest held isB { s with management := placed s.management (waitingBuffer src payload) }) := by
    simp [serve, hoccupied, cRoom, hr, hwaiting]
  rw [← hserve]
  unfold handRequest
  cases isB
  · obtain ⟨ha, _⟩ := slotFor_a _ hs
    simp [ha, placed, hs]
  · obtain ⟨ha, hb⟩ := slotFor_b _ hs
    simp [ha, hb, placed, hs]

/-- A request whose judgment changes nothing: answered, and the notices follow the response (R172). -/
theorem handRequest_unchanged (held : List OriginatedFrame) (src : Byte) (payload : List Byte) {s : State}
    (hslot : slotFor s.management ≠ none) (hroom : s.link.cPort.originated.length < Config.originatedCapacity)
    {r : ResultCode} {data : List Byte}
    (hjudge : judge (waitingBuffer src payload)
        { s with management := placed s.management (waitingBuffer src payload), deferred := some held } =
      ({ s with management := placed s.management (waitingBuffer src payload), deferred := some held },
        .answer r data)) :
    handRequest held src payload s = handNotices held
      { enterResponse (responseTo (waitingBuffer src payload) r data) s with
        management := placed s.management Buffer.free
        deferred := none } := by
  obtain ⟨isB, hs⟩ := Option.ne_none_iff_exists'.mp hslot
  have hbuffer := placed_buffer s.management (waitingBuffer src payload) isB hs
  have hfree : ∀ u : State, u.management = placed s.management (waitingBuffer src payload) →
      setBuffer u isB Buffer.free = { u with management := placed s.management Buffer.free } := by
    intro u hu
    cases isB <;> simp [setBuffer, hu, placed, hs]
  rw [handRequest_taken held src payload hs hroom]
  unfold takeRequest getBuffer
  dsimp only
  rw [hbuffer, hjudge]
  dsimp only
  rw [hfree _ (by rw [enterResponse_management]), enterResponse_eq]
  unfold serve
  rw [flushNotices_management, oldestAwaiting_placed_free _ hslot, enterResponse_eq]
  rfl

end Sys2Proof.Machine
end

section
/-! PROOF. Accepted frames (O8): the refreshed node, the consumption by the role's owner, and the hand-over of
requests. -/

namespace Sys2Proof.Machine

/-! ## Owners of consumed frames (R133) -/

/-- The command that a frame of a role's node stands for at its owner (R133). -/
def consumedAs (p : Port) (role : Option Role) (gap : Bool) (f : Frame) : Option Instr :=
  match p, role with
  | .c, some .cabA => if f.cls = 0x21 then some (.demandFrame .cabA gap f) else none
  | .c, some .cabB => if f.cls = 0x21 then some (.demandFrame .cabB gap f) else none
  | .c, some .dp => if f.cls = 0x21 then some (.demandFrame .dp gap f) else none
  | .c, some .locoComputer => if f.cls = 0x28 then some (.timeFrame f.payload) else none
  | .e, some .axleConc => if f.cls = 0x61 then some (.axleSample f.payload) else none
  | .e, some .radar => if f.cls = 0x62 then some (.radarSample f.payload) else none
  | .e, some .traction => if f.cls = 0x68 then some (.tractionStatus f.payload) else none
  | .e, some .valveT1 => if f.cls = 0x6C then some (.valveStatus .t1 f.payload) else none
  | .e, some .valveT2 => if f.cls = 0x6C then some (.valveStatus .t2 f.payload) else none
  | _, _ => none

/-- The effect of the command of a consumed frame. -/
def ownerEffect : Instr → State → State
  | .demandFrame k gap f => deliverDemand k gap f
  | .timeFrame payload => handleTime payload
  | .axleSample payload => handleAxleSample payload
  | .radarSample payload => handleRadarSample payload
  | .tractionStatus payload => handleTraction payload
  | .valveStatus t payload => handleValve t payload
  | _ => id

theorem ownerEffect_countFree {p : Port} {k : PortCounters → PortCounters} (hk : Plain k) (c : Instr) :
    CountFree p k (ownerEffect c) := by
  cases c
  case demandFrame j gap f => exact deliverDemand_countFree hk j gap f
  case timeFrame payload => exact handleTime_countFree payload
  case axleSample payload => exact handleAxleSample_countFree hk payload
  case radarSample payload => exact handleRadarSample_countFree payload
  case tractionStatus payload => exact handleTraction_countFree hk payload
  case valveStatus t payload => exact handleValve_countFree hk t payload
  all_goals exact fun _ => rfl

theorem deliverConsumed_eq (p : Port) (r : Role) (gap : Bool) (f : Frame) (s : State) :
    deliverConsumed p r gap f s = match consumedAs p (some r) gap f with
      | some c => ownerEffect c s
      | none => s := by
  have hclass : ∀ (cls : Byte) (c : Instr), (if f.cls = cls then ownerEffect c s else s) =
      match (if f.cls = cls then some c else none) with
      | some c => ownerEffect c s
      | none => s := fun cls c => by split <;> rfl
  cases p
  · cases r
    case cabA => exact hclass 0x21 (.demandFrame .cabA gap f)
    case cabB => exact hclass 0x21 (.demandFrame .cabB gap f)
    case dp => exact hclass 0x21 (.demandFrame .dp gap f)
    case locoComputer => exact hclass 0x28 (.timeFrame f.payload)
    all_goals rfl
  · cases r
    case axleConc => exact hclass 0x61 (.axleSample f.payload)
    case radar => exact hclass 0x62 (.radarSample f.payload)
    case traction => exact hclass 0x68 (.tractionStatus f.payload)
    case valveT1 => exact hclass 0x6C (.valveStatus .t1 f.payload)
    case valveT2 => exact hclass 0x6C (.valveStatus .t2 f.payload)
    all_goals rfl

/-- The owner's event is that of its command. -/
theorem exec_consumed {p : Port} {role : Option Role} {gap : Bool} {f : Frame} {c : Instr}
    (h : consumedAs p role gap f = some c) (u : State) : exec c u = event u (ownerEffect c) := by
  unfold consumedAs at h
  repeat' split at h
  all_goals cases h
  all_goals rfl

/-- The entry of a node that delivers to the owner of its role (R133). -/
def Delivers (ts : Tables) (i : Nat) : Prop :=
  ∀ r, nodeRole ts i = some r → r = .locoComputer ∨ binding ts r = some i

theorem consume_delivers {p : Port} {i : Nat} {gap : Bool} {f : Frame} {u : State} (h : Delivers u.tables i) :
    consume p i gap f u = match consumedAs p (nodeRole u.tables i) gap f with
      | some c => ownerEffect c u
      | none => u := by
  unfold consume
  cases hrole : nodeRole u.tables i with
  | none => cases p <;> rfl
  | some r =>
    have hbound : ¬ (r.singleton && decide (binding u.tables r ≠ some i)) = true := by
      rcases h r hrole with rfl | hb
      · exact Bool.false_ne_true
      · simp [hb]
    dsimp only
    rw [if_neg hbound, deliverConsumed_eq]

/-- An entry that does not hold its role's binding delivers nothing: where its role has an owner, it is a singleton. -/
theorem consume_undelivered {p : Port} {i : Nat} {gap : Bool} {f : Frame} {u : State} (h : ¬ Delivers u.tables i) :
    consume p i gap f u = u := by
  unfold Delivers at h
  push Not at h
  obtain ⟨r, hrole, hloco, hbinding⟩ := h
  unfold consume
  rw [hrole]
  dsimp only
  split
  · rfl
  next hsingle =>
    rw [deliverConsumed_eq]
    cases r
    case locoComputer => exact absurd rfl hloco
    case recorder | tool | other => cases p <;> rfl
    all_goals exact absurd (by simp [Role.singleton, hbinding]) hsingle

/-! ## What stage 6 leaves -/

/-- The forwarding decision leaves everything but the ports, and of the flags all but QUEUE_OVERFLOW. -/
structure ForwardOnly (s t : State) : Prop where
  frame : t = { withNotices s t with link := { s.link with cPort := t.link.cPort, ePort := t.link.ePort } }
  flags : ∀ x : Flag, x ≠ .queueOverflow → flagSet t x = flagSet s x

theorem countAt_forwardOnly (s : State) (p : Port) (k : PortCounters → PortCounters) : ForwardOnly s (countAt s p k) := by
  cases p <;> exact ⟨rfl, fun _ _ => rfl⟩

theorem ForwardOnly.trans {a b c : State} (h : ForwardOnly a b) (k : ForwardOnly b c) : ForwardOnly a c := by
  refine ⟨?_, fun x hx => (k.flags x hx).trans (h.flags x hx)⟩
  rw [k.frame, h.frame]
  rfl

theorem overflow_forwardOnly (s : State) : ForwardOnly s (raise .queueOverflow s) := by
  refine ⟨?_, fun x hx => (raise_rises .queueOverflow s).flags.unchanged (by simpa using hx) (by simp)⟩
  rw [raise_frame]
  rfl

theorem forwardFrame_forwardOnly (p : Port) (raw : List Byte) (cls : Byte) (s : State) :
    ForwardOnly s (forwardFrame p raw cls s) := by
  unfold forwardFrame
  split
  · split
    · unfold enterForward
      rw [opportunityIfIdle_settle]
      cases p <;> exact ⟨rfl, fun _ _ => rfl⟩
    · exact (countAt_forwardOnly s p _).trans (overflow_forwardOnly _)
  · exact countAt_forwardOnly s p _

theorem forwardFrame_rxGood (p : Port) (raw : List Byte) (cls : Byte) (s : State) :
    (getPort (forwardFrame p raw cls s) p).counters.rxGood = (getPort s p).counters.rxGood := by
  unfold forwardFrame
  split
  · split
    · rw [enterForward_other]
    · obtain ⟨-, d, h⟩ := overflow_ports p s
      rw [h]
  · rw [getPort_countAt_same]

/-! ## Frames that are not to the own address -/

theorem acceptedState_link (p : Port) (bytes : List Byte) (s : State) :
    acceptedState p bytes s = { s with link := (acceptedState p bytes s).link } := by
  unfold acceptedState
  dsimp only
  split <;> cases p <;> rfl

theorem acceptedState_known {p : Port} {bytes : List Byte} {s : State} {i : Nat}
    (hnode : lookupNode s.tables p (parseFrame bytes).src = some i) :
    acceptedState p bytes s =
      (let gap := decide (∃ x, (getNode s i).lastSeq = some x ∧ (parseFrame bytes).seq ≠ x + 1)
      let refreshed : NodeRuntime := { getNode s i with
        lastSeq := some (parseFrame bytes).seq
        good := bump (getNode s i).good
        gap := if gap then bump (getNode s i).gap else (getNode s i).gap
        liveness := .live
        timer := if nodeTimeout s.tables i = 0 then .stopped else .running 0 }
      setNode (setPort s p { getPort s p with counters := { (getPort s p).counters with
        rxGood := bump (getPort s p).counters.rxGood } }) i refreshed) := by
  unfold acceptedState
  rw [hnode]
  rfl

/-- What an accepted frame that is not to the own address leaves of the parts that no owner holds. -/
theorem accepted_stands {p : Port} {bytes : List Byte} {s : State} :
    let t := syncOutputs (forwardFrame p bytes (parseFrame bytes).cls (consumedState p bytes s))
    t.link.nodes = (acceptedState p bytes s).link.nodes
    ∧ (getPort t p).counters.rxGood = bump (getPort s p).counters.rxGood
    ∧ t.link.own = s.link.own ∧ t.tables = s.tables ∧ t.management = s.management := by
  intro t
  have hforward := (forwardFrame_forwardOnly p bytes (parseFrame bytes).cls (consumedState p bytes s)).frame
  have hreach := consumedState_toPorts p bytes s
  have hmanagement : (acceptedState p bytes s).management = s.management := by
    unfold acceptedState
    dsimp only
    split <;> simp
  obtain ⟨d, hcounters⟩ := hreach.counters
  refine ⟨?_, ?_, ?_, ?_, ?_⟩
  · show (forwardFrame p bytes _ _).link.nodes = _
    rw [hforward, ← hreach.nodes]
  · rw [syncOutputs_getPort, forwardFrame_rxGood, hcounters]
  · show (forwardFrame p bytes _ _).link.own = _
    rw [hforward, ← acceptedState_own p bytes s, ← hreach.own]
  · show (forwardFrame p bytes _ _).tables = _
    rw [hforward, ← acceptedState_tables p bytes s, ← hreach.tables]
    rfl
  · show (forwardFrame p bytes _ _).management = _
    rw [hforward, ← hmanagement, ← hreach.management]
    rfl

theorem consume_control (p : Port) (i : Nat) (gap : Bool) (f : Frame) (s : State) :
    (consume p i gap f s).control = { s.control with timeBase := (consume p i gap f s).control.timeBase } := by
  rcases consume_owner p i gap f s with h | ⟨b, h⟩
  · rw [h.frame]
    rfl
  · rw [h]

/-- The parts of an accepted frame's end state that are its owner's. -/
theorem forwarded_parts (p : Port) (raw : List Byte) (cls : Byte) (v : State) :
    let t := syncOutputs (forwardFrame p raw cls v)
    t.authority = v.authority ∧ t.slide = v.slide ∧ t.brake = v.brake ∧ t.air = v.air ∧ t.control = v.control
    ∧ t.recorder = v.recorder ∧ ∀ x : Flag, x ≠ .queueOverflow → flagSet t x = flagSet v x := by
  intro t
  obtain ⟨hframe, hflags⟩ := forwardFrame_forwardOnly p raw cls v
  refine ⟨?_, ?_, ?_, ?_, ?_, ?_, hflags⟩
  · exact (congrArg State.authority hframe).trans rfl
  · exact (congrArg State.slide hframe).trans rfl
  · exact (congrArg State.brake hframe).trans rfl
  · exact (congrArg State.air hframe).trans rfl
  · exact (congrArg State.control hframe).trans rfl
  · exact (congrArg State.recorder hframe).trans rfl

/-- A frame of a known node that is accepted, and not to the own address (R131, R133, R142). -/
theorem accepted_known (p : Port) (bytes : List Byte) (i : Nat) (s : State) (hr : s.inReset = false)
    (hgood : receiveStatus bytes = .good) (hnode : lookupNode s.tables p (parseFrame bytes).src = some i)
    (hseq : (getNode s i).lastSeq ≠ some (parseFrame bytes).seq) (hdst : (parseFrame bytes).dst ≠ s.link.own) :
    let f := parseFrame bytes
    let gap := decide (∃ x, (getNode s i).lastSeq = some x ∧ f.seq ≠ x + 1)
    let offered := offerFrame p f (acceptedState p bytes s)
    let owner := consumedAs p (nodeRole s.tables i) gap f
    let arrival := exec (.frameArrival p bytes) s
    (∃ t, arrival = .next t
      ∧ t.link.nodes = (acceptedState p bytes s).link.nodes
      ∧ (getPort t p).counters.rxGood = bump (getPort s p).counters.rxGood
      ∧ t.link.own = s.link.own ∧ t.tables = s.tables ∧ t.management = s.management
      ∧ t.control = { s.control with timeBase := t.control.timeBase })
    ∧ (∀ c, owner = some c → Delivers s.tables i →
      (¬ passes s p f.cls = true → arrival = exec c (setPort offered p { getPort offered p with
        counters := { (getPort offered p).counters with notPassed := bump (getPort s p).counters.notPassed } }))
      ∧ ∃ t, arrival = .next t ∧ ∀ v, exec c offered = .next v →
        t.authority = v.authority ∧ t.slide = v.slide ∧ t.brake = v.brake ∧ t.air = v.air ∧ t.control = v.control
        ∧ t.recorder = v.recorder ∧ ∀ x : Flag, x ≠ .queueOverflow → flagSet t x = flagSet v x)
    ∧ (owner = none ∨ ¬ Delivers s.tables i → ∃ t, arrival = .next t
      ∧ t.authority = s.authority ∧ t.slide = s.slide ∧ t.brake = s.brake ∧ t.air = s.air ∧ t.control = s.control
      ∧ t.recorder = offered.recorder) := by
  intro f gap offered owner arrival
  have hoffered : offered.tables = s.tables := by
    show (offerFrame _ _ _).tables = _
    rw [offerFrame_tables, acceptedState_tables]
  have hconsumed : consumedState p bytes s = consume p i gap f offered := by
    unfold consumedState
    dsimp only
    rw [hnode]
  have harrival : arrival = .next (syncOutputs (forwardFrame p bytes f.cls (consume p i gap f offered))) := by
    show exec _ _ = _
    rw [exec_frameArrival p bytes hr, handleArrival_forwarded hgood hdst
      (fun j hj => by rw [hnode] at hj; cases hj; exact hseq) (fun hn => by rw [hnode] at hn; cases hn), hconsumed]
  have hparts := forwarded_parts p bytes f.cls (consume p i gap f offered)
  have hreach := consumedState_toPorts p bytes s
  refine ⟨⟨_, harrival, ?_⟩, fun c howner hbound => ⟨fun hpass => ?_, _, harrival, fun v hv => ?_⟩,
    fun hnone => ⟨_, harrival, ?_⟩⟩
  · obtain ⟨hnodes, hgoods, hown, htables, hmanagement⟩ := accepted_stands (p := p) (bytes := bytes) (s := s)
    rw [hconsumed] at hnodes hgoods hown htables hmanagement
    refine ⟨hnodes, hgoods, hown, htables, hmanagement, ?_⟩
    rw [hparts.2.2.2.2.1, consume_control]
    show _ = ({ s.control with timeBase := _ } : Control)
    rw [offerFrame_control, acceptedState_control]
  · have howned : consume p i gap f offered = ownerEffect c offered := by
      have howner' : consumedAs p (nodeRole s.tables i) gap f = some c := howner
      rw [consume_delivers (by rw [hoffered]; exact hbound), hoffered, howner']
    have hlive : offered.inReset = false := by
      show (offerFrame _ _ _).inReset = false
      rw [offerFrame_inReset, acceptedState_link]
      exact hr
    have hcount : setPort offered p { getPort offered p with counters := { (getPort offered p).counters with
        notPassed := bump (getPort s p).counters.notPassed } }
        = countAt offered p (fun k => { k with notPassed := bump k.notPassed }) := by
      obtain ⟨d, hcounters⟩ := (offerFrame_moves p f (acceptedState p bytes s)).owner.toPorts.counters
      unfold countAt
      rw [hcounters]
    have hrefused : ¬ passes (consume p i gap f offered) p f.cls = true := by
      rw [passes_iff] at hpass ⊢
      rw [← hconsumed, hreach.tables, hreach.mode, acceptedState_tables, acceptedState_control]
      exact hpass
    rw [harrival, forwardFrame_refused hrefused, hcount, exec_consumed howner, event_live _ _ (by simpa using hlive),
      ownerEffect_countFree (fun _ _ => rfl) c, howned]
  · have howned : consume p i gap f offered = ownerEffect c offered := by
      have howner' : consumedAs p (nodeRole s.tables i) gap f = some c := howner
      rw [consume_delivers (by rw [hoffered]; exact hbound), hoffered, howner']
    have hlive : offered.inReset = false := by
      show (offerFrame _ _ _).inReset = false
      rw [offerFrame_inReset, acceptedState_link]
      exact hr
    rw [exec_consumed howner, event_live _ _ hlive] at hv
    obtain rfl := Host.Outcome.next.inj hv
    rw [← howned]
    exact hparts
  · have hkept : consume p i gap f offered = offered := by
      by_cases hd : Delivers offered.tables i
      · rw [consume_delivers hd, hoffered]
        rcases hnone with hn | hn
        · have hnone' : consumedAs p (nodeRole s.tables i) gap f = none := hn
          rw [hnone']
        · exact absurd (hoffered ▸ hd) hn
      · exact consume_undelivered hd
    rw [hkept] at hparts ⊢
    obtain ⟨ha, hk, hb, hx, hc, hrec, -⟩ := hparts
    have hstand : offered.authority = s.authority ∧ offered.slide = s.slide ∧ offered.brake = s.brake
        ∧ offered.air = s.air ∧ offered.control = s.control := by
      show (offerFrame p f (acceptedState p bytes s)).authority = _ ∧ (offerFrame p f (acceptedState p bytes s)).slide = _
        ∧ (offerFrame p f (acceptedState p bytes s)).brake = _ ∧ (offerFrame p f (acceptedState p bytes s)).air = _
        ∧ (offerFrame p f (acceptedState p bytes s)).control = _
      rw [offerFrame_authority, offerFrame_slide, offerFrame_brake, offerFrame_air, offerFrame_control,
        acceptedState_link]
      exact ⟨rfl, rfl, rfl, rfl, rfl⟩
    obtain ⟨h1, h2, h3, h4, h5⟩ := hstand
    exact ⟨ha.trans h1, hk.trans h2, hb.trans h3, hx.trans h4, hc.trans h5, hrec⟩

end Sys2Proof.Machine
end

section
/-! PROOF. Requests to the own address (R132): the notice that a request's own frame forms, and its place after the
response (R172). -/

namespace Sys2Proof.Machine

/-! ## The notices that a pattern offer forms -/

/-- At most one notice is kept, and it stands for the rise of INCIDENT_LOST. -/
def KeepsOne (s : State) : Prop :=
  s.deferred = some [] ∨ (∃ n, s.deferred = some [n] ∧ n.cls = Config.clsNotice) ∧ flagSet s .incidentLost = true

theorem raise_keepsOne {s : State} (h : KeepsOne s) : KeepsOne (raise .incidentLost s) := by
  by_cases hset : flagSet s .incidentLost = true
  · rw [raise_of_set hset]
    exact h
  rcases h with hempty | ⟨-, hlost⟩
  · by_cases hnotice : noticeEnabled s.tables .incidentLost = true ∧ noticeNode s.tables ≠ 0
    · refine .inr ⟨⟨formNotice { s with lines := { s.lines with
      flags := s.lines.flags ||| flagMask .incidentLost, noticePending := true } }, ?_, rfl⟩,
      flagSet_raise_self s .incidentLost⟩
      unfold raise notify
      rw [if_neg hset]
      dsimp only
      rw [if_pos hnotice.1, if_neg hnotice.2, hempty]
      rfl
    · refine .inl ?_
      unfold raise notify
      rw [if_neg hset]
      dsimp only
      split
      next henabled =>
        rw [if_pos (by_contra fun hn => hnotice ⟨henabled, hn⟩)]
        exact hempty
      · exact hempty
  · exact absurd hlost hset

theorem deliverTrigger_keepsOne {s : State} (h : KeepsOne s) (kind : TriggerKind) (frame : Option Capture)
    (have_ : Option Nat) : KeepsOne (deliverTrigger s kind frame have_).1 := by
  have hrecorder : ∀ r : Recorder, KeepsOne { s with recorder := r } := fun r => h
  rcases deliverTrigger_cases s kind frame have_ with ⟨-, heq⟩ | ⟨-, -, ⟨-, heq⟩ | ⟨i, -, heq⟩⟩ <;> rw [heq]
  · exact h
  · unfold openIncident
    dsimp only
    split
    · exact raise_keepsOne (hrecorder _)
    · split
      · exact h
      · split
        · exact (raise_keepsOne (hrecorder { s.recorder with overwrites := bump16 s.recorder.overwrites }))
        · exact raise_keepsOne (hrecorder _)
  · exact h

theorem foldl_offer_keepsOne (port : Port) (f : Frame) (ps : List (Fin 8)) (acc : State × Option Nat)
    (h : KeepsOne acc.1) : KeepsOne (ps.foldl (offerToPattern port f) acc).1 := by
  induction ps generalizing acc with
  | nil => exact h
  | cons p ps ih =>
    refine ih _ ?_
    unfold offerToPattern
    dsimp only
    split
    · exact deliverTrigger_keepsOne h _ _ _
    · exact h

theorem offerFrame_keepsOne (port : Port) (f : Frame) {s : State} (h : KeepsOne s) : KeepsOne (offerFrame port f s) := by
  unfold offerFrame
  split
  · exact foldl_offer_keepsOne port f patternNumbers (s, none) h
  · exact h

/-! ## The judgment of a STATUS_GET -/

/-- A STATUS_GET is refused or answered, changes nothing, and its answer does not depend on the notices kept. -/
theorem judge_statusGet (src tag sect : Byte) (u : State) : ∃ r data, ∀ d : Option (List OriginatedFrame),
    judge (waitingBuffer src [tag, 1, sect]) { u with deferred := d } = ({ u with deferred := d }, .answer r data) := by
  by_cases hpermitted : permitted u .statusGet src = true
  · have hown : ∀ d : Option (List OriginatedFrame), judge (waitingBuffer src [tag, 1, sect]) { u with deferred := d }
        = ownStatusGet [sect] { u with deferred := d } := fun d =>
      judge_own { u with deferred := d } src tag .statusGet [sect] hpermitted rfl rfl
    cases hsection : statusSection u (fieldAt [sect] 0 1) with
    | some data =>
      refine ⟨.ok, data, fun d => ?_⟩
      have hsame : statusSection { u with deferred := d } (fieldAt [sect] 0 1) = some data := hsection
      rw [hown d, ownStatusGet, hsame]
    | none =>
      refine ⟨.badArg, [], fun d => ?_⟩
      have hsame : statusSection { u with deferred := d } (fieldAt [sect] 0 1) = none := hsection
      rw [hown d, ownStatusGet, hsame]
  · refine ⟨.notPermitted, [], fun d => ?_⟩
    have hcommand : commandOfCode 1 = some .statusGet := commandOfCode_commandCode .statusGet
    have hrefused : ¬ permitted { u with deferred := d } .statusGet src = true := hpermitted
    unfold judge waitingBuffer
    dsimp only [List.getElem?_cons_zero, List.getElem?_cons_succ]
    rw [hcommand]
    dsimp only
    rw [Bool.eq_false_iff.mpr hrefused]
    rfl

/-! ## The hand-over -/

/-- A notice of a STATUS_GET's own frame is handed over after the response (R172). -/
theorem handRequest_notice (src tag sect : Byte) {s : State} {n : OriginatedFrame} (hn : n.cls = 0x44)
    (hready : Ready s) :
    let v := syncOutputs (handRequest [] src [tag, 1, sect] s)
    syncOutputs (handRequest [n] src [tag, 1, sect] s) =
      (let waiting := v.link.cPort.originated
      let room := waiting.length < 8 ∨ ∃ g ∈ waiting, g.cls = 0x44 ∧ g.dst = n.dst
      let given := handOver v .c n
      syncOutputs { given with
        lines := { given.lines with noticePending := if room then false else given.lines.noticePending } }) := by
  obtain ⟨-, hslot, hroom⟩ := hready
  obtain ⟨r, data, hjudge⟩ := judge_statusGet src tag sect
    { s with management := placed s.management (waitingBuffer src [tag, 1, sect]) }
  rw [handRequest_unchanged [n] src [tag, 1, sect] hslot hroom (hjudge (some [n])),
    handRequest_unchanged [] src [tag, 1, sect] hslot hroom (hjudge (some []))]
  intro v
  dsimp only [handNotices, List.foldl]
  rw [handNotice_handOver, handOver_c, handOver_c]
  simp only [notice_room_iff hn]
  rfl

/-- A GOOD request to the own address, of a known node or in INIT, is handed to the Management Unit (R132). -/
theorem handleArrival_request {bytes : List Byte} {s : State} (hgood : receiveStatus bytes = .good)
    (hdst : (parseFrame bytes).dst = s.link.own) (hcls : (parseFrame bytes).cls = 0x40)
    (hseq : ∀ i, lookupNode s.tables .c (parseFrame bytes).src = some i →
      (getNode s i).lastSeq ≠ some (parseFrame bytes).seq)
    (hknown : lookupNode s.tables .c (parseFrame bytes).src ≠ none ∨ s.control.mode = .init) :
    handleArrival .c bytes s =
      (let f := parseFrame bytes
      let offered := offerFrame .c f { acceptedState .c bytes s with deferred := some [] }
      handRequest (offered.deferred.getD []) f.src f.payload { offered with deferred := s.deferred }) := by
  have hdeferred : (acceptedState .c bytes s).deferred = s.deferred := by rw [acceptedState_link]
  have hgiven : ∀ known : Bool, known = (lookupNode s.tables .c (parseFrame bytes).src).isSome →
      handleOwn .c known (parseFrame bytes) (acceptedState .c bytes s) =
        (let f := parseFrame bytes
        let offered := offerFrame .c f { acceptedState .c bytes s with deferred := some [] }
        handRequest (offered.deferred.getD []) f.src f.payload { offered with deferred := s.deferred }) := by
    intro known hk
    have hover : ownHandedOver (acceptedState .c bytes s).control.mode .c (parseFrame bytes).cls known = true := by
      rw [acceptedState_control, hcls, hk]
      rcases hknown with hnode | hinit
      · simp [ownHandedOver, Option.isSome_iff_ne_none.mpr hnode, Config.clsMgmtRequest]
      · simp [ownHandedOver, hinit, Config.clsMgmtRequest]
    unfold handleOwn
    rw [if_pos hover, hdeferred]
  rw [handleArrival_accepted hgood hseq (fun _ => rfl)]
  cases hnode : lookupNode s.tables .c (parseFrame bytes).src with
  | none =>
    unfold handleUnknown
    dsimp only
    rw [acceptedState_own, if_pos hdst]
    exact hgiven false (by rw [hnode]; rfl)
  | some i =>
    unfold handleAccepted
    dsimp only
    rw [acceptedState_own, if_pos hdst]
    exact hgiven true (by rw [hnode]; rfl)

theorem acceptedState_request (bytes : List Byte) (s : State) : acceptedState .c bytes s =
    (let f := parseFrame bytes
    let counted := setPort s .c { s.link.cPort with counters := { s.link.cPort.counters with
      rxGood := bump s.link.cPort.counters.rxGood } }
    match lookupNode s.tables .c f.src with
      | some i => setNode counted i { getNode s i with
          lastSeq := some f.seq
          good := bump (getNode s i).good
          gap := if (∃ x, (getNode s i).lastSeq = some x ∧ f.seq ≠ x + 1)
            then bump (getNode s i).gap else (getNode s i).gap
          liveness := .live
          timer := if nodeTimeout s.tables i = 0 then .stopped else .running 0 }
      | none => counted) := by
  unfold acceptedState
  dsimp only
  cases lookupNode s.tables .c (parseFrame bytes).src with
  | none => rfl
  | some i =>
    simp only [acceptNode_eq, decide_eq_true_iff]
    rfl

/-- Requests to the own address (R132, R172). -/
theorem accepted_request (bytes : List Byte) (s : State) (hr : s.inReset = false)
    (hgood : receiveStatus bytes = .good) (hdst : (parseFrame bytes).dst = s.link.own)
    (hcls : (parseFrame bytes).cls = 0x40)
    (hseq : ∀ i, lookupNode s.tables .c (parseFrame bytes).src = some i →
      (getNode s i).lastSeq ≠ some (parseFrame bytes).seq)
    (hknown : lookupNode s.tables .c (parseFrame bytes).src ≠ none ∨ s.control.mode = .init) :
    let f := parseFrame bytes
    let offered := offerFrame .c f { acceptedState .c bytes s with deferred := some [] }
    let request := { offered with deferred := s.deferred }
    let arrival := exec (.frameArrival .c bytes) s
    (∃ formed, offered.deferred = some formed ∧ formed.length ≤ 1)
    ∧ (offered.deferred = some [] → arrival = exec (.mgmtRequest f.src f.payload) request)
    ∧ ∀ n, offered.deferred = some [n] → Ready request → ∀ tag sect, f.payload = [tag, 1, sect] →
      ∃ v, exec (.mgmtRequest f.src f.payload) request = .next v
      ∧ (let waiting := v.link.cPort.originated
        let room := waiting.length < 8 ∨ ∃ g ∈ waiting, g.cls = 0x44 ∧ g.dst = n.dst
        let given := handOver v .c n
        arrival = .next (syncOutputs { given with
          lines := { given.lines with noticePending := if room then false else given.lines.noticePending } })) := by
  intro f offered request arrival
  have hkept : KeepsOne offered := offerFrame_keepsOne .c f (.inl rfl)
  have hlive : request.inReset = false := by
    show (offerFrame .c f { acceptedState .c bytes s with deferred := some [] }).inReset = false
    rw [offerFrame_inReset, acceptedState_link]
    exact hr
  have harrival : arrival = .next (syncOutputs (handRequest (offered.deferred.getD []) f.src f.payload request)) := by
    show exec _ _ = _
    rw [exec_frameArrival .c bytes hr, handleArrival_request hgood hdst hcls hseq hknown]
  have hexec : exec (.mgmtRequest f.src f.payload) request =
      .next (syncOutputs (handRequest [] f.src f.payload request)) := event_live _ _ hlive
  refine ⟨?_, fun hempty => ?_, fun n hone hready tag sect hpayload => ⟨_, hexec, ?_⟩⟩
  · rcases hkept with h | ⟨⟨n, h, -⟩, -⟩
    · exact ⟨[], h, by simp⟩
    · exact ⟨[n], h, by simp⟩
  · rw [harrival, hexec, hempty]
    rfl
  · have hcls : n.cls = 0x44 := by
      rcases hkept with h | ⟨⟨m, h, hm⟩, -⟩
      · rw [h] at hone
        cases hone
      · rw [h] at hone
        cases hone
        exact hm
    rw [harrival, hone, hpayload]
    exact congrArg _ (handRequest_notice f.src tag sect hcls hready)

/-- Settles O8. -/
theorem acceptedFrameRefreshesNode : Obligations.AcceptedFrameRefreshesNode := by
  unfold Obligations.AcceptedFrameRefreshesNode
  refine ⟨fun p bytes i s hr hgood hnode hseq hdst => ?_, fun bytes s hr hgood hdst hcls => ?_⟩
  · have h := accepted_known p bytes i s hr hgood hnode hseq hdst
    simp only [acceptedState_known hnode, setNode_nodes, setPort_nodes, passes_iff] at h
    exact h
  · intro f node hseq hknown
    have h := accepted_request bytes s hr hgood hdst hcls hseq hknown
    rw [acceptedState_request] at h
    exact h

end Sys2Proof.Machine
end

section
/-! PROOF. The completion of a transmission (O11): the next frame, and what room in the C-port queue serves. -/

namespace Sys2Proof.Machine

/-! ## What waits for room -/

theorem serve_none {u : State} (h : oldestAwaiting u.management = none) (n : Nat) : serve n [] u = u := by
  cases n with
  | zero => rfl
  | succ n =>
    unfold serve
    rw [h]
    rfl

theorem serve_full {u : State} (h : cRoom u = false) (n : Nat) : serve n [] u = u := by
  cases n with
  | zero => rfl
  | succ n =>
    unfold serve
    rw [h]
    split <;> rfl

theorem serve_held {u : State} {isB : Bool} {f : OriginatedFrame} (hold : oldestAwaiting u.management = some isB)
    (hroom : cRoom u = true) (hheld : (getBuffer u isB).state = .held) (hresponse : (getBuffer u isB).response = some f)
    (n : Nat) : serve (n + 1) [] u = serve n [] (setBuffer (enterResponse f u) isB Buffer.free) := by
  rw [serve, hold]
  dsimp only
  rw [hroom, if_neg (by simp), if_pos hheld]
  unfold enterHeld
  rw [hresponse]

/-- A response behind a frame that is being sent enters at the tail (R138). -/
theorem enterResponse_behind {u : State} {f : OriginatedFrame} (hf : f.cls = 0x41)
    (hbusy : u.link.cPort.transmitter ≠ .idle) (hroom : u.link.cPort.originated.length < 8) :
    enterResponse f u = { u with link := { u.link with cPort := { u.link.cPort with
      originated := u.link.cPort.originated ++ [f] } } } := by
  rw [enterResponse_room u f hf hroom, opportunityIfIdle_eq]
  cases htransmitter : u.link.cPort.transmitter with
  | idle => exact absurd htransmitter hbusy
  | sending o b m =>
    simp only [getPort, setPort_c_cPort, htransmitter]
    rfl

/-- The state after a notice formed and handed over while the mark stands (R155). -/
def noticedAnew (u : State) : State :=
  let notice := formNotice u
  let waiting := u.link.cPort.originated
  let room := waiting.length < 8 ∨ ∃ g ∈ waiting, g.cls = 0x44 ∧ g.dst = notice.dst
  let given := handOver u .c notice
  { given with lines := { given.lines with noticePending := !decide room } }

theorem handNotice_formNotice {u : State} (h : u.lines.noticePending = true) :
    handNotice u (formNotice u) = noticedAnew u := by
  have hroom := notice_room_iff (f := formNotice u) rfl u.link.cPort.originated
  unfold noticedAnew
  dsimp only
  rw [handNotice_handOver, h]
  by_cases hq : (queueOriginated .c u.link.cPort.originated (formNotice u)).isSome = true
  · rw [if_pos hq, decide_eq_true (hroom.mp hq), handOver_c]
    rfl
  · rw [if_neg hq, decide_eq_false (fun hr => hq (hroom.mpr hr)), handOver_c]
    rfl

/-- What follows once the held requests have been served (R155). -/
theorem reformNotice_between {u : State} (hd : u.deferred = none) : reformNotice u =
    if u.lines.noticePending = true ∧ noticeNode u.tables ≠ 0 then noticedAnew u else u := by
  unfold reformNotice notify
  rw [hd]
  dsimp only
  by_cases hpending : u.lines.noticePending = true
  · by_cases hnode : noticeNode u.tables = 0
    · rw [if_pos hpending, if_pos hnode, if_neg (fun h => h.2 hnode)]
    · rw [if_pos hpending, if_neg hnode, if_pos ⟨hpending, hnode⟩, handNotice_formNotice hpending]
  · rw [if_neg hpending, if_neg (fun h => hpending h.1)]

theorem reformNotice_quiet {u : State} (h : u.lines.noticePending = false ∨ noticeNode u.tables = 0) :
    reformNotice u = u := by
  unfold reformNotice notify
  rcases h with h | h
  · rw [h]
    rfl
  · rw [if_pos h, ite_self]

/-! ## The state after the completion -/

/-- A port whose transmitter has completed its frame and taken the next one (R140, R141). -/
def afterFrame (own : Byte) (originated : Bool) (bytes : List Byte) (micros : Nat) (ps : PortState) : PortState :=
  takeNext own (micros - lineMicros bytes) { ps with counters := countSent originated ps.counters }

theorem completeTransmission_idle {p : Port} {s : State} (h : (getPort s p).transmitter = .idle) :
    completeTransmission p s = s := by
  unfold completeTransmission
  rw [h]

theorem completeTransmission_sending {p : Port} {s : State} {originated : Bool} {bytes : List Byte} {micros : Nat}
    (h : (getPort s p).transmitter = .sending originated bytes micros) :
    completeTransmission p s =
      (let sent := setPort s p (afterFrame s.link.own originated bytes micros (getPort s p))
      if cFull s && cRoom sent then roomAppeared sent else sent) := by
  unfold completeTransmission
  rw [h]
  dsimp only
  rw [opportunity_eq, getPort_countAt_same, countAt_own]
  unfold countAt
  rw [setPort_setPort]
  rfl

/-- With a frame waiting, the transmitter has taken the head of the originated queue. -/
theorem afterFrame_waiting (own : Byte) (originated : Bool) (bytes : List Byte) (micros : Nat) {ps : PortState}
    (h : 0 < ps.originated.length) : (afterFrame own originated bytes micros ps).transmitter ≠ .idle
      ∧ (afterFrame own originated bytes micros ps).originated.length = ps.originated.length - 1 := by
  unfold afterFrame takeNext
  cases hq : ps.originated with
  | nil => simp [hq] at h
  | cons f rest => exact ⟨by simp, by simp⟩

/-- With room before, or nothing waiting for it, the completion takes the next frame and no more. -/
theorem completeTransmission_plain {p : Port} {s : State} {originated : Bool} {bytes : List Byte} {micros : Nat}
    (h : (getPort s p).transmitter = .sending originated bytes micros)
    (hquiet : p = .c → s.link.cPort.originated.length < 8 ∨ s.management.bufA.state = .free
      ∧ s.management.bufB.state = .free ∧ s.lines.noticePending = false) :
    completeTransmission p s = setPort s p (afterFrame s.link.own originated bytes micros (getPort s p)) := by
  rw [completeTransmission_sending h]
  dsimp only
  cases p with
  | e =>
    have hsame : cRoom (setPort s .e (afterFrame s.link.own originated bytes micros (getPort s .e))) = cRoom s := rfl
    rw [hsame, cFull, Bool.not_and_self, if_neg Bool.false_ne_true]
  | c =>
    rcases hquiet rfl with hroom | ⟨ha, hb, hpending⟩
    · have hfull : cFull s = false := by simp [cFull, cRoom, Config.originatedCapacity, hroom]
      rw [hfull, Bool.false_and, if_neg Bool.false_ne_true]
    · have hserve : ∀ u : State, u.management = s.management → u.lines = s.lines → roomAppeared u = u := by
        intro u hm hl
        unfold roomAppeared serveHeldRequests
        rw [serve_none (by simp [oldestAwaiting, awaits, hm, ha, hb]), reformNotice_quiet (.inl (by rw [hl, hpending]))]
      rw [hserve _ (setPort_management s .c _) (setPort_lines s .c _), ite_self]

/-- Room has appeared in a full C-port queue. -/
theorem completeTransmission_room {s : State} {originated : Bool} {bytes : List Byte} {micros : Nat}
    (h : (getPort s .c).transmitter = .sending originated bytes micros) (hfull : s.link.cPort.originated.length = 8) :
    let sent := setPort s .c (afterFrame s.link.own originated bytes micros (getPort s .c))
    completeTransmission .c s = reformNotice (serve 2 [] sent)
      ∧ sent.link.cPort.transmitter ≠ .idle ∧ sent.link.cPort.originated.length = 7 := by
  intro sent
  obtain ⟨hbusy, hlength⟩ := afterFrame_waiting s.link.own originated bytes micros (ps := getPort s .c)
    (by show 0 < s.link.cPort.originated.length; omega)
  have hseven : sent.link.cPort.originated.length = 7 := by
    show (afterFrame _ _ _ _ _).originated.length = 7
    rw [hlength]
    show s.link.cPort.originated.length - 1 = 7
    omega
  refine ⟨?_, hbusy, hseven⟩
  rw [completeTransmission_sending h]
  dsimp only
  rw [if_pos]
  · rfl
  · have hno : cFull s = true := by simp [cFull, cRoom, Config.originatedCapacity, hfull]
    have hroom : cRoom sent = true := by
      unfold cRoom
      rw [hseven]
      rfl
    exact (Bool.and_eq_true _ _).mpr ⟨hno, hroom⟩

/-! ## What room serves -/

/-- The C-port with a response entered at the tail. -/
def entered (f : OriginatedFrame) (u : State) : State :=
  { u with link := { u.link with cPort := { u.link.cPort with originated := u.link.cPort.originated ++ [f] } } }

/-- A held response enters, and nothing else waits that finds room. -/
theorem serve_held_once {u : State} {isB : Bool} {f : OriginatedFrame} (hbusy : u.link.cPort.transmitter ≠ .idle)
    (hseven : u.link.cPort.originated.length = 7) (hold : oldestAwaiting u.management = some isB)
    (hheld : (getBuffer u isB).state = .held) (hresponse : (getBuffer u isB).response = some f) (hf : f.cls = 0x41) :
    serve 2 [] u = setBuffer (entered f u) isB Buffer.free := by
  have hroom : cRoom u = true := by
    unfold cRoom
    rw [hseven]
    rfl
  rw [serve_held hold hroom hheld hresponse, enterResponse_behind hf hbusy (by omega)]
  refine serve_full ?_ 1
  have hfull : (setBuffer (entered f u) isB Buffer.free).link.cPort.originated.length = 8 := by
    rw [setBuffer_link]
    simp [entered, hseven]
  show decide ((setBuffer (entered f u) isB Buffer.free).link.cPort.originated.length < Config.originatedCapacity) = false
  rw [hfull]
  rfl

theorem handRequest_a {src : Byte} {payload : List Byte} {u : State} (h : u.management.bufA.state = .free) :
    handRequest [] src payload u = serve 2 [] { u with management := { u.management with
      bufA := waitingBuffer src payload, bFirst := decide (u.management.bufB.state ≠ .free) } } := if_pos h

theorem handRequest_b {src : Byte} {payload : List Byte} {u : State} (ha : u.management.bufA.state ≠ .free)
    (hb : u.management.bufB.state = .free) : handRequest [] src payload u = serve 2 [] { u with management :=
      { u.management with bufB := waitingBuffer src payload, bFirst := false } } := (if_neg ha).trans (if_pos hb)

theorem oldestAwaiting_of {m : Management} {x y : Bool} : awaits m.bufA = x → awaits m.bufB = y →
    oldestAwaiting m = match x, y with
      | true, true => some m.bFirst
      | true, false => some false
      | false, true => some true
      | false, false => none := by
  rintro rfl rfl
  rfl

/-- The requests that the C-port's new room serves, where nothing is kept back (R155, R160). -/
theorem transmitComplete_serves (s : State) (hr : s.inReset = false) (originated : Bool) (bytes : List Byte)
    (micros : Nat) (h : (getPort s .c).transmitter = .sending originated bytes micros)
    (hfull : s.link.cPort.originated.length = 8) (hd : s.deferred = none) :
    let sent := setPort s .c (afterFrame s.link.own originated bytes micros (getPort s .c))
    let complete := exec (.transmitComplete .c) s
    let a := s.management.bufA
    let b := s.management.bufB
    let node := noticeNode s.tables
    let reformed := fun u : State =>
      Host.Outcome.next (ρ := Refusal) (φ := Fault)
        (syncOutputs (if s.lines.noticePending = true ∧ node ≠ 0 then noticedAnew u else u))
    (a.state ≠ .waiting → a.state ≠ .held → b.state ≠ .waiting → b.state ≠ .held → complete = reformed sent)
    ∧ (∀ f, a.state = .held → a.response = some f → f.cls = 0x41 → (b.state = .free ∨ b.state = .inFlight) →
      complete = reformed { entered f sent with management := { s.management with bufA := Buffer.free } })
    ∧ (∀ f, b.state = .held → b.response = some f → f.cls = 0x41 → (a.state = .free ∨ a.state = .inFlight) →
      complete = reformed { entered f sent with management := { s.management with bufB := Buffer.free } })
    ∧ (∀ src payload, a = waitingBuffer src payload → (b.state = .free ∨ b.state = .inFlight) →
      s.management.bFirst = decide (b.state ≠ .free) →
      ∀ v, exec (.mgmtRequest src payload) { sent with
        management := { s.management with bufA := Buffer.free } } = .next v →
      v.lines.noticePending = false ∨ node = 0 ∧ v.tables = s.tables → complete = .next v)
    ∧ (∀ src payload, b = waitingBuffer src payload → a.state = .inFlight → s.management.bFirst = false →
      ∀ v, exec (.mgmtRequest src payload) { sent with
        management := { s.management with bufB := Buffer.free } } = .next v →
      v.lines.noticePending = false ∨ node = 0 ∧ v.tables = s.tables → complete = .next v)
    ∧ (∀ f, a.state = .waiting → b.state = .held → b.response = some f → f.cls = 0x41 →
      s.management.bFirst = true → s.lines.noticePending = false → complete = .next (syncOutputs
        { entered f sent with management := { s.management with bufB := Buffer.free } }))
    ∧ (∀ f, b.state = .waiting → a.state = .held → a.response = some f → f.cls = 0x41 →
      s.management.bFirst = false → s.lines.noticePending = false → complete = .next (syncOutputs
        { entered f sent with management := { s.management with bufA := Buffer.free } })) := by
  intro sent complete a b node reformed
  obtain ⟨hroom, hbusy, hseven⟩ := completeTransmission_room h hfull
  have hcomplete : complete = .next (syncOutputs (reformNotice (serve 2 [] sent))) := by
    show exec _ _ = _
    exact (event_live s _ hr).trans (by rw [hroom])
  have hreform : ∀ u : State, u.deferred = none → u.lines = s.lines → u.tables = s.tables →
      Host.Outcome.next (syncOutputs (reformNotice u)) = reformed u := by
    intro u hu hlines htables
    rw [reformNotice_between hu, hlines, htables]
  have hquiet : ∀ u : State, u.lines.noticePending = false → reformNotice u = u :=
    fun u hu => reformNotice_quiet (.inl hu)
  have hserved : ∀ u v : State, Host.Outcome.next (φ := Fault) (ρ := Refusal) (syncOutputs u) = .next v →
      (v.lines.noticePending = false ∨ node = 0 ∧ v.tables = s.tables) → reformNotice u = u := by
    intro u v hv hcase
    obtain rfl := Host.Outcome.next.inj hv
    refine reformNotice_quiet (hcase.imp id fun ⟨hnode, htables⟩ => ?_)
    have htables' : u.tables = s.tables := htables
    rw [htables']
    exact hnode
  refine ⟨fun h1 h2 h3 h4 => ?_, fun f h1 h2 h3 h4 => ?_, fun f h1 h2 h3 h4 => ?_,
    fun src payload h1 h2 h3 v hv hcase => ?_, fun src payload h1 h2 h3 v hv hcase => ?_,
    fun f h1 h2 h3 h4 h5 h6 => ?_, fun f h1 h2 h3 h4 h5 h6 => ?_⟩
  · rw [hcomplete, serve_none (u := sent) (oldestAwaiting_of (m := s.management) (x := false) (y := false) (by simp [awaits, a] at *; tauto)
      (by simp [awaits, b] at *; tauto)),
      hreform sent hd rfl rfl]
  · have hother : awaits b = false := by rcases h4 with h4 | h4 <;> simp [awaits, h4]
    have hheld : awaits a = true := by simp [awaits, h1]
    rw [hcomplete, serve_held_once (isB := false) hbusy hseven 
      (oldestAwaiting_of (m := s.management) hheld hother) h1 h2 h3]
    exact hreform _ hd rfl rfl
  · have hother : awaits a = false := by rcases h4 with h4 | h4 <;> simp [awaits, h4]
    have hheld : awaits b = true := by simp [awaits, h1]
    rw [hcomplete, serve_held_once (isB := true) hbusy hseven 
      (oldestAwaiting_of (m := s.management) hother hheld) h1 h2 h3]
    exact hreform _ hd rfl rfl
  · have hentry : handRequest [] src payload { sent with management := { s.management with bufA := Buffer.free } }
        = serve 2 [] sent := by
      rw [handRequest_a rfl]
      show serve 2 [] { sent with management := { s.management with
        bufA := waitingBuffer src payload, bFirst := decide (b.state ≠ .free) } } = _
      rw [← h1, ← h3]
      rfl
    have hv' := (event_live _ _ (by exact hr)).symm.trans hv
    rw [hentry] at hv'
    rw [hcomplete, hserved _ v hv' hcase, hv']
  · have hentry : handRequest [] src payload { sent with management := { s.management with bufB := Buffer.free } }
        = serve 2 [] sent := by
      have hoccupied : s.management.bufA.state ≠ .free := by
        show a.state ≠ .free
        rw [h2]
        decide
      rw [handRequest_b (by exact hoccupied) rfl]
      show serve 2 [] { sent with management := { s.management with
        bufB := waitingBuffer src payload, bFirst := false } } = _
      rw [← h1, ← h3]
      rfl
    have hv' := (event_live _ _ (by exact hr)).symm.trans hv
    rw [hentry] at hv'
    rw [hcomplete, hserved _ v hv' hcase, hv']
  · have hboth : awaits s.management.bufA = true ∧ awaits s.management.bufB = true := by
      simp only [awaits, Bool.or_eq_true, decide_eq_true_eq]
      exact ⟨.inl h1, .inr h2⟩
    rw [hcomplete, serve_held_once (isB := true) hbusy hseven 
      ((oldestAwaiting_of hboth.1 hboth.2).trans (congrArg some h5)) h2 h3 h4]
    exact congrArg (fun u => Host.Outcome.next (syncOutputs u)) (hquiet _ (by exact h6))
  · have hboth : awaits s.management.bufA = true ∧ awaits s.management.bufB = true := by
      simp only [awaits, Bool.or_eq_true, decide_eq_true_eq]
      exact ⟨.inr h2, .inl h1⟩
    rw [hcomplete, serve_held_once (isB := false) hbusy hseven 
      ((oldestAwaiting_of hboth.1 hboth.2).trans (congrArg some h5)) h2 h3 h4]
    exact congrArg (fun u => Host.Outcome.next (syncOutputs u)) (hquiet _ (by exact h6))

theorem afterFrame_eq (own : Byte) (originated : Bool) (bytes : List Byte) (micros : Nat) (ps : PortState) :
    afterFrame own originated bytes micros ps =
      (let k := ps.counters
      let counted := { ps with counters :=
        if originated then { k with txOriginated := bump k.txOriginated }
        else { k with txForwarded := bump k.txForwarded } }
      let carry := micros - (5 * bytes.length + 20)
      match counted.originated, counted.forward with
      | f :: rest, _ => { counted with
          originated := rest
          transmitter := .sending true (wholeFrame ⟨f.dst, own, f.cls, counted.sequence, f.payload⟩) carry
          sequence := counted.sequence + 1 }
      | [], raw :: rest => { counted with forward := rest, transmitter := .sending false raw carry }
      | [], [] => { counted with transmitter := .idle }) := by
  unfold afterFrame takeNext
  dsimp only
  cases ps.originated with
  | cons f rest => rfl
  | nil => cases ps.forward <;> rfl

/-- Settles O11. -/
theorem transmitterTakesNextFrame : Obligations.TransmitterTakesNextFrame := by
  unfold Obligations.TransmitterTakesNextFrame
  refine ⟨fun p s hr hidle => ?_, fun p s hr originated bytes micros hsending => ?_⟩
  · exact (event_live s _ hr).trans (by rw [completeTransmission_idle hidle])
  · intro k ps carry sent complete a b node noticed entered
    have hsent : sent = setPort s p (afterFrame s.link.own originated bytes micros (getPort s p)) := by
      rewrite [afterFrame_eq]
      rfl
    refine ⟨fun hquiet => ?_, ?_⟩
    · show exec _ _ = _
      rw [hsent, ← completeTransmission_plain hsending hquiet]
      exact event_live s _ hr
    · rintro rfl hfull hd
      have hserves := transmitComplete_serves s hr originated bytes micros hsending hfull hd
      simp only [← hsent] at hserves
      exact hserves

end Sys2Proof.Machine
end

section
/-! PROOF. The Demand Authority Unit's timers and switches (O17, O18), and the records that are only stored (O23). -/

namespace Sys2Proof.Machine

/-! ## Stored samples (O23) -/

theorem fieldAt_one (bytes : List Byte) (k : Nat) : fieldAt bytes k 1 = (bytes.getD k 0).toNat := by
  rcases Nat.lt_or_ge k bytes.length with hk | hk
  · have hdrop : (bytes.drop k).take 1 = [bytes[k]] := by
      rw [List.drop_eq_getElem_cons hk]
      rfl
    rw [fieldAt, hdrop, List.getD_eq_getElem _ _ hk]
    simp [beValue]
  · rw [fieldAt, List.drop_eq_nil_of_le hk, List.getD_eq_default _ _ hk]
    rfl

theorem fieldAt_four (bytes : List Byte) (h : 4 ≤ bytes.length) : BitVec.ofNat 32 (fieldAt bytes 0 4) =
    bytes.getD 0 0 ++ bytes.getD 1 0 ++ bytes.getD 2 0 ++ bytes.getD 3 0 := by
  match bytes, h with
  | a :: b :: c :: d :: rest, _ =>
    have hvalue : fieldAt (a :: b :: c :: d :: rest) 0 4 =
        ((a.toNat * 256 + b.toNat) * 256 + c.toNat) * 256 + d.toNat := by simp [fieldAt, beValue]
    have ha := a.isLt
    have hb := b.isLt
    have hc := c.isLt
    have hd := d.isLt
    rw [hvalue]
    apply BitVec.eq_of_toNat_eq
    simp only [List.getD_cons_zero, List.getD_cons_succ, BitVec.toNat_append, BitVec.toNat_ofNat]
    rw [← Nat.shiftLeft_add_eq_or_of_lt hb, ← Nat.shiftLeft_add_eq_or_of_lt hc, ← Nat.shiftLeft_add_eq_or_of_lt hd]
    simp only [Nat.shiftLeft_eq]
    omega

/-- Settles O23. -/
theorem radarAndTimeStored : Obligations.RadarAndTimeStored := by
  unfold Obligations.RadarAndTimeStored
  constructor
  · intro payload s hr record
    refine (event_live s _ hr).trans ?_
    unfold handleRadarSample readRadar
    by_cases hshort : payload.length < 3
    · rw [if_pos hshort, if_pos hshort]
    · rw [if_neg hshort, if_neg hshort]
      dsimp only
      rw [fieldAt_two payload 0 (by omega)]
      rfl
  · intro payload s hr base
    refine (event_live s _ hr).trans ?_
    unfold handleTime readTime
    by_cases hshort : payload.length < 4
    · rw [if_pos hshort, if_pos hshort]
    · rw [if_neg hshort, if_neg hshort]
      dsimp only
      rw [fieldAt_four payload (by omega)]

/-! ## The sand request after rises and triggers -/

theorem evalSand_eq (s : State) : evalSand s = { s with slide := (evalSand s).slide } := by
  obtain ⟨_, _, h⟩ := evalSand_frame s
  rw [h]

/-- The sand request is evaluated alike before and after the triggers and rises of an event (R46). -/
theorem Moves.sanded {must may : List Flag} {s t : State} (h : Moves must may s t) :
    Moves must may (evalSand s) (evalSand t) := by
  obtain ⟨hframe, hflags, hnotices, hsent, hdeferred, hrecorder⟩ := h
  have hslide : (evalSand t).slide = (evalSand s).slide := by
    apply evalSand_slide_congr <;> rw [hframe] <;> rfl
  rw [evalSand_eq s, evalSand_eq t, hslide]
  refine ⟨?_, hflags, hnotices, hsent, hdeferred, hrecorder⟩
  rw [hframe]
  rfl

theorem TriggeredFrom.raisedFrom {must may : List Flag} {u t : State} (h : TriggeredFrom must may u t)
    (hrecorder : t.recorder = u.recorder) : RaisedFrom must may u t := by
  obtain ⟨hframe, hflags, hnotices, houtputs, hdeferred, -⟩ := h
  refine ⟨?_, hflags, hnotices, houtputs, hdeferred⟩
  calc t = withTriggers u t := hframe
    _ = withNotices u t := by rw [withTriggers, hrecorder]; rfl

theorem Moves.raisedFrom {must may : List Flag} {u t : State} (h : Moves must may u t)
    (hrecorder : t.recorder = u.recorder) : RaisedFrom must may u (syncOutputs t) := h.triggeredFrom.raisedFrom hrecorder

/-! ## Switches (O17) -/

/-- The authority after a switch to a source has completed (R8). -/
def switched (k : Source) (a : Authority) : Authority :=
  { a with active := .source k, pendingSwitch := none, phase := .none, lost := none, holdTimer := .stopped }

theorem completeSwitch_eq (k : Source) (s : State) :
    completeSwitch k s = raise .sourceSwitched { s with authority := switched k s.authority } := rfl

theorem completeSwitch_raised (k : Source) (s : State) : RaisedFrom [.sourceSwitched] []
    (evalSand { s with authority := switched k s.authority }) (syncOutputs (evalSand (completeSwitch k s))) :=
  (raise_moves .sourceSwitched _).sanded.raisedFrom (by
    rw [evalSand_recorder, evalSand_recorder, raise_recorder])

theorem isValid_iff (s : State) (k : Source) : isValid s k = true ↔ (s.authority.monitors.get k).state = .valid := by
  simp [isValid]

theorem completePending_due {k : Source} {s : State} (hpending : s.authority.pendingSwitch = some k)
    (hvalid : (s.authority.monitors.get k).state = .valid) : completePending k s = completeSwitch k s := by
  unfold completePending
  rw [if_pos (by simp [hpending, isValid, hvalid])]

theorem completePending_not_due {k : Source} {s : State}
    (h : ¬ (s.authority.pendingSwitch = some k ∧ (s.authority.monitors.get k).state = .valid)) :
    completePending k s = s := by
  unfold completePending
  rw [if_neg (by simpa [isValid] using h)]

theorem sourceOfCode_iff (n : Nat) (k : Source) : sourceOfCode n = some k ↔ n = sourceCode k := by
  constructor
  · intro h
    unfold sourceOfCode at h
    split at h
    all_goals cases h
    all_goals rfl
  · rintro rfl
    cases k <;> rfl

/-- The start-up auto-switch acts on a VALID source that is the locked one, else PREFERRED (R16). -/
theorem autoSwitchApplies_iff (s : State) (k : Source) : autoSwitchApplies s k = true ↔
    s.authority.autoMark = true ∧ s.authority.pendingSwitch = none
    ∧ (s.authority.lock = some k ∨ s.authority.lock = none ∧ tableField s.tables.source 0 0 = sourceCode k)
    ∧ (s.authority.monitors.get k).state = .valid := by
  have hpreferred : preferredSource s = some k ↔
      s.authority.lock = some k ∨ s.authority.lock = none ∧ tableField s.tables.source 0 0 = sourceCode k := by
    unfold preferredSource
    cases hlock : s.authority.lock with
    | some j => simp
    | none =>
      simp only [preferred, sourceOfCode_iff, param]
      simp
  unfold autoSwitchApplies
  simp only [Bool.and_eq_true, decide_eq_true_eq, hpreferred, isValid_iff, and_assoc]

theorem sourceCode_eq (k : Source) : sourceCode k = match k with
    | .cabA => 1
    | .cabB => 2
    | .dp => 3 := by
  cases k <;> rfl

/-- Settles O17. -/
theorem switchCompletes : Obligations.SwitchCompletes := by
  unfold Obligations.SwitchCompletes
  constructor
  · intro k s hr due
    refine ⟨_, event_live s (fun u => evalSand (completePending k u)) hr, fun hdue => ?_, fun hnot => ?_⟩
    · rw [completePending_due hdue.1 hdue.2]
      exact completeSwitch_raised k s
    · rw [completePending_not_due hnot]
  · intro k s hr code due
    have hiff : autoSwitchApplies s k = true ↔ due := by
      rewrite [autoSwitchApplies_iff, sourceCode_eq]
      exact .rfl
    refine ⟨_, event_live s (fun u => evalSand (autoSwitch k u)) hr, fun hdue => ?_, fun hnot => ?_⟩
    all_goals unfold autoSwitch
    · rw [if_pos (hiff.mpr hdue)]
      exact completeSwitch_raised k { s with authority := { s.authority with autoMark := false } }
    · rw [if_neg (fun h => hnot (hiff.mp h))]

/-! ## Expiries and the clearing test (O18) -/

/-- An event that acts when it is due, and has no effect otherwise. -/
theorem event_when {effect : State → State} {due : Prop} {s u : State} (hr : s.inReset = false)
    (hdue : due → effect s = u) (hnot : ¬ due → effect s = s) : ∃ t, event s effect = .next t
      ∧ (due → t = syncOutputs u) ∧ (¬ due → t = syncOutputs s) :=
  ⟨_, event_live s effect hr, fun h => congrArg syncOutputs (hdue h), fun h => congrArg syncOutputs (hnot h)⟩

theorem clearsLatch_iff (s : State) (k : Source) (emergency : Bool) (reduction : Nat) :
    clearsLatch s k emergency reduction = true ↔
      s.authority.latch = true ∧ s.authority.resetTimer = .expired ∧ s.authority.active = .source k
      ∧ emergency = false ∧ s.tables.blend.loaded = true ∧ tableField s.tables.blend 7 0 ≤ reduction := by
  unfold clearsLatch
  simp only [Bool.and_eq_true, decide_eq_true_eq, Bool.not_eq_true', and_assoc]
  exact .rfl

/-- Settles O18. -/
theorem authorityTimersAndLatchClear : Obligations.AuthorityTimersAndLatchClear := by
  unfold Obligations.AuthorityTimersAndLatchClear
  refine ⟨?_, ?_, ?_⟩
  · intro s hr due
    have hreached : s.authority.holdTimer.reached (holdMs s.tables) = true ↔ due := Timer.reached_iff _ _
    exact event_when hr (fun h => if_pos (hreached.mpr h)) (fun h => if_neg (mt hreached.mp h))
  · intro s hr due
    have hreached : s.authority.resetTimer.reached (emergResetMs s.tables) = true ↔ due := Timer.reached_iff _ _
    exact event_when hr (fun h => if_pos (hreached.mpr h)) (fun h => if_neg (mt hreached.mp h))
  · intro k emergency reduction s hr passes
    have hclears : clearsLatch s k emergency reduction.toNat = true ↔ passes := clearsLatch_iff s k emergency _
    exact event_when hr (fun h => if_pos (hclears.mpr h)) (fun h => if_neg (mt hclears.mp h))

end Sys2Proof.Machine
end

section
/-! PROOF. Requests that are answered while their event keeps its notices back (R164, R172): the notices follow the
response. -/

namespace Sys2Proof.Machine

/-! ## Notices kept back -/

/-- While notices are kept back, a stretch of an event adds NOTICEs to them and leaves the C-port. -/
def Kept (u v : State) : Prop :=
  ∀ held, u.deferred = some held →
    v.link.cPort = u.link.cPort ∧ ∃ more, v.deferred = some (held ++ more) ∧ ∀ n ∈ more, n.cls = Config.clsNotice

theorem Kept.refl (u : State) : Kept u u := fun held h => ⟨rfl, [], by simpa using h, by simp⟩

/-- A change of other parts keeps back what was kept back. -/
theorem Kept.same {u v : State} (hport : v.link.cPort = u.link.cPort) (hdeferred : v.deferred = u.deferred) :
    Kept u v := fun held h => ⟨hport, [], by rw [hdeferred, h, List.append_nil], by simp⟩

theorem Kept.trans {u v w : State} (h : Kept u v) (k : Kept v w) : Kept u w := by
  intro held hu
  obtain ⟨hport, more, hv, hmore⟩ := h held hu
  obtain ⟨hport', more', hw, hmore'⟩ := k _ hv
  refine ⟨hport'.trans hport, more ++ more', by rw [hw, List.append_assoc], fun n hn => ?_⟩
  rcases List.mem_append.mp hn with hn | hn
  · exact hmore n hn
  · exact hmore' n hn

theorem notify_kept (u : State) : Kept u (notify u) := by
  intro held h
  unfold notify
  split
  · exact Kept.refl u held h
  · rw [h]
    exact ⟨rfl, [formNotice u], rfl, by simp [formNotice]⟩

theorem raise_kept (f : Flag) (u : State) : Kept u (raise f u) := by
  unfold raise
  split
  · exact .refl u
  · dsimp only
    split
    · exact (Kept.same (v := { u with lines := { u.lines with
        flags := u.lines.flags ||| flagMask f, noticePending := true } }) rfl rfl).trans (notify_kept _)
    · exact .same rfl rfl

theorem loseIncident_kept (u : State) : Kept u (loseIncident u) :=
  (Kept.same (v := { u with recorder := { u.recorder with lostCount := bump16 u.recorder.lostCount } }) rfl rfl).trans
    (raise_kept .incidentLost _)

theorem countOverwrite_kept (u : State) : Kept u (countOverwrite u) :=
  (Kept.same (v := { u with recorder := { u.recorder with overwrites := bump16 u.recorder.overwrites } }) rfl
    rfl).trans (raise_kept .incidentLost _)

theorem openIncident_kept (u : State) (kind : TriggerKind) (frame : Option Capture) (have_ : Option Nat) :
    Kept u (openIncident u kind frame have_).1 := by
  unfold openIncident
  dsimp only
  split
  · exact loseIncident_kept u
  · split
    · exact .same rfl rfl
    · split
      · exact (countOverwrite_kept u).trans (.same rfl rfl)
      · exact loseIncident_kept u

theorem deliverTrigger_kept (u : State) (kind : TriggerKind) (frame : Option Capture) (have_ : Option Nat) :
    Kept u (deliverTrigger u kind frame have_).1 := by
  rcases deliverTrigger_cases u kind frame have_ with ⟨-, h⟩ | ⟨-, -, ⟨-, h⟩ | ⟨i, -, h⟩⟩ <;> rw [h]
  · exact .refl u
  · exact openIncident_kept u kind frame have_
  · exact .same rfl rfl

theorem trigger_kept (kind : TriggerKind) (u : State) : Kept u (trigger kind u) := deliverTrigger_kept u kind none none

theorem evalSand_kept (u : State) : Kept u (evalSand u) := by
  rw [evalSand_eq]
  exact .same rfl rfl

theorem Kept.sanded {u v : State} (h : Kept u v) : Kept (evalSand u) (evalSand v) := by
  rw [evalSand_eq u, evalSand_eq v]
  exact h

/-! ## After the response -/

theorem handNotices_noticesOnly (held : List OriginatedFrame) (s : State) (h : ∀ n ∈ held, n.cls = Config.clsNotice) :
    NoticesOnly s.link.cPort (handNotices held s).link.cPort := by
  induction held generalizing s with
  | nil => exact .refl _
  | cons n held ih =>
    exact (handNotice_noticesOnly s n (h n (by simp))).trans (ih (handNotice s n) fun m hm => h m (by simp [hm]))

theorem handNotices_flags (held : List OriginatedFrame) (s : State) :
    (handNotices held s).lines.flags = s.lines.flags := by
  induction held generalizing s with
  | nil => rfl
  | cons n held ih =>
    show (handNotices held (handNotice s n)).lines.flags = _
    rw [ih, handNotice_handOver]

theorem handNotices_between (held : List OriginatedFrame) {s : State} (h : s.deferred = none) :
    (handNotices held s).deferred = none := by
  induction held generalizing s with
  | nil => exact h
  | cons n held ih => exact ih (by rw [handNotice_deferred, h])

/-- A request's answer: the response in the C-port queue, the buffers as they then stand, no notice kept back. -/
def withAnswer (m : Management) (response : OriginatedFrame) (s : State) : State :=
  { enterResponse response s with management := m, deferred := none }

/-- What an event did while its notices were kept back, it did to the answered state (R172). -/
theorem Moves.answered {must may : List Flag} {u v : State} (h : Moves must may u v) (k : Kept u v)
    (hd : u.deferred = some []) (m : Management) (response : OriginatedFrame) :
    TriggeredFrom must may (withAnswer m response u)
      (syncOutputs (flushNotices { enterResponse response v with management := m })) := by
  obtain ⟨hport, more, hv, hmore⟩ := k [] hd
  obtain ⟨hframe, hflags, -, -, -, hrecorder⟩ := h
  have hbase : withAnswer m response v = withTriggers (withAnswer m response u) (withAnswer m response v) := by
    unfold withAnswer
    rw [enterResponse_eq, enterResponse_eq, hport, hframe]
    rfl
  have hlink : (withAnswer m response v).link.cPort = (withAnswer m response u).link.cPort := by
    unfold withAnswer
    rw [enterResponse_eq, enterResponse_eq, hport, hframe]
    rfl
  have hflush : flushNotices { enterResponse response v with management := m } =
      handNotices more (withAnswer m response v) := by
    unfold flushNotices
    have hkept : (enterResponse response v).deferred = some more := by
      rw [enterResponse_deferred, hv]
      rfl
    rw [hkept]
    rfl
  have hnotices : handNotices more (withAnswer m response v) =
      withNotices (withAnswer m response v) (handNotices more (withAnswer m response v)) := handNotices_frame _ _
  have hwords : ∀ x : State, (withAnswer m response x).lines.flags = x.lines.flags := by
    intro x
    unfold withAnswer
    rw [enterResponse_eq]
  rw [hflush]
  refine ⟨?_, ?_, ?_, rfl, fun _ => ?_, fun hmode => ?_⟩
  · exact syncOutputs_withTriggers (withTriggers_trans hbase (withTriggers_of_notices hnotices))
  · intro f
    have hsame : flagSet (syncOutputs (handNotices more (withAnswer m response v))) f = flagSet v f :=
      flagSet_congr ((handNotices_flags _ _).trans (hwords v)) f
    have hsame' : flagSet (withAnswer m response u) f = flagSet u f := flagSet_congr (hwords u) f
    rw [hsame, hsame']
    exact hflags f
  · rw [← hlink]
    exact handNotices_noticesOnly more _ hmore
  · show (handNotices more (withAnswer m response v)).deferred = none
    exact handNotices_between more rfl
  · show (handNotices more (withAnswer m response v)).recorder = _
    rw [hnotices]
    show (withAnswer m response v).recorder = (withAnswer m response u).recorder
    unfold withAnswer at hmode ⊢
    rw [enterResponse_eq] at hmode
    rw [enterResponse_eq, enterResponse_eq]
    exact hrecorder hmode

/-! ## Requests taken at their arrival -/

/-- A command whose effect forms no notice. -/
theorem request_changed {s x : State} {src tag : Byte} {k : Command} {args : List Byte} {r : ResultCode}
    {data : List Byte} (hr : Ready s) (hm : MayIssue s src k args) (ha : argsFit k args = true)
    (hx : x.management = s.management)
    (hc : carryOut k args (underRequest s src (requestPayload tag k args))
      = (underRequest x src (requestPayload tag k args), .answer r data)) :
    request src tag k args s = .next (answered x (responseFrame src tag k r data)) := by
  rw [request_answered s src tag k args _ r data hr hm ha hc (by unfold underRequest; rw [hx])]
  unfold answered
  rw [enterResponse_eq, enterResponse_eq, hx]
  rfl

/-- A command whose effect may raise flags and deliver triggers. -/
theorem request_moved {must may : List Flag} {s x v : State} {src tag : Byte} {k : Command} {args : List Byte}
    {r : ResultCode} {data : List Byte} (hr : Ready s) (hm : MayIssue s src k args) (ha : argsFit k args = true)
    (hx : x.management = s.management)
    (hc : carryOut k args (underRequest s src (requestPayload tag k args)) = (v, .answer r data))
    (hmoves : Moves must may (underRequest x src (requestPayload tag k args)) v)
    (hkept : Kept (underRequest x src (requestPayload tag k args)) v) :
    ∃ t, request src tag k args s = .next t
      ∧ TriggeredFrom must may (answered x (responseFrame src tag k r data)) t ∧ t.recorder = v.recorder := by
  have hmanagement : v.management = placed s.management (waitingBuffer src (requestPayload tag k args)) := by
    rw [hmoves.frame, ← hx]
    rfl
  refine ⟨_, request_answered s src tag k args v r data hr hm ha hc hmanagement, ?_, ?_⟩
  · have h := hmoves.answered hkept rfl (placed s.management Buffer.free) (responseFrame src tag k r data)
    have hbase : answered x (responseFrame src tag k r data) = syncOutputs (withAnswer (placed s.management Buffer.free)
        (responseFrame src tag k r data) (underRequest x src (requestPayload tag k args))) := by
      unfold answered withAnswer
      rw [enterResponse_eq, enterResponse_eq, hx]
      rfl
    rw [hbase]
    exact h
  · show (flushNotices { enterResponse _ v with management := _ }).recorder = _
    rw [flushNotices_frame, enterResponse_eq]
    rfl

theorem evalSand_underRequest (x : State) (src : Byte) (payload : List Byte) :
    evalSand (underRequest x src payload) = underRequest (evalSand x) src payload := by
  have hslide : (evalSand (underRequest x src payload)).slide = (evalSand x).slide :=
    evalSand_slide_congr rfl rfl rfl rfl
  rw [evalSand_eq (underRequest x src payload), hslide, evalSand_eq x]
  rfl

end Sys2Proof.Machine
end

section
/-! PROOF. The active demand record (O19) and the source commands (O20). -/

namespace Sys2Proof.Machine

/-! ## The active demand record (O19) -/

/-- A presented record after the PENALTY line and the clamps, while BLEND is LOADED (R5, R17). -/
theorem activeDemand_loaded {s : State} (h : s.tables.blend.loaded = true) : activeDemand s =
    (let d := presentedDemand s
    let full := tableField s.tables.blend 7 0
    { d with
      reduction := d.reduction.map (fun r => if (s.lines.inputs.get 1).accepted then full else min r full)
      independent := d.independent.map (fun r => min r (tableField s.tables.blend 5 0)) }) := by
  unfold activeDemand clampDemand applyPenalty penaltyActive autoFull? bcMax?
  rw [h]
  by_cases hpenalty : (s.lines.inputs.get 1).accepted = true
  · simp [hpenalty, autoFull, bcMax, param, Function.comp_def]
  · simp [hpenalty, autoFull, bcMax, param]

theorem presentRecord_some (d : Option GoodDemand) : ∃ r p, (presentRecord d).reduction = some r
    ∧ (presentRecord d).independent = some p := by
  cases d with
  | none => exact ⟨0, 0, rfl, rfl⟩
  | some g => exact ⟨_, _, rfl, rfl⟩

/-- While BLEND is LOADED, both demands of the presented record have a value. -/
theorem presentedDemand_some {s : State} (h : s.tables.blend.loaded = true) :
    ∃ r p, (presentedDemand s).reduction = some r ∧ (presentedDemand s).independent = some p := by
  unfold presentedDemand
  dsimp only
  split
  · exact presentRecord_some _
  · exact presentRecord_some _
  · exact ⟨_, _, if_pos h, rfl⟩
  · exact ⟨_, _, rfl, if_pos h⟩

/-- Settles O19. -/
theorem activeDemandFormed : Obligations.ActiveDemandFormed := by
  unfold Obligations.ActiveDemandFormed
  intro s hloaded full top penalty formed
  have hbound : ∀ r : Nat, (if penalty then full else min r full) ≤ full := by
    intro r
    split
    · exact le_rfl
    · exact min_le_right _ _
  have hrecord : ∀ g, presentedDemand s = presentRecord (some g) → activeDemand s = formed g := by
    intro g hg
    rw [activeDemand_loaded hloaded, hg]
    rfl
  rw [activeDemand_loaded hloaded] at hrecord ⊢
  refine ⟨?_, fun k g hactive hgood => hrecord g ?_, fun k g hactive hphase hlost hgood => hrecord g ?_,
    fun hactive hphase => ?_, fun k g hactive hphase hlost hgood => ?_⟩
  · obtain ⟨r, p, hr, hp⟩ := presentedDemand_some hloaded
    refine ⟨if penalty then full else min r full, min p top, ?_, hbound r, fun h => if_pos h, ?_, min_le_right _ _⟩
    · dsimp only
      rw [hr]
      rfl
    · dsimp only
      rw [hp]
      rfl
  · unfold presentedDemand
    simp only [hactive, hgood]
  · unfold presentedDemand
    simp only [hactive, hphase, hlost, Option.bind_some, hgood]
  · have hstart : presentedDemand s = ⟨some 0, some top, 0, false, false, false, 0⟩ := by
      unfold presentedDemand bcMax?
      simp only [hactive, hphase, hloaded, if_true]
      rfl
    rw [hstart]
    simp only [Option.map_some, Nat.zero_min]
    rw [show min top (tableField s.tables.blend 5 0) = top from min_self _]
  · have hpenalty : presentedDemand s = ⟨some full, some 0, 0, false, false, false, formDirection g.record.direction⟩ := by
      unfold presentedDemand autoFull?
      simp only [hactive, hphase, hloaded, if_true, hlost, Option.bind_some, hgood]
      rfl
    rw [hpenalty]
    simp only [Option.map_some, Nat.zero_min]
    rw [show min full (tableField s.tables.blend 7 0) = full from min_self _]
    exact congrArg (fun r => (⟨some r, some 0, 0, false, false, false, formDirection g.record.direction⟩ : ActiveDemand))
      (ite_self full)

/-! ## The source commands (O20) -/

theorem selectData_eq (s : State) : selectData s = [BitVec.ofNat 8 (activeCode s.authority.active)]
    ++ (match s.authority.pendingSwitch with
      | some p => [1, BitVec.ofNat 8 (sourceCode p)]
      | none => [0, 0]) := by
  unfold selectData optSource
  cases s.authority.pendingSwitch <;> rfl

theorem fieldAt_single (b : Byte) : fieldAt [b] 0 1 = b.toNat := fieldAt_one [b] 0

/-- An accepted SOURCE_SELECT of a source that is not VALID (R7). -/
theorem acceptSelect_waits {k : Source} {x : State} (h : (x.authority.monitors.get k).state ≠ .valid) :
    acceptSelect k x = evalSand { x with authority := { x.authority with
      pendingSwitch := some k, autoMark := false } } := by
  exact congrArg evalSand (completePending_not_due fun hdue => h hdue.2)

/-- An accepted SOURCE_SELECT of a VALID source switches at once (R7, R8). -/
theorem acceptSelect_switches {k : Source} {x : State} (h : (x.authority.monitors.get k).state = .valid) :
    acceptSelect k x = evalSand (raise .sourceSwitched { x with authority := { switched k x.authority with
      autoMark := false } }) := by
  exact congrArg evalSand (completePending_due rfl h)

theorem ownSourceSelect_unknown {target : Byte} {x : State} (h : sourceOfCode target.toNat = none) :
    ownSourceSelect [target] x = (x, .answer .badArg []) := by
  unfold ownSourceSelect
  rw [fieldAt_single, h]

section
variable {target : Byte} {k : Source} {x : State} (hk : sourceOfCode target.toNat = some k)
include hk

theorem ownSourceSelect_redundant (h : x.authority.active = .source k) :
    ownSourceSelect [target] x = (x, .answer .redundant (selectData x)) := by
  unfold ownSourceSelect
  rw [fieldAt_single, hk]
  exact if_pos h

theorem ownSourceSelect_locked (h : x.authority.active ≠ .source k) (hlock : x.authority.lock ≠ none)
    (hother : x.authority.lock ≠ some k) : ownSourceSelect [target] x = (x, .answer .locked (selectData x)) := by
  unfold ownSourceSelect
  rw [fieldAt_single, hk]
  exact (if_neg h).trans (if_pos ⟨hlock, hother⟩)

theorem ownSourceSelect_accepted (h : x.authority.active ≠ .source k)
    (hlock : x.authority.lock = none ∨ x.authority.lock = some k) :
    ownSourceSelect [target] x = (acceptSelect k x, .answer .accepted (selectData (acceptSelect k x))) := by
  unfold ownSourceSelect
  rw [fieldAt_single, hk]
  exact (if_neg h).trans (if_neg fun hn => hlock.elim hn.1 hn.2)

end

theorem sourceSelect_decided (src tag target : Byte) (s : State) (hr : Ready s) (hm : MayIssue s src .sourceSelect [target]) :
    let respond := responseFrame src tag .sourceSelect
    let select := exec (.sourceSelect src tag target) s
    (sourceOfCode target.toNat = none → select = .next (answered s (respond .badArg [])))
    ∧ ∀ k, sourceOfCode target.toNat = some k →
      (s.authority.active = .source k → select = .next (answered s (respond .redundant (selectData s))))
      ∧ (s.authority.active ≠ .source k → s.authority.lock ≠ none → s.authority.lock ≠ some k →
        select = .next (answered s (respond .locked (selectData s))))
      ∧ (s.authority.active ≠ .source k → s.authority.lock = none ∨ s.authority.lock = some k →
        (s.authority.monitors.get k).state ≠ .valid →
        select = .next (answered
          (evalSand { s with authority := { s.authority with pendingSwitch := some k, autoMark := false } })
          (respond .accepted
            [BitVec.ofNat 8 (activeCode s.authority.active), 1, BitVec.ofNat 8 (sourceCode k)])))
      ∧ (s.authority.active ≠ .source k → s.authority.lock = none ∨ s.authority.lock = some k →
        (s.authority.monitors.get k).state = .valid →
        ∃ t, select = .next t ∧ RaisedFrom [.sourceSwitched] [] (answered
          (evalSand { s with authority := { switched k s.authority with autoMark := false } })
          (respond .accepted [BitVec.ofNat 8 (sourceCode k), 0, 0])) t) := by
  intro respond select
  have hunchanged := fun r data => request_unchanged s src tag .sourceSelect [target] r data hr hm rfl
  refine ⟨fun hnone => hunchanged _ _ (ownSourceSelect_unknown hnone), fun k hk =>
    ⟨fun hactive => hunchanged _ _ (ownSourceSelect_redundant hk hactive),
    fun hactive hlock hother => hunchanged _ _ (ownSourceSelect_locked hk hactive hlock hother),
    fun hactive hlock hvalid => ?_, fun hactive hlock hvalid => ?_⟩⟩
  all_goals
    have haccepted := ownSourceSelect_accepted (x := underRequest s src (requestPayload tag .sourceSelect [target]))
      hk hactive hlock
  · rw [acceptSelect_waits (by exact hvalid), selectData_eq, evalSand_authority] at haccepted
    refine request_changed hr hm rfl ?_ (haccepted.trans ?_)
    · rw [evalSand_eq]
    · rw [← evalSand_underRequest]
      rfl
  · rw [acceptSelect_switches (by exact hvalid), selectData_eq, evalSand_authority, raise_authority] at haccepted
    obtain ⟨t, ht, hfrom, hrecorder⟩ := request_moved (must := [.sourceSwitched]) (may := [])
      (x := evalSand { s with authority := { switched k s.authority with autoMark := false } }) hr hm rfl
      (by rw [evalSand_eq]) haccepted
      (by rw [← evalSand_underRequest]; exact (raise_moves .sourceSwitched _).sanded)
      (by rw [← evalSand_underRequest]; exact (raise_kept .sourceSwitched _).sanded)
    refine ⟨t, ht, hfrom.raisedFrom ?_⟩
    rw [hrecorder, evalSand_recorder, raise_recorder]
    unfold answered
    rw [enterResponse_eq, evalSand_eq]
    rfl

/-- Settles O20. -/
theorem sourceCommandsDecided : Obligations.SourceCommandsDecided := by
  unfold Obligations.SourceCommandsDecided
  refine ⟨fun src tag target s hr hm => ?_, fun src tag s hr hm => ?_, fun src tag s hr hm => ?_⟩
  · have h := sourceSelect_decided src tag target s hr hm
    rw [selectData_eq] at h
    exact h
  · show request src tag .sourceAbort [] s = _
    cases hpending : s.authority.pendingSwitch with
    | some k =>
      refine request_changed hr hm rfl rfl ?_
      exact if_pos (Option.isSome_iff_exists.mpr ⟨k, hpending⟩)
    | none =>
      refine request_unchanged s src tag .sourceAbort [] _ _ hr hm rfl ?_
      exact if_neg (by simp [underRequest, hpending])
  · show request src tag .sourceLock [] s = _
    cases hlock : s.authority.lock with
    | some k =>
      refine request_unchanged s src tag .sourceLock [] _ _ hr hm rfl ?_
      exact if_pos (Option.isSome_iff_exists.mpr ⟨k, hlock⟩)
    | none =>
      have hfree : ¬ (underRequest s src (requestPayload tag .sourceLock [])).authority.lock.isSome = true := by
        simp [underRequest, hlock]
      cases hactive : s.authority.active with
      | fallback =>
        refine request_unchanged s src tag .sourceLock [] _ _ hr hm rfl ?_
        show ownSourceLock _ = _
        have hactive' : (underRequest s src (requestPayload tag .sourceLock [])).authority.active = .fallback := hactive
        unfold ownSourceLock
        rw [if_neg hfree, hactive']
      | source k =>
        refine request_changed hr hm rfl rfl ?_
        show ownSourceLock _ = _
        have hactive' : (underRequest s src (requestPayload tag .sourceLock [])).authority.active = .source k := hactive
        unfold ownSourceLock
        rw [if_neg hfree, hactive']
        rfl

end Sys2Proof.Machine
end

section
/-! PROOF. A delivered demand frame (R1, R4): what it makes of the authority, in the three stretches of its event: monitor
and switches, latch and reset timer, sand. -/

namespace Sys2Proof.Machine

/-! ## Stretches of an event that move the authority -/

/-- State `t` is `s` with another authority, after triggers and rises. -/
def MovesAuthority (must may : List Flag) (s t : State) : Prop := Moves must may { s with authority := t.authority } t

theorem MovesAuthority.refl (s : State) : MovesAuthority [] [] s s := Moves.refl s

/-- Another authority in both states leaves what the event did otherwise. -/
theorem Moves.withAuthority {must may : List Flag} {s t : State} (h : Moves must may s t) (a : Authority) :
    Moves must may { s with authority := a } { t with authority := a } := by
  obtain ⟨hframe, hflags, hnotices, hsent, hdeferred, hrecorder⟩ := h
  refine ⟨?_, hflags, hnotices, hsent, hdeferred, hrecorder⟩
  rw [hframe]
  rfl

theorem MovesAuthority.set {must may : List Flag} {s t : State} (h : MovesAuthority must may s t) (a : Authority) :
    MovesAuthority must may s { t with authority := a } := Moves.withAuthority h a

theorem MovesAuthority.moved {must may must' may' : List Flag} {s t u : State} (h : MovesAuthority must may s t)
    (k : Moves must' may' t u) : MovesAuthority (must ++ must') (may ++ may') s u := by
  have hsame : u.authority = t.authority := by
    rw [k.frame]
    rfl
  unfold MovesAuthority
  rw [hsame]
  exact Moves.trans h k

theorem MovesAuthority.weaken {must may may' : List Flag} {s t : State} (h : MovesAuthority must may s t)
    (hmay : ∀ f ∈ may, f ∈ may') : MovesAuthority must may' s t := Moves.weaken h hmay

/-! ## The monitor and the switches (R2, R8, R16) -/

/-- The monitor of a source after a delivered frame; it stands while SOURCE is not LOADED (R1, R2). -/
def movedMonitor (k : Source) (gap : Bool) (s : State) : Monitor :=
  if s.tables.source.loaded then monitorMove (acquireCount s.tables) gap (s.authority.monitors.get k)
  else s.authority.monitors.get k

/-- The frame makes its source VALID. -/
def BecomesValid (k : Source) (gap : Bool) (s : State) : Prop :=
  (s.authority.monitors.get k).state ≠ .valid ∧ (movedMonitor k gap s).state = .valid

/-- The authority with the frame stored and the monitor moved (R2, R4). -/
def receivedAuthority (k : Source) (gap : Bool) (g : GoodDemand) (s : State) : Authority :=
  { s.authority with
    good := s.authority.good.set k (some g)
    monitors := s.authority.monitors.set k (movedMonitor k gap s) }

theorem PerSource.set_get {α : Type} (x : PerSource α) (k : Source) : x.set k (x.get k) = x := by cases k <;> rfl

theorem moveMonitor_stays {k : Source} {gap : Bool} {g : GoodDemand} {s : State} (h : ¬ BecomesValid k gap s) :
    moveMonitor k gap (storeDemand k g s) = { s with authority := receivedAuthority k gap g s } := by
  unfold moveMonitor storeDemand receivedAuthority movedMonitor
  unfold BecomesValid movedMonitor at h
  dsimp only
  by_cases hloaded : s.tables.source.loaded = true
  · rw [if_pos hloaded] at h ⊢
    rw [hloaded, if_neg (by simp)]
    exact if_neg h
  · rw [if_neg hloaded, if_pos (by simpa using hloaded), PerSource.set_get]

theorem moveMonitor_becomes {k : Source} {gap : Bool} {g : GoodDemand} {s : State} (h : BecomesValid k gap s) :
    moveMonitor k gap (storeDemand k g s) = validTransition k { s with authority := receivedAuthority k gap g s } := by
  unfold moveMonitor storeDemand receivedAuthority movedMonitor
  unfold BecomesValid movedMonitor at h
  dsimp only
  by_cases hloaded : s.tables.source.loaded = true
  · rw [if_pos hloaded] at h ⊢
    rw [hloaded, if_neg (by simp)]
    exact if_pos h
  · rw [if_neg hloaded] at h
    exact absurd h.2 h.1

/-- The frame completes the pending switch to its source (R8). -/
def CompletesSwitch (k : Source) (gap : Bool) (s : State) : Prop :=
  BecomesValid k gap s ∧ s.authority.pendingSwitch = some k

/-- The frame starts the preferred source (R16). -/
def StartsSwitch (k : Source) (gap : Bool) (s : State) : Prop :=
  BecomesValid k gap s ∧ s.authority.pendingSwitch = none ∧ s.authority.autoMark = true
  ∧ (s.authority.lock = some k ∨ s.authority.lock = none ∧ tableField s.tables.source 0 0 = sourceCode k)

section
variable {k : Source} {gap : Bool} {g : GoodDemand} {s : State}

theorem receivedAuthority_valid (h : BecomesValid k gap s) :
    ((receivedAuthority k gap g s).monitors.get k).state = .valid := by
  unfold receivedAuthority
  rw [PerSource.get_set_same]
  exact h.2

theorem moveMonitor_completes (h : CompletesSwitch k gap s) : moveMonitor k gap (storeDemand k g s) =
    raise .sourceSwitched { s with authority := switched k (receivedAuthority k gap g s) } := by
  obtain ⟨hbecomes, hpending⟩ := h
  have hpending' : (receivedAuthority k gap g s).pendingSwitch = some k := hpending
  rw [moveMonitor_becomes hbecomes]
  unfold validTransition
  rw [if_pos (by rw [hpending']; rfl)]
  exact completePending_due (s := { s with authority := receivedAuthority k gap g s }) hpending'
    (receivedAuthority_valid hbecomes)

theorem moveMonitor_starts (h : StartsSwitch k gap s) : moveMonitor k gap (storeDemand k g s) =
    raise .sourceSwitched { s with authority := { switched k (receivedAuthority k gap g s) with autoMark := false } } := by
  obtain ⟨hbecomes, hpending, hmark, hpreferred⟩ := h
  have hpending' : (receivedAuthority k gap g s).pendingSwitch = none := hpending
  rw [moveMonitor_becomes hbecomes]
  unfold validTransition
  rw [if_neg (by rw [hpending']; simp)]
  exact if_pos ((autoSwitchApplies_iff { s with authority := receivedAuthority k gap g s } k).mpr
    ⟨hmark, hpending', hpreferred, receivedAuthority_valid hbecomes⟩)

theorem moveMonitor_else (hcompletes : ¬ CompletesSwitch k gap s) (hstarts : ¬ StartsSwitch k gap s) :
    moveMonitor k gap (storeDemand k g s) = { s with authority := receivedAuthority k gap g s } := by
  by_cases hbecomes : BecomesValid k gap s
  · rw [moveMonitor_becomes hbecomes]
    unfold validTransition
    cases hpending : s.authority.pendingSwitch with
    | some j =>
      have hpending' : (receivedAuthority k gap g s).pendingSwitch = some j := hpending
      rw [if_pos (by rw [hpending']; rfl)]
      refine completePending_not_due fun hdue => hcompletes ⟨hbecomes, ?_⟩
      rw [hpending, ← hdue.1]
      exact hpending'.symm
    | none =>
      have hpending' : (receivedAuthority k gap g s).pendingSwitch = none := hpending
      rw [if_neg (by rw [hpending']; simp)]
      refine if_neg fun happlies => hstarts ?_
      obtain ⟨hmark, -, hpreferred, -⟩ := (autoSwitchApplies_iff _ k).mp happlies
      exact ⟨hbecomes, hpending, hmark, hpreferred⟩
  · exact moveMonitor_stays hbecomes

end

/-! ## The latch and its reset timer (R19 to R21) -/

/-- What a delivered frame does to the latch: set on the flag of a VALID source, the reset timer's move, the clearing
test. -/
def answerLatch (k : Source) (d : DemandRecord) (u : State) : State :=
  tryClearLatch k d.emergency d.reduction
    (evalEmergency (if d.emergency && isValid u k then setLatch u else u))

theorem deliverDemand_eq {k : Source} {gap : Bool} {f : Frame} {d : DemandRecord} (s : State)
    (h : readDemand f.payload = some d) : deliverDemand k gap f s =
      evalSand (answerLatch k d (moveMonitor k gap (storeDemand k ⟨d, f⟩ s))) := by
  unfold deliverDemand
  rw [h]
  rfl

theorem tryClearLatch_frame (k : Source) (emergency : Bool) (reduction : Nat) (s : State) : ∃ latch timer,
    tryClearLatch k emergency reduction s =
      { s with authority := { s.authority with latch := latch, resetTimer := timer } } := by
  unfold tryClearLatch
  split
  · exact ⟨_, _, rfl⟩
  · exact ⟨_, _, rfl⟩

theorem setLatch_move (s : State) : MovesAuthority [] [.emergency, .incidentLost] s (setLatch s) ∧
    ∃ latch timer, (setLatch s).authority = { s.authority with latch := latch, resetTimer := timer } := by
  by_cases h : s.authority.latch = true
  · rw [setLatch_of_set h]
    exact ⟨(MovesAuthority.refl s).weaken (by simp), _, _, rfl⟩
  · rw [setLatch_of_clear (by simpa using h)]
    refine ⟨?_, true, .stopped, ?_⟩
    · have hraised := ((MovesAuthority.refl s).set (latched s).authority).moved
        (raise_trigger_moves .emergency .emergency (latched s))
      exact { hraised with flags := hraised.flags.maybe.weaken (by simp) }
    · rw [trigger_authority, raise_authority]
      rfl

theorem answerLatch_move (k : Source) (d : DemandRecord) (u : State) :
    MovesAuthority [] [.emergency, .incidentLost] u (answerLatch k d u) ∧
    ∃ latch timer, (answerLatch k d u).authority = { u.authority with latch := latch, resetTimer := timer } := by
  have hset : MovesAuthority [] [.emergency, .incidentLost] u (if d.emergency && isValid u k then setLatch u else u) ∧
      ∃ latch timer, (if d.emergency && isValid u k then setLatch u else u).authority =
        { u.authority with latch := latch, resetTimer := timer } := by
    split
    · exact setLatch_move u
    · exact ⟨(MovesAuthority.refl u).weaken (by simp), _, _, rfl⟩
  obtain ⟨hmove, l1, t1, hauthority⟩ := hset
  unfold answerLatch
  obtain ⟨t2, htimer⟩ := evalEmergency_frame (if d.emergency && isValid u k then setLatch u else u)
  rw [htimer]
  obtain ⟨l3, t3, hclear⟩ := tryClearLatch_frame k d.emergency d.reduction
    { (if d.emergency && isValid u k then setLatch u else u) with
      authority := { (if d.emergency && isValid u k then setLatch u else u).authority with resetTimer := t2 } }
  rw [hclear]
  refine ⟨hmove.set _, l3, t3, ?_⟩
  rw [hauthority]

/-! ## A delivered frame (O15) -/

theorem readDemand_long {p : List Byte} (h : 6 ≤ p.length) : readDemand p = some
    { reduction := (p.getD 0 0).toNat
      independent := 256 * (p.getD 1 0).toNat + (p.getD 2 0).toNat
      handle := (p.getD 3 0).toNat
      emergency := (p.getD 4 0).getLsbD 0
      bailOff := (p.getD 4 0).getLsbD 1
      sand := (p.getD 4 0).getLsbD 2
      direction := p.getD 5 0 } := by
  unfold readDemand
  rw [if_neg (by omega), fieldAt_one, fieldAt_two p 1 (by omega), fieldAt_one]
  rfl

/-- What the monitor's stretch of the event does to the authority. -/
theorem moveMonitor_moves (k : Source) (gap : Bool) (g : GoodDemand) (s : State) :
    let u := moveMonitor k gap (storeDemand k g s)
    (CompletesSwitch k gap s → MovesAuthority [.sourceSwitched] [] s u
      ∧ u.authority = switched k (receivedAuthority k gap g s))
    ∧ (StartsSwitch k gap s → MovesAuthority [.sourceSwitched] [] s u
      ∧ u.authority = { switched k (receivedAuthority k gap g s) with autoMark := false })
    ∧ (¬ CompletesSwitch k gap s → ¬ StartsSwitch k gap s → MovesAuthority [] [] s u
      ∧ u.authority = receivedAuthority k gap g s) := by
  have hraise : ∀ a : Authority, MovesAuthority [.sourceSwitched] [] s (raise .sourceSwitched { s with authority := a })
      ∧ (raise .sourceSwitched { s with authority := a }).authority = a := fun a =>
    ⟨((MovesAuthority.refl s).set a).moved (raise_moves .sourceSwitched _), raise_authority _ _⟩
  refine ⟨fun h => ?_, fun h => ?_, fun hc hs => ?_⟩
  · rw [moveMonitor_completes h]
    exact hraise _
  · rw [moveMonitor_starts h]
    exact hraise _
  · rw [moveMonitor_else hc hs]
    exact ⟨(MovesAuthority.refl s).set _, rfl⟩

/-- The end of a delivered frame's event. -/
theorem exec_demandFrame {k : Source} {gap : Bool} {f : Frame} {s : State} (hr : s.inReset = false)
    {d : DemandRecord} (h : readDemand f.payload = some d) : exec (.demandFrame k gap f) s = .next (syncOutputs
      (evalSand (answerLatch k d (moveMonitor k gap (storeDemand k ⟨d, f⟩ s))))) := by
  rw [← deliverDemand_eq s h]
  exact event_live s _ hr

/-- The latch's stretch and the sand request, after the monitor's stretch. -/
theorem answerLatch_finishes {must : List Flag} {s u : State} (h : MovesAuthority must [] s u) (k : Source)
    (d : DemandRecord) :
    let t := syncOutputs (evalSand (answerLatch k d u))
    t.authority = { u.authority with latch := t.authority.latch, resetTimer := t.authority.resetTimer }
    ∧ FlagsRaised must [.emergency, .incidentLost] s t
    ∧ t = withTriggers (evalSand { s with authority := t.authority }) t := by
  intro t
  obtain ⟨hmoves, latch, timer, hauthority⟩ := answerLatch_move k d u
  have hsame : t.authority = (answerLatch k d u).authority := evalSand_authority _
  have hall : Moves must [.emergency, .incidentLost] { s with authority := t.authority } (answerLatch k d u) := by
    rw [hsame]
    have := (h.set (answerLatch k d u).authority).moved hmoves
    rw [List.append_nil] at this
    exact this
  obtain ⟨hframe, hflags, -⟩ := hall.sanded.triggeredFrom
  refine ⟨?_, ?_, hframe⟩
  · rw [hsame, hauthority]
  · intro x
    have hx := hflags x
    rw [evalSand_flagSet] at hx
    exact hx

/-- What a delivered frame makes of the part (R2, R4, R8, R16, R46). -/
theorem demandFrame_received {k : Source} {gap : Bool} {f : Frame} {s : State} (hr : s.inReset = false)
    {d : DemandRecord} (h : readDemand f.payload = some d) : ∃ t, exec (.demandFrame k gap f) s = .next t
      ∧ t.authority.good = s.authority.good.set k (some ⟨d, f⟩)
      ∧ t.authority.monitors = s.authority.monitors.set k (movedMonitor k gap s)
      ∧ t.authority.lock = s.authority.lock
      ∧ (CompletesSwitch k gap s ∨ StartsSwitch k gap s →
        t.authority = { switched k (receivedAuthority k gap ⟨d, f⟩ s) with
          latch := t.authority.latch, resetTimer := t.authority.resetTimer, autoMark := t.authority.autoMark }
        ∧ FlagsRaised [.sourceSwitched] [.emergency, .incidentLost] s t)
      ∧ (CompletesSwitch k gap s → t.authority.autoMark = s.authority.autoMark)
      ∧ (StartsSwitch k gap s → t.authority.autoMark = false)
      ∧ (¬ CompletesSwitch k gap s → ¬ StartsSwitch k gap s →
        t.authority = { receivedAuthority k gap ⟨d, f⟩ s with
          latch := t.authority.latch, resetTimer := t.authority.resetTimer }
        ∧ FlagsRaised [] [.emergency, .incidentLost] s t)
      ∧ t = withTriggers (evalSand { s with authority := t.authority }) t := by
  refine ⟨_, exec_demandFrame hr h, ?_⟩
  obtain ⟨hcompletes, hstarts, helse⟩ := moveMonitor_moves k gap ⟨d, f⟩ s
  by_cases hc : CompletesSwitch k gap s
  · have hs : ¬ StartsSwitch k gap s := fun hs => by
      have := hc.2.symm.trans hs.2.1
      cases this
    obtain ⟨hmove, ha⟩ := hcompletes hc
    obtain ⟨hauthority, hflags, hframe⟩ := answerLatch_finishes hmove k d
    rw [ha] at hauthority
    have hlock := congrArg Authority.lock hauthority
    have hmark := congrArg Authority.autoMark hauthority
    refine ⟨congrArg Authority.good hauthority, congrArg Authority.monitors hauthority,
      hlock, fun _ => ⟨?_, hflags⟩, fun _ => hmark, fun h => absurd h hs,
      fun h => absurd hc h, hframe⟩
    rw [hmark]
    exact hauthority
  by_cases hs : StartsSwitch k gap s
  · obtain ⟨hmove, ha⟩ := hstarts hs
    obtain ⟨hauthority, hflags, hframe⟩ := answerLatch_finishes hmove k d
    rw [ha] at hauthority
    have hlock := congrArg Authority.lock hauthority
    have hmark := congrArg Authority.autoMark hauthority
    refine ⟨congrArg Authority.good hauthority, congrArg Authority.monitors hauthority,
      hlock, fun _ => ⟨?_, hflags⟩, fun h => absurd h hc, fun _ => hmark,
      fun _ h => absurd hs h, hframe⟩
    rw [hmark]
    exact hauthority
  · obtain ⟨hmove, ha⟩ := helse hc hs
    obtain ⟨hauthority, hflags, hframe⟩ := answerLatch_finishes hmove k d
    rw [ha] at hauthority
    have hlock := congrArg Authority.lock hauthority
    exact ⟨congrArg Authority.good hauthority, congrArg Authority.monitors hauthority,
      hlock, fun h => absurd h (by tauto), fun h => absurd h hc, fun h => absurd h hs,
      fun _ _ => ⟨hauthority, hflags⟩, hframe⟩

/-- Settles O15. -/
theorem demandFrameMovesMonitor : Obligations.DemandFrameMovesMonitor := by
  unfold Obligations.DemandFrameMovesMonitor
  refine fun k gap f s hr => ⟨fun hshort => ?_, fun hlong => ?_⟩
  · have hnone : deliverDemand k gap f s = s := by
      unfold deliverDemand readDemand
      rw [if_pos hshort]
    exact (event_live s (deliverDemand k gap f) hr).trans (by rw [hnone])
  · intro b need m
    obtain ⟨t, ht, hgood, hmonitors, hlock, hswitch, hmark, hcleared, hstays, hframe⟩ :=
      demandFrame_received (k := k) (gap := gap) hr (readDemand_long hlong)
    have hbecomes : BecomesValid k gap s ↔ m.state ≠ .valid ∧ (t.authority.monitors.get k).state = .valid := by
      rw [hmonitors, PerSource.get_set_same]
      exact .rfl
    have hreceived : ∀ g, receivedAuthority k gap g s =
        { s.authority with good := s.authority.good.set k (some g), monitors := t.authority.monitors } := by
      rw [hmonitors]
      exact fun _ => rfl
    unfold CompletesSwitch at hswitch hmark hstays
    unfold StartsSwitch at hswitch hcleared hstays
    rw [hbecomes, sourceCode_eq, hreceived, ← hgood] at hswitch hstays
    rw [hbecomes] at hmark
    rw [hbecomes, sourceCode_eq] at hcleared
    exact ⟨t, ht, hgood, hmonitors, hlock, ⟨hswitch, hmark, hcleared, hstays⟩, hframe⟩

end Sys2Proof.Machine
end

section
/-! PROOF. The emergency latch at a delivered frame (O16). -/

namespace Sys2Proof.Machine

/-! ## The latch's stretch, by whether the frame sets the latch -/

/-- The frame calls for the latch: it carries the flag, and its source is VALID (R19). -/
def CallsLatch (k : Source) (d : DemandRecord) (u : State) : Prop :=
  d.emergency = true ∧ (u.authority.monitors.get k).state = .valid

theorem callsLatch_iff (k : Source) (d : DemandRecord) (u : State) :
    (d.emergency && isValid u k) = true ↔ CallsLatch k d u := by
  rw [Bool.and_eq_true, isValid_iff]
  rfl

theorem tryClearLatch_flagged (k : Source) (reduction : Nat) (x : State) : tryClearLatch k true reduction x = x := by
  unfold tryClearLatch clearsLatch
  simp

theorem answerLatch_sets {k : Source} {d : DemandRecord} {u : State} (hcalls : CallsLatch k d u)
    (hclear : u.authority.latch = false) :
    answerLatch k d u = evalEmergency (trigger .emergency (raise .emergency (latched u))) := by
  unfold answerLatch
  rw [if_pos ((callsLatch_iff k d u).mpr hcalls), hcalls.1, tryClearLatch_flagged, setLatch_of_clear hclear]

theorem answerLatch_stands {k : Source} {d : DemandRecord} {u : State}
    (h : ¬ (CallsLatch k d u ∧ u.authority.latch = false)) :
    answerLatch k d u = tryClearLatch k d.emergency d.reduction (evalEmergency u) := by
  unfold answerLatch
  by_cases hcalls : CallsLatch k d u
  · have hset : u.authority.latch = true := by
      by_contra hn
      exact h ⟨hcalls, by simpa using hn⟩
    rw [if_pos ((callsLatch_iff k d u).mpr hcalls), setLatch_of_set hset]
  · rw [if_neg (fun hp => hcalls ((callsLatch_iff k d u).mp hp))]

/-! ## The reset timer -/

theorem evalEmergency_expired (u : State) (hlatch : u.authority.latch = true) :
    (evalEmergency u).authority.resetTimer = .expired ↔
      u.authority.resetTimer = .expired ∧ emergencyCondition u = false := by
  unfold evalEmergency
  by_cases hcondition : emergencyCondition u = true
  · simp [hcondition]
  · have hno : emergencyCondition u = false := by simpa using hcondition
    rw [hlatch, hno]
    cases hresetTimer : u.authority.resetTimer with
    | stopped => by_cases hloaded : u.tables.source.loaded = true <;> simp [hresetTimer, hloaded]
    | running n => simp [hresetTimer]
    | expired => simp [hresetTimer]

theorem emergencyCondition_congr {s t : State} (hinputs : t.lines.inputs = s.lines.inputs)
    (hmonitors : t.authority.monitors = s.authority.monitors) (hgood : t.authority.good = s.authority.good) :
    emergencyCondition t = emergencyCondition s := by
  rw [Bool.eq_iff_iff, emergencyCondition_iff, emergencyCondition_iff, EmergencyPresent.congr hinputs hmonitors hgood]

/-- The clearing test leaves what R20 says of the reset timer. -/
theorem ResetTimerFollows.cleared {before : Timer} {x : State} (h : ResetTimerFollows before x) (k : Source)
    (emergency : Bool) (reduction : Nat) : ResetTimerFollows before (tryClearLatch k emergency reduction x) := by
  unfold tryClearLatch
  split
  · exact ⟨fun _ => rfl, fun hl => absurd hl (by simp), fun hl => absurd hl (by simp)⟩
  · exact h

section
variable {k : Source} {d : DemandRecord} {u : State}

theorem CallsLatch.present (hcalls : CallsLatch k d u)
    (hgood : ∃ g, u.authority.good.get k = some g ∧ g.record.emergency = d.emergency) : EmergencyPresent u := by
  obtain ⟨g, hg, hflag⟩ := hgood
  exact .inr ⟨k, hcalls.2, g, hg, hflag.trans hcalls.1⟩

/-- A frame that sets the latch (R19). -/
theorem answerLatch_set (hcalls : CallsLatch k d u) (hclear : u.authority.latch = false)
    (hgood : ∃ g, u.authority.good.get k = some g ∧ g.record.emergency = d.emergency) :
    let v := answerLatch k d u
    v.authority = { u.authority with latch := true, resetTimer := .stopped } ∧ EmergencyPresent v
    ∧ flagSet v .emergency = true
    ∧ v.recorder = (deliverTrigger { u with authority := v.authority } .emergency none none).1.recorder := by
  dsimp only
  have hpresent := hcalls.present hgood
  rw [answerLatch_sets hcalls hclear]
  obtain ⟨hframe, hflags, -⟩ := raise_trigger_moves .emergency .emergency (latched u)
  have hauthority : (trigger .emergency (raise .emergency (latched u))).authority =
      { u.authority with latch := true, resetTimer := .stopped } := by
    rw [trigger_authority, raise_authority]
    rfl
  have hinputs : (trigger .emergency (raise .emergency (latched u))).lines.inputs = u.lines.inputs := by
    rw [hframe]
    rfl
  have hthere : EmergencyPresent (trigger .emergency (raise .emergency (latched u))) :=
    (EmergencyPresent.congr hinputs (by rw [hauthority]) (by rw [hauthority])).mpr hpresent
  rw [evalEmergency_stopped (.inr ((emergencyCondition_iff _).mpr hthere))]
  have hall : ({ (trigger .emergency (raise .emergency (latched u))).authority with resetTimer := .stopped } : Authority)
      = { u.authority with latch := true, resetTimer := .stopped } := by rw [hauthority]
  refine ⟨hall, hthere, (hflags .emergency).1 (.inr (by simp)), ?_⟩
  dsimp only
  have hsame : SameForTrigger (latched u) (raise .emergency (latched u)) := by
    rw [raise_frame]
    exact ⟨rfl, rfl, rfl, rfl⟩
  have hgoal := hsame.deliverTrigger_eq .emergency none none
  rw [hall]
  exact hgoal

/-- A frame that finds the latch set, or does not call for it (R20, R21). -/
theorem answerLatch_kept (h : ¬ (CallsLatch k d u ∧ u.authority.latch = false)) :
    let v := answerLatch k d u
    v.recorder = u.recorder ∧ ResetTimerFollows u.authority.resetTimer v
    ∧ (u.authority.latch = false → v.authority.latch = false)
    ∧ (CallsLatch k d u → v.authority.latch = true)
    ∧ (u.authority.latch = true → (v.authority.latch = false ↔
        u.authority.resetTimer = .expired ∧ emergencyCondition u = false ∧ u.authority.active = .source k
        ∧ d.emergency = false ∧ u.tables.blend.loaded = true ∧ tableField u.tables.blend 7 0 ≤ d.reduction)) := by
  dsimp only
  rw [answerLatch_stands h]
  obtain ⟨timer, hframe⟩ := evalEmergency_frame u
  have hclears := clearsLatch_iff (evalEmergency u) k d.emergency d.reduction
  refine ⟨?_, (evalEmergency_follows u).cleared k _ _, fun hlatch => ?_, fun hcalls => ?_, fun hlatch => ?_⟩
  · obtain ⟨_, _, hclear⟩ := tryClearLatch_frame k d.emergency d.reduction (evalEmergency u)
    rw [hclear, hframe]
  · have hno : clearsLatch (evalEmergency u) k d.emergency d.reduction = false := by
      rw [hframe]
      unfold clearsLatch
      simp [hlatch]
    unfold tryClearLatch
    rw [hno, if_neg (by simp), hframe]
    exact hlatch
  · rw [hcalls.1, tryClearLatch_flagged, hframe]
    by_contra hn
    exact h ⟨hcalls, by simpa using hn⟩
  · have hexpired := evalEmergency_expired u hlatch
    have hkeeps : (evalEmergency u).authority.latch = true ∧ (evalEmergency u).authority.active = u.authority.active
        ∧ (evalEmergency u).tables = u.tables := by
      rw [hframe]
      exact ⟨hlatch, rfl, rfl⟩
    obtain ⟨hl, ha, ht⟩ := hkeeps
    rw [hexpired, ha, ht] at hclears
    have hiff : (tryClearLatch k d.emergency d.reduction (evalEmergency u)).authority.latch = false ↔
        clearsLatch (evalEmergency u) k d.emergency d.reduction = true := by
      unfold tryClearLatch
      split
      next hc => simp [hc]
      next hc => simp [hc, hl]
    rw [hiff, hclears]
    tauto

end

/-! ## A whole frame -/

/-- The monitor's stretch sets another authority, of the same latch and timer, and may raise SOURCE_SWITCHED. -/
theorem moveMonitor_shape (k : Source) (gap : Bool) (g : GoodDemand) (s : State) :
    ∃ a : Authority, (moveMonitor k gap (storeDemand k g s) = { s with authority := a }
        ∨ moveMonitor k gap (storeDemand k g s) = raise .sourceSwitched { s with authority := a })
      ∧ a.latch = s.authority.latch ∧ a.resetTimer = s.authority.resetTimer
      ∧ a.good = s.authority.good.set k (some g) := by
  by_cases hc : CompletesSwitch k gap s
  · exact ⟨_, .inr (moveMonitor_completes hc), rfl, rfl, rfl⟩
  by_cases hs : StartsSwitch k gap s
  · exact ⟨_, .inr (moveMonitor_starts hs), rfl, rfl, rfl⟩
  · exact ⟨_, .inl (moveMonitor_else hc hs), rfl, rfl, rfl⟩

theorem moveMonitor_latch (k : Source) (gap : Bool) (g : GoodDemand) (s : State) :
    let u := moveMonitor k gap (storeDemand k g s)
    u.authority.latch = s.authority.latch ∧ u.authority.resetTimer = s.authority.resetTimer
    ∧ u.authority.good.get k = some g ∧ u.tables = s.tables ∧ u.recorder = s.recorder ∧ u.control = s.control := by
  intro u
  obtain ⟨a, hu, hlatch, htimer, hgood⟩ := moveMonitor_shape k gap g s
  have hget : a.good.get k = some g := by rw [hgood, PerSource.get_set_same]
  have hparts : u.authority = a ∧ u.tables = s.tables ∧ u.recorder = s.recorder ∧ u.control = s.control := by
    show (moveMonitor k gap (storeDemand k g s)).authority = a ∧ (moveMonitor k gap (storeDemand k g s)).tables = _
      ∧ (moveMonitor k gap (storeDemand k g s)).recorder = _ ∧ (moveMonitor k gap (storeDemand k g s)).control = _
    rcases hu with hu | hu
    · rw [hu]
      exact ⟨rfl, rfl, rfl, rfl⟩
    · rw [hu, raise_authority, raise_tables, raise_recorder, raise_control]
      exact ⟨rfl, rfl, rfl, rfl⟩
  obtain ⟨ha, ht, hr, hc⟩ := hparts
  rw [ha]
  exact ⟨hlatch, htimer, hget, ht, hr, hc⟩

/-- The latch, its timer and the Recorder after a delivered frame (R19 to R21). -/
theorem demandFrame_latch {k : Source} {gap : Bool} {f : Frame} {s : State} (hr : s.inReset = false) {d : DemandRecord}
    (h : readDemand f.payload = some d) : ∃ t, exec (.demandFrame k gap f) s = .next t ∧
      let valid := (t.authority.monitors.get k).state = .valid
      (d.emergency = true ∧ valid →
        t.authority.latch = true ∧ t.authority.resetTimer = .stopped ∧ t.lines.outputs.emergActive = true
        ∧ (s.authority.latch = false → flagSet t .emergency = true))
      ∧ (¬ (d.emergency = true ∧ valid) → s.authority.latch = false → t.authority.latch = false)
      ∧ (s.authority.latch = true → (t.authority.latch = false ↔
          s.authority.resetTimer = .expired ∧ emergencyCondition t = false ∧ t.authority.active = .source k
          ∧ d.emergency = false ∧ s.tables.blend.loaded = true ∧ tableField s.tables.blend 7 0 ≤ d.reduction))
      ∧ ResetTimerFollows s.authority.resetTimer t
      ∧ (d.emergency = true ∧ valid ∧ s.authority.latch = false → t.recorder =
          (deliverTrigger { s with authority := t.authority } .emergency none none).1.recorder)
      ∧ (¬ (d.emergency = true ∧ valid ∧ s.authority.latch = false) → t.recorder = s.recorder) := by
  refine ⟨_, exec_demandFrame hr h, ?_⟩
  obtain ⟨hlatch, htimer, hgood, htables, hrecorder, hcontrol⟩ := moveMonitor_latch k gap ⟨d, f⟩ s
  generalize moveMonitor k gap (storeDemand k ⟨d, f⟩ s) = u at *
  have hflag : ∃ g, u.authority.good.get k = some g ∧ g.record.emergency = d.emergency := ⟨_, hgood, rfl⟩
  obtain ⟨hmove, latch, timer, hauthority⟩ := answerLatch_move k d u
  have htauthority : (syncOutputs (evalSand (answerLatch k d u))).authority = (answerLatch k d u).authority :=
    evalSand_authority _
  have htrecorder : (syncOutputs (evalSand (answerLatch k d u))).recorder = (answerLatch k d u).recorder :=
    evalSand_recorder _
  have htinputs : (syncOutputs (evalSand (answerLatch k d u))).lines.inputs = (answerLatch k d u).lines.inputs := by
    rw [syncOutputs_inputs, evalSand_lines]
  have htflag : ∀ x, flagSet (syncOutputs (evalSand (answerLatch k d u))) x = flagSet (answerLatch k d u) x :=
    evalSand_flagSet _
  have houtput : (syncOutputs (evalSand (answerLatch k d u))).lines.outputs.emergActive
      = (answerLatch k d u).authority.latch := congrArg Authority.latch (evalSand_authority (answerLatch k d u))
  have httables : (syncOutputs (evalSand (answerLatch k d u))).tables = (answerLatch k d u).tables :=
    evalSand_tables _
  have hinputs : (answerLatch k d u).lines.inputs = u.lines.inputs := by
    rw [hmove.frame]
    rfl
  have hcondition : emergencyCondition (syncOutputs (evalSand (answerLatch k d u))) = emergencyCondition u :=
    emergencyCondition_congr (htinputs.trans hinputs) (by rw [htauthority, hauthority]) (by rw [htauthority, hauthority])
  have hvalid : ((answerLatch k d u).authority.monitors.get k).state = .valid ↔
      (u.authority.monitors.get k).state = .valid := by
    rw [hauthority]
  have hactive : (answerLatch k d u).authority.active = u.authority.active := by
    rw [hauthority]
  dsimp only
  rw [htauthority, hvalid, hactive, htrecorder, houtput, htflag, hcondition, ← htables, ← hlatch, ← htimer]
  by_cases hsets : CallsLatch k d u ∧ u.authority.latch = false
  · obtain ⟨hcalls, hclear⟩ := hsets
    obtain ⟨hafter, hpresent, hflags, htrigger⟩ := answerLatch_set hcalls hclear hflag
    have hpresent' : EmergencyPresent (syncOutputs (evalSand (answerLatch k d u))) :=
      (EmergencyPresent.congr htinputs (by rw [htauthority]) (by rw [htauthority])).mpr hpresent
    have hsame : SameForTrigger { u with authority := (answerLatch k d u).authority }
        { s with authority := (answerLatch k d u).authority, tables := u.tables } :=
      ⟨hrecorder.symm, hcontrol.symm, rfl, rfl⟩
    refine ⟨fun _ => ⟨?_, ?_, ?_, fun _ => hflags⟩, fun hn => absurd hcalls hn,
      fun hset => absurd hset (by simp [hclear]), ⟨fun _ => ?_, fun _ hno => absurd hpresent' hno,
      fun _ hno => absurd hpresent' hno⟩, fun _ => ?_, fun hn => absurd ⟨hcalls.1, hcalls.2, hclear⟩ hn⟩
    · rw [hafter]
    · rw [hafter]
    · rw [hafter]
    · rw [htauthority, hafter]
    · rw [htrigger, hsame.deliverTrigger_eq]
  · obtain ⟨hstays, hfollows, hclear, hcalled, hclears⟩ := answerLatch_kept hsets
    refine ⟨fun hcalls => ⟨hcalled hcalls, ?_, hcalled hcalls, fun hno => absurd ⟨hcalls, hno⟩ hsets⟩,
      fun _ => hclear, hclears, hfollows.congr htinputs htauthority httables,
      fun hall => absurd ⟨⟨hall.1, hall.2.1⟩, hall.2.2⟩ hsets, fun _ => hstays.trans hrecorder⟩
    refine hfollows.1 (.inr ((EmergencyPresent.congr hinputs ?_ ?_).mpr (CallsLatch.present hcalls hflag)))
    · rw [hauthority]
    · rw [hauthority]

/-- Settles O16. -/
theorem demandFrameActsOnLatch : Obligations.DemandFrameActsOnLatch := by
  unfold Obligations.DemandFrameActsOnLatch
  intro k gap f s hr hlong
  exact demandFrame_latch hr (readDemand_long hlong)

end Sys2Proof.Machine
end

section
/-! PROOF. The Slide Control Unit's expiries, its sand request and the axle commands (O24 to O26). -/

namespace Sys2Proof.Machine

/-! ## A trigger before the sand request -/

theorem evalSand_sameForTrigger (u : State) : SameForTrigger u (evalSand u) := by
  rw [evalSand_eq]
  exact ⟨rfl, rfl, rfl, rfl⟩

/-- A flag and its trigger, after which the sand request is evaluated (R46). -/
theorem triggeredBy_sanded (f : Flag) (hf : f ≠ .incidentLost) (kind : TriggerKind) (u : State) :
    TriggeredBy kind [f] (evalSand u) (syncOutputs (evalSand (trigger kind (raise f u)))) := by
  obtain ⟨-, hrecorder, hlost⟩ := triggeredBy_raise u f hf kind
  refine ⟨(raise_trigger_moves f kind u).sanded.triggeredFrom, ?_, ?_⟩
  · rw [(evalSand_sameForTrigger u).deliverTrigger_eq, ← hrecorder]
    exact evalSand_recorder _
  · rw [(evalSand_sameForTrigger u).lost kind none none (evalSand_flagSet u .incidentLost), ← hlost]
    exact evalSand_flagSet _ _

/-! ## Stale data and the sand request (O24) -/

theorem Six.toList_eq {α : Type} (x : Six α) : x.toList = six.map x.get := rfl

/-- The three conditions of R46. -/
theorem sandCalled_iff (s : State) : sandCalled s = true ↔
    tableField s.tables.slide 18 0
        ≤ (six.filter (fun i => decide ((s.slide.axles.get i).state = .relief ∨ (s.slide.axles.get i).state = .hold))).length
      ∨ (∃ i, (s.slide.axles.get i).prolonged = true) ∨ (activeDemand s).sand = true := by
  have hcount : (s.slide.axles.toList.filter inReliefOrHold).length =
      (six.filter (fun i => decide ((s.slide.axles.get i).state = .relief ∨ (s.slide.axles.get i).state = .hold))).length := by
    have hstate : (fun i => decide ((s.slide.axles.get i).state = .relief ∨ (s.slide.axles.get i).state = .hold)) =
        inReliefOrHold ∘ s.slide.axles.get := by
      funext i
      simp [inReliefOrHold, Bool.decide_or]
    rw [Six.toList_eq, List.filter_map, List.length_map, hstate]
  have hany : s.slide.axles.toList.any (fun a => a.prolonged) = true ↔ ∃ i, (s.slide.axles.get i).prolonged = true := by
    rw [List.any_eq_true]
    constructor
    · rintro ⟨a, ha, hp⟩
      obtain ⟨i, rfl⟩ := Six.mem_toList.mp ha
      exact ⟨i, hp⟩
    · rintro ⟨i, hp⟩
      exact ⟨_, Six.mem_toList.mpr ⟨i, rfl⟩, hp⟩
  unfold sandCalled
  dsimp only
  rw [Bool.or_eq_true, Bool.or_eq_true, hany, hcount, decide_eq_true_iff, or_assoc]
  exact .rfl

theorem evalSand_uncalled {s : State} (hloaded : s.tables.slide.loaded = true) (h : sandCalled s = false) :
    evalSand s = if s.slide.sandRequest = false then s
      else if tableField s.tables.slide 19 0 = 0 then
        { s with slide := { s.slide with sandRequest := false, sandTimer := .stopped } }
      else { s with slide := { s.slide with sandTimer := s.slide.sandTimer.startIfStopped } } := by
  unfold evalSand
  rw [hloaded, h, if_neg (by simp), if_neg (by simp)]
  simp only [Bool.not_eq_true']
  rfl

/-- Settles O24. -/
theorem speedLossAndSand : Obligations.SpeedLossAndSand := by
  unfold Obligations.SpeedLossAndSand
  refine ⟨?_, ?_, ?_⟩
  · intro s hr due
    have hstale : (s.slide.speedState = .valid && s.slide.staleTimer.exceeded (speedStaleMs s.tables)) = true ↔ due := by
      rw [Bool.and_eq_true, decide_eq_true_iff, Timer.exceeded_iff]
      exact .rfl
    refine ⟨_, event_live s staleExpiry hr, fun hdue => ?_, fun hnot => ?_⟩
    all_goals unfold staleExpiry
    · rw [if_pos (hstale.mpr hdue), loseSpeed_valid hdue.1]
      exact triggeredBy_raise _ .speedLost (by simp) .speedLost
    · rw [if_neg (mt hstale.mp hnot)]
  · intro s hr due
    have hreached : s.slide.sandTimer.reached (sandHoldMs s.tables) = true ↔ due := Timer.reached_iff _ _
    exact event_when hr (fun h => if_pos (hreached.mpr h)) (fun h => if_neg (mt hreached.mp h))
  · intro s called
    refine ⟨fun hloaded => if_pos (by rw [hloaded]; rfl), fun hloaded hcalled => ?_, fun hloaded hnot => ?_⟩
    · exact (if_neg (by simp [hloaded])).trans (if_pos ((sandCalled_iff s).mpr hcalled))
    · exact evalSand_uncalled hloaded (by simpa using mt (sandCalled_iff s).mp hnot)

/-! ## The axles' timers (O25) -/

/-- Settles O25. -/
theorem axleTimersExpire : Obligations.AxleTimersExpire := by
  unfold Obligations.AxleTimersExpire
  constructor
  · intro i s hr a due
    have hdue' : episodeDue s i = true ↔ due := by
      unfold episodeDue
      rw [Bool.and_eq_true, decide_eq_true_iff, Timer.exceeded_iff]
      exact .rfl
    refine ⟨_, event_live s (episodeExpiry i) hr, fun hdue => ?_, fun hnot => ?_⟩
    all_goals unfold episodeExpiry
    · rw [if_pos (hdue'.mpr hdue)]
      exact triggeredBy_sanded .slideProlonged (by simp) .slideProlonged _
    · rw [if_neg (mt hdue'.mp hnot)]
  · intro i s hr a due
    have hdue' : lockedDue s i = true ↔ due := by
      unfold lockedDue
      rw [Bool.and_eq_true, Bool.and_eq_true, decide_eq_true_iff, decide_eq_true_iff, Timer.reached_iff, and_assoc]
      exact .rfl
    refine ⟨_, event_live s (lockedExpiry i) hr, fun hdue => ?_, fun hnot => ?_⟩
    all_goals unfold lockedExpiry
    · rw [if_pos (hdue'.mpr hdue)]
      exact (raise_moves .sensorFault _).sanded.raisedFrom (by
        rw [evalSand_recorder, evalSand_recorder, raise_recorder])
    · rw [if_neg (mt hdue'.mp hnot)]

/-! ## Isolation and restore (O26) -/

theorem axleOfArg_none {n : Nat} (h : n < 1 ∨ 6 < n) : axleOfArg n = none := by
  unfold axleOfArg
  split
  case h_7 => rfl
  all_goals exact absurd h (by decide)

theorem axleOfArg_axle (i : Fin 6) : axleOfArg (i.val + 1) = some i := by
  fin_cases i <;> rfl

theorem setAxle_sanded (s : State) (src : Byte) (payload : List Byte) (i : Fin 6) (a : AxleRecord) :
    evalSand (setAxle (underRequest s src payload) i a) = underRequest (evalSand (setAxle s i a)) src payload := by
  rw [← evalSand_underRequest]
  rfl

/-- Settles O26. -/
theorem axleIsolatedAndRestored : Obligations.AxleIsolatedAndRestored := by
  unfold Obligations.AxleIsolatedAndRestored
  have hmanagement : ∀ (s : State) (i : Fin 6) (a : AxleRecord),
      (evalSand (setAxle s i a)).management = s.management := fun s i a => by
    rw [evalSand_eq]
    rfl
  constructor
  · intro src tag axle s hr hm respond
    have hown : ∀ x : State, carryOut .axleIsolate [axle] x = ownAxleIsolate [axle] x := fun _ => rfl
    refine ⟨fun hnone => request_unchanged s src tag .axleIsolate [axle] _ _ hr hm rfl ?_, fun i hi => ?_⟩
    · rw [hown]
      unfold ownAxleIsolate
      rw [fieldAt_single, axleOfArg_none hnone]
    · intro a
      have hcarry : ∀ x : State, carryOut .axleIsolate [axle] x =
          if (x.slide.axles.get i).state = .isolated then (x, .answer .redundant [])
          else (evalSand (setAxle x i (isolate .command (x.slide.axles.get i))), .answer .ok []) := by
        intro x
        rw [hown]
        unfold ownAxleIsolate
        rw [fieldAt_single, hi, axleOfArg_axle]
      by_cases hisolated : a.state = .isolated
      · exact ⟨_, request_unchanged s src tag .axleIsolate [axle] _ _ hr hm rfl ((hcarry _).trans (if_pos hisolated)),
          fun _ => rfl, fun hn => absurd hisolated hn⟩
      · have hdone : carryOut .axleIsolate [axle] (underRequest s src (requestPayload tag .axleIsolate [axle])) =
            (underRequest (evalSand (setAxle s i (isolate .command (s.slide.axles.get i)))) src
              (requestPayload tag .axleIsolate [axle]), .answer .ok []) := by
          rw [hcarry, ← setAxle_sanded]
          exact if_neg hisolated
        exact ⟨_, request_changed hr hm rfl (hmanagement s i _) hdone, fun hn => absurd hn hisolated, fun _ => rfl⟩
  · intro src tag axle s hr hm respond
    have hown : ∀ x : State, carryOut .axleRestore [axle] x = ownAxleRestore [axle] x := fun _ => rfl
    refine ⟨fun hnone => request_unchanged s src tag .axleRestore [axle] _ _ hr hm rfl ?_, fun i hi => ?_⟩
    · rw [hown]
      unfold ownAxleRestore
      rw [fieldAt_single, axleOfArg_none hnone]
    · intro a
      have hcarry : ∀ x : State, carryOut .axleRestore [axle] x =
          if (x.slide.axles.get i).state = .isolated then
            (evalSand (setAxle x i { x.slide.axles.get i with state := .rolling, f := 1000, isolation := none }),
              .answer .ok [])
          else (x, .answer .notIsolated []) := by
        intro x
        rw [hown]
        unfold ownAxleRestore
        rw [fieldAt_single, hi, axleOfArg_axle]
      by_cases hisolated : a.state = .isolated
      · have hdone : carryOut .axleRestore [axle] (underRequest s src (requestPayload tag .axleRestore [axle])) =
            (underRequest (evalSand (setAxle s i ({ s.slide.axles.get i with state := .rolling, f := 1000, isolation := none }))) src
              (requestPayload tag .axleRestore [axle]), .answer .ok []) := by
          rw [hcarry, ← setAxle_sanded]
          exact if_pos hisolated
        exact ⟨_, request_changed hr hm rfl (hmanagement s i _) hdone, fun hn => absurd hisolated hn, fun _ => rfl⟩
      · exact ⟨_, request_unchanged s src tag .axleRestore [axle] _ _ hr hm rfl ((hcarry _).trans (if_neg hisolated)),
          fun _ => rfl, fun hn => absurd hn hisolated⟩

end Sys2Proof.Machine
end

section
/-! PROOF. The Dynamic Brake Channel: status, shortfall, its timers, heat and the trip's clearing (O27 to O31). -/

namespace Sys2Proof.Machine

/-! ## A stored status (O27) -/

/-- The record of a status of 8 bytes or more (R49). -/
def tractionRecord (p : List Byte) : TractionRecord :=
  { effort := Six.ofFn (fun i => min (p.getD i.val 0).toNat 120)
    ready := (p.getD 6 0).getLsbD 0
    fault := (p.getD 6 0).getLsbD 1
    blowerOk := decide (p.getD 7 0 = 1) }

theorem readTraction_short {p : List Byte} (h : p.length < 8) : readTraction p = none := if_pos h

theorem readTraction_long {p : List Byte} (h : 8 ≤ p.length) : readTraction p = some (tractionRecord p) := by
  unfold readTraction
  rw [if_neg (by omega)]
  simp only [fieldAt_one]
  rfl

theorem handleTraction_long {p : List Byte} (h : 8 ≤ p.length) (s : State) :
    handleTraction p s = offerTraction (tractionRecord p) (storeTraction (tractionRecord p) s) := by
  unfold handleTraction
  rw [readTraction_long h]

section
variable {t : TractionRecord} {s : State}

theorem offerTraction_idle (h : s.brake.state = .off ∨ s.brake.state = .tripped ∨ s.brake.state = .cutout) :
    offerTraction t s = s := by
  unfold offerTraction
  rcases h with h | h | h
  all_goals rw [h]

theorem offerTraction_fault (h : s.brake.state = .setup ∨ s.brake.state = .active) (hfault : t.fault = true) :
    offerTraction t s = trip .converter s := by
  unfold offerTraction
  rcases h with h | h
  all_goals
    rw [h]
    exact if_pos hfault

theorem offerTraction_setup (h : s.brake.state = .setup) (hfault : t.fault = false) :
    offerTraction t s = if t.ready then becomeActive s else s := by
  unfold offerTraction
  rw [h, hfault]
  rfl

theorem offerTraction_active (h : s.brake.state = .active) (hfault : t.fault = false) :
    offerTraction t s = if s.brake.shortfall then shortfallClearTest s else shortfallSetTest s := by
  unfold offerTraction
  rw [h, hfault]
  rfl

theorem trip_triggered (cause : TripCause) (s : State) :
    TriggeredBy .dbTrip [.dbTrip] { s with brake := broughtOut s.brake .tripped (some cause) }
      (syncOutputs (trip cause s)) := triggeredBy_raise _ .dbTrip (by simp) .dbTrip

end

/-! ## The shortfall tests (O28) -/

section
variable {s : State}

theorem deficit_iff : deficit s.tables s.brake.aLast s.blend.e.sum = true ↔
    20 ≤ s.blend.e.sum ∧ s.brake.aLast * 1000 < s.blend.e.sum * tableField s.tables.db 2 0 := by
  unfold deficit
  rw [Bool.and_eq_true, decide_eq_true_iff, decide_eq_true_iff]
  exact .rfl

theorem recovered_iff : recovered s.tables s.brake.aLast s.blend.e.sum = true ↔
    s.blend.e.sum * tableField s.tables.db 3 0 ≤ s.brake.aLast * 1000 := decide_eq_true_iff

theorem shortfallSetTest_none (h : deficit s.tables s.brake.aLast s.blend.e.sum ≠ true) :
    shortfallSetTest s = { s with brake := { s.brake with shortSet := .stopped } } := if_neg h

theorem shortfallSetTest_waits (h : deficit s.tables s.brake.aLast s.blend.e.sum = true)
    (hwaits : s.brake.shortSet.startIfStopped.reached (shortMs s.tables) ≠ true) :
    shortfallSetTest s = { s with brake := { s.brake with shortSet := s.brake.shortSet.startIfStopped } } :=
  (if_pos h).trans (if_neg hwaits)

theorem shortfallSetTest_sets (h : deficit s.tables s.brake.aLast s.blend.e.sum = true)
    (hlasts : s.brake.shortSet.startIfStopped.reached (shortMs s.tables) = true) :
    shortfallSetTest s = trigger .dbShortfall (raise .dbShortfall { s with brake := { s.brake with
      shortfall := true, shortSet := .stopped, shortClear := .stopped } }) :=
  (if_pos h).trans (if_pos hlasts)

theorem shortfallClearTest_none (h : recovered s.tables s.brake.aLast s.blend.e.sum ≠ true) :
    shortfallClearTest s = { s with brake := { s.brake with shortClear := .stopped } } := if_neg h

theorem shortfallClearTest_waits (h : recovered s.tables s.brake.aLast s.blend.e.sum = true)
    (hwaits : s.brake.shortClear.startIfStopped.reached (shortMs s.tables) ≠ true) :
    shortfallClearTest s = { s with brake := { s.brake with shortClear := s.brake.shortClear.startIfStopped } } :=
  (if_pos h).trans (if_neg hwaits)

theorem shortfallClearTest_clears (h : recovered s.tables s.brake.aLast s.blend.e.sum = true)
    (hlasts : s.brake.shortClear.startIfStopped.reached (shortMs s.tables) = true) :
    shortfallClearTest s = { s with brake := { s.brake with shortfall := false, shortClear := .stopped } } :=
  (if_pos h).trans (if_pos hlasts)

end

/-- A test of the shortfall leaves all of the channel but the latch and its two timers, and all of the part but
what a trigger does. -/
def TestsShortfall (s u : State) : Prop :=
  ∃ latch set clear, ∃ must may,
    Moves must may { s with brake := { s.brake with shortfall := latch, shortSet := set, shortClear := clear } } u

theorem shortfallSetTest_tests (s : State) : TestsShortfall s (shortfallSetTest s) := by
  by_cases h : deficit s.tables s.brake.aLast s.blend.e.sum = true
  · by_cases hlasts : s.brake.shortSet.startIfStopped.reached (shortMs s.tables) = true
    · rw [shortfallSetTest_sets h hlasts]
      exact ⟨_, _, _, _, _, raise_trigger_moves .dbShortfall .dbShortfall _⟩
    · rw [shortfallSetTest_waits h hlasts]
      exact ⟨_, _, _, _, _, Moves.refl _⟩
  · rw [shortfallSetTest_none h]
    exact ⟨_, _, _, _, _, Moves.refl _⟩

theorem shortfallClearTest_tests (s : State) : TestsShortfall s (shortfallClearTest s) := by
  by_cases h : recovered s.tables s.brake.aLast s.blend.e.sum = true
  · by_cases hlasts : s.brake.shortClear.startIfStopped.reached (shortMs s.tables) = true
    · rw [shortfallClearTest_clears h hlasts]
      exact ⟨_, _, _, _, _, Moves.refl _⟩
    · rw [shortfallClearTest_waits h hlasts]
      exact ⟨_, _, _, _, _, Moves.refl _⟩
  · rw [shortfallClearTest_none h]
    exact ⟨_, _, _, _, _, Moves.refl _⟩

theorem TestsShortfall.result {s u : State} (h : TestsShortfall s u) :
    u.brake = { s.brake with
      shortfall := u.brake.shortfall, shortSet := u.brake.shortSet, shortClear := u.brake.shortClear }
    ∧ syncOutputs u = withTriggers { s with brake := u.brake } (syncOutputs u) := by
  obtain ⟨latch, set, clear, must, may, hmoves⟩ := h
  have hbrake : u.brake = { s.brake with shortfall := latch, shortSet := set, shortClear := clear } := by
    rw [hmoves.frame]
    rfl
  obtain ⟨hframe, -⟩ := hmoves.triggeredFrom
  rw [← hbrake] at hframe
  refine ⟨?_, hframe⟩
  rw [hbrake]

theorem clean_active {payload : List Byte} {s : State} (hlong : 8 ≤ payload.length) (hactive : s.brake.state = .active)
    (hfault : (tractionRecord payload).fault = false) :
    handleTraction payload s = if s.brake.shortfall then shortfallClearTest (storeTraction (tractionRecord payload) s)
      else shortfallSetTest (storeTraction (tractionRecord payload) s) := by
  rw [handleTraction_long hlong]
  exact offerTraction_active (s := storeTraction (tractionRecord payload) s) hactive hfault

/-- Settles O27. -/
theorem tractionStatusHandled : Obligations.TractionStatusHandled := by
  unfold Obligations.TractionStatusHandled
  intro payload s hr
  have hexec : exec (.tractionStatus payload) s = .next (syncOutputs (handleTraction payload s)) :=
    event_live s (handleTraction payload) hr
  constructor
  · intro hshort
    rw [hexec]
    unfold handleTraction
    rw [readTraction_short hshort]
  · intro hlong b effort ready fault stored
    have hlive := handleTraction_long hlong s
    let u := storeTraction (tractionRecord payload) s
    refine ⟨_, hexec, fun hidle => ?_, fun hon hfault => ?_, fun hsetup hfault hready => ?_,
      fun hsetup hfault hready => ?_, fun hactive hfault => ?_⟩
    · rw [hlive, offerTraction_idle (s := u) hidle]
      rfl
    · rw [hlive, offerTraction_fault (s := u) hon hfault]
      exact trip_triggered .converter _
    · rw [hlive, offerTraction_setup (s := u) hsetup hfault]
      exact congrArg syncOutputs (if_pos hready)
    · rw [hlive, offerTraction_setup (s := u) hsetup hfault]
      exact congrArg syncOutputs (if_neg (Bool.eq_false_iff.mp hready))
    · have htests : TestsShortfall (storeTraction (tractionRecord payload) s) (handleTraction payload s) := by
        rw [clean_active hlong hactive hfault]
        split
        · exact shortfallClearTest_tests _
        · exact shortfallSetTest_tests _
      exact htests.result

/-- Settles O28. -/
theorem shortfallTested : Obligations.ShortfallTested := by
  unfold Obligations.ShortfallTested
  intro payload s hr hlong hactive hfault hpositive effort stored a c deficit recovery hold
  let u : State := { s with brake := stored }
  have hstored : storeTraction (tractionRecord payload) s = u := by
    unfold storeTraction tractionRecord
    rw [hfault]
  have htested : handleTraction payload s = if s.brake.shortfall then shortfallClearTest u else shortfallSetTest u := by
    rw [clean_active hlong hactive hfault, hstored]
  have hdeficit : Machine.deficit u.tables u.brake.aLast u.blend.e.sum = true ↔ deficit := deficit_iff
  have hrecovered : recovered u.tables u.brake.aLast u.blend.e.sum = true ↔ recovery := recovered_iff
  have hwaits : ∀ {t : Timer} {e : Nat}, t.startIfStopped = .running e → e < hold →
      t.startIfStopped.reached (shortMs u.tables) ≠ true := by
    intro t e ht he hn
    rw [ht] at hn
    exact absurd (of_decide_eq_true hn) (Nat.not_le_of_lt he)
  have hlasts : ∀ {t : Timer} {e : Nat}, t.startIfStopped = .running e → hold ≤ e →
      t.startIfStopped.reached (shortMs u.tables) = true := by
    intro t e ht he
    rw [ht]
    exact decide_eq_true he
  have hstart : ∀ {t : Timer}, t = .stopped → t.startIfStopped = .running 0 := fun h => by rw [h]; rfl
  have hrun : ∀ {t : Timer} {e : Nat}, t = .running e → t.startIfStopped = t := fun h => by rw [h]; rfl
  refine ⟨_, event_live s (handleTraction payload) hr, fun hclear => ?_, fun hset => ?_⟩
  · rw [htested, if_neg (Bool.eq_false_iff.mp hclear)]
    refine ⟨fun hn => ?_, fun hd hstopped => ?_, fun e hd hruns he => ?_, fun e hd hruns he => ?_⟩
    · rw [shortfallSetTest_none (mt hdeficit.mp hn)]
    · rw [shortfallSetTest_waits (hdeficit.mpr hd) (hwaits (hstart hstopped) hpositive)]
      show syncOutputs { s with brake := { stored with shortSet := s.brake.shortSet.startIfStopped } } = _
      rw [hstart hstopped]
    · rw [shortfallSetTest_waits (hdeficit.mpr hd) (hwaits ((hrun hruns).trans hruns) he)]
      show syncOutputs { s with brake := { stored with shortSet := s.brake.shortSet.startIfStopped } } = _
      rw [hrun hruns]
    · rw [shortfallSetTest_sets (hdeficit.mpr hd) (hlasts ((hrun hruns).trans hruns) he)]
      exact triggeredBy_raise _ .dbShortfall (by simp) .dbShortfall
  · rw [htested, if_pos hset]
    refine ⟨fun hn => ?_, fun hd hstopped => ?_, fun e hd hruns he => ?_, fun e hd hruns he => ?_⟩
    · rw [shortfallClearTest_none (mt hrecovered.mp hn)]
    · rw [shortfallClearTest_waits (hrecovered.mpr hd) (hwaits (hstart hstopped) hpositive)]
      show syncOutputs { s with brake := { stored with shortClear := s.brake.shortClear.startIfStopped } } = _
      rw [hstart hstopped]
    · rw [shortfallClearTest_waits (hrecovered.mpr hd) (hwaits ((hrun hruns).trans hruns) he)]
      show syncOutputs { s with brake := { stored with shortClear := s.brake.shortClear.startIfStopped } } = _
      rw [hrun hruns]
    · rw [shortfallClearTest_clears (hrecovered.mpr hd) (hlasts ((hrun hruns).trans hruns) he)]

/-! ## The channel's timers (O29) -/

/-- Settles O29. -/
theorem setupAndIdleExpire : Obligations.SetupAndIdleExpire := by
  unfold Obligations.SetupAndIdleExpire
  constructor
  · intro s hr due
    have hdue' : (s.brake.state = .setup && s.brake.setupTimer.reached (setupMs s.tables)) = true ↔ due := by
      rewrite [Bool.and_eq_true, decide_eq_true_iff, Timer.reached_iff]
      rfl
    refine ⟨_, event_live s setupExpiry hr, fun hdue => ?_, fun hnot => ?_⟩
    · rw [show setupExpiry s = trip .setupTimeout s from if_pos (hdue'.mpr hdue)]
      exact trip_triggered .setupTimeout s
    · exact congrArg syncOutputs (if_neg (mt hdue'.mp hnot))
  · intro s hr due
    have hdue' : (s.brake.state = .active && s.brake.idleTimer.reached (idleMs s.tables)) = true ↔ due := by
      rewrite [Bool.and_eq_true, decide_eq_true_iff, Timer.reached_iff]
      rfl
    exact event_when (u := { s with brake := broughtOut s.brake .off s.brake.cause }) hr
      (fun hdue => if_pos (hdue'.mpr hdue)) (fun hnot => if_neg (mt hdue'.mp hnot))

/-! ## Grid heat (O30) -/

theorem coolShare_eq (s : State) :
    ((∃ x, s.brake.status = some x ∧ x.blowerOk = true) → coolShare s = tableField s.tables.heat 2 0)
    ∧ ((¬ ∃ x, s.brake.status = some x ∧ x.blowerOk = true) → coolShare s = tableField s.tables.heat 3 0) := by
  unfold coolShare
  constructor
  · rintro ⟨x, hx, hblower⟩
    rw [hx]
    exact if_pos hblower
  · intro hnone
    cases hx : s.brake.status with
    | none => rfl
    | some x => exact if_neg fun hblower => hnone ⟨x, hx, hblower⟩

/-- The heat after a period as R61 has it, in integers. -/
theorem nextHeat_int (s : State) (h : Nat) : (h : Int) = min (max ((s.brake.heat : Int)
      + s.brake.aLast * s.slide.vRef / 18 - s.brake.heat * coolShare s / 65536) 0) 4294967295 → h = nextHeat s := by
  unfold nextHeat
  show _ → h = min _ 4294967295
  rw [← Int.natCast_mul, ← Int.natCast_mul]
  omega

/-- Settles O30. -/
theorem heatPeriodComputed : Obligations.HeatPeriodComputed := by
  unfold Obligations.HeatPeriodComputed
  intro s hr parameter blowers old
  refine ⟨_, event_live s heatExpiry hr, fun hearly => ?_, fun hdue hnot => ?_, fun hdue hloaded => ?_⟩
  · exact congrArg syncOutputs (if_neg fun h => Nat.not_le_of_lt hearly ((heatDue_iff s).mp h))
  · exact congrArg syncOutputs ((if_pos ((heatDue_iff s).mpr hdue)).trans (if_neg (Bool.eq_false_iff.mp hnot)))
  · intro k hk hkfail heat h hh g after
    have hcool : k = coolShare s := by
      by_cases hb : blowers
      · exact (hk hb).trans ((coolShare_eq s).1 hb).symm
      · exact (hkfail hb).trans ((coolShare_eq s).2 hb).symm
    have hnext : h = nextHeat s := nextHeat_int s h (by rw [← hcool]; exact hh)
    let u : State := { s with brake := { s.brake with heat := h, heatElapsed := 0 } }
    have hperiod : heatExpiry s = recomputeG u := by
      refine (if_pos ((heatDue_iff s).mpr hdue)).trans ((if_pos hloaded).trans ?_)
      rw [← hnext]
    have hg : thermalFactor u.tables u.brake.heat = g := rfl
    rw [hperiod]
    unfold recomputeG
    dsimp only
    rw [hg]
    constructor
    · intro hfull hfall
      rw [if_pos ⟨hfull, hfall⟩]
      exact raisedFrom_raise _ .thermalDerate
    · intro hstays
      have hle : g ≤ 1000 := thermalFactor_le u.tables h
      rw [if_neg (by rintro ⟨hfull, hfall⟩; exact hstays.elim (fun hn => hn hfull) (by omega))]

/-! ## The trip's clearing (O31) -/

theorem tripClearable_iff (s : State) : tripClearable s = true ↔
    (∃ i, binding s.tables .traction = some i ∧ (getNode s i).liveness = .live)
      ∧ ∃ x, s.brake.status = some x ∧ x.fault = false := by
  have hlive : roleLive s .traction = true ↔
      ∃ i, binding s.tables .traction = some i ∧ (getNode s i).liveness = .live := by
    unfold roleLive getNode
    cases binding s.tables .traction <;> simp
  have hclean : (match s.brake.status with
      | some t => !t.fault
      | none => false) = true ↔ ∃ x, s.brake.status = some x ∧ x.fault = false := by
    cases s.brake.status <;> simp
  unfold tripClearable
  rewrite [Bool.and_eq_true, hlive, ← hclean]
  rfl

/-- Settles O31. -/
theorem dbTripClearDecided : Obligations.DbTripClearDecided := by
  unfold Obligations.DbTripClearDecided
  intro src tag s hr hm respond fit
  have hown : ∀ x : State, carryOut .dbTripClear [] x = ownDbTripClear x := fun _ => rfl
  have hfit : ∀ payload, tripClearable (underRequest s src payload) = true ↔ fit := fun _ => tripClearable_iff _
  refine ⟨fun hnot => ?_, fun htripped hyes => ?_, fun htripped hno => ?_⟩
  · exact request_unchanged s src tag .dbTripClear [] .notTripped [] hr hm rfl ((hown _).trans (if_pos hnot))
  · exact request_changed (x := { s with brake := { s.brake with state := .off, cause := none } }) hr hm rfl rfl
      ((hown _).trans ((if_neg (not_not_intro htripped)).trans (if_pos ((hfit _).mpr hyes))))
  · exact request_unchanged s src tag .dbTripClear [] .faultPersists [] hr hm rfl
      ((hown _).trans ((if_neg (not_not_intro htripped)).trans (if_neg (mt (hfit _).mp hno))))

end Sys2Proof.Machine
end

section
/-! PROOF. A valve status (O37), the rise of a flag (O38), a pin change (O39), and what enters the C-port queue late
(O42). -/

namespace Sys2Proof.Machine

/-! ## A valve status (O37) -/

/-- A truck's record after a delivered status (R89, R90). -/
def valveRecord (p : List Byte) : TruckRecord :=
  let fault := (p.getD 2 0).getLsbD 0
  ⟨true, min (256 * (p.getD 0 0).toNat + (p.getD 1 0).toNat) 1000, fault, if fault then .fault else .clear⟩

theorem handleValve_long {p : List Byte} (h : 3 ≤ p.length) (t : Truck) (s : State) : handleValve t p s =
    let s1 := setTruck s t { getTruck s t with
      held := true, pressure := (valveRecord p).pressure, fault := (valveRecord p).fault }
    if (valveRecord p).fault then loseValve t .fault s1
    else setTruck s1 t { getTruck s1 t with condition := .clear } := by
  have hread : readValve p = some ((valveRecord p).pressure, (valveRecord p).fault) := by
    unfold readValve
    rw [if_neg (by omega), fieldAt_two p 0 (by omega)]
    rfl
  unfold handleValve
  rw [hread]

theorem handleValve_clean {p : List Byte} (h : 3 ≤ p.length) (hfault : (p.getD 2 0).getLsbD 0 = false) (t : Truck)
    (s : State) : handleValve t p s = setTruck s t (valveRecord p) := by
  have hrecord : (valveRecord p).fault = false := hfault
  rw [handleValve_long h]
  dsimp only
  rw [hrecord, if_neg (by simp), setTruck_setTruck, getTruck_setTruck_same]
  unfold valveRecord
  rw [hfault]
  rfl

theorem handleValve_fault {p : List Byte} (h : 3 ≤ p.length) (hfault : (p.getD 2 0).getLsbD 0 = true) (t : Truck)
    (s : State) : handleValve t p s = if (getTruck s t).condition = .clear then
      trigger .valveLost (raise .valveLost (setTruck s t (valveRecord p))) else setTruck s t (valveRecord p) := by
  have hrecord : valveRecord p = ⟨true, (valveRecord p).pressure, true, .fault⟩ := by
    unfold valveRecord
    rw [hfault]
    rfl
  rw [handleValve_long h]
  dsimp only
  rw [hrecord, if_pos rfl]
  by_cases hclear : (getTruck s t).condition = .clear
  · rw [loseValve_clear (by rw [getTruck_setTruck_same]; exact hclear), if_pos hclear, setTruck_setTruck, getTruck_setTruck_same]
  · rw [loseValve_not_clear (by rw [getTruck_setTruck_same]; exact hclear), if_neg hclear, setTruck_setTruck,
      getTruck_setTruck_same]

/-- Settles O37. -/
theorem valveStatusHandled : Obligations.ValveStatusHandled := by
  unfold Obligations.ValveStatusHandled
  intro truck payload s hr
  have hexec : exec (.valveStatus truck payload) s = .next (syncOutputs (handleValve truck payload s)) :=
    event_live s (handleValve truck payload) hr
  constructor
  · intro hshort
    rw [hexec]
    unfold handleValve
    rw [show readValve payload = none from if_pos hshort]
  · intro hlong pressure fault before stored u
    have hu : setTruck s truck (valveRecord payload) = u := by cases truck <;> rfl
    have hbefore : before = getTruck s truck := by cases truck <;> rfl
    refine ⟨_, hexec, fun hcase => ?_, fun hfault hclear => ?_⟩
    · by_cases hfault : fault = true
      · have hnot : (getTruck s truck).condition ≠ .clear :=
          hbefore ▸ hcase.resolve_left (by rw [hfault]; decide)
        rw [handleValve_fault hlong hfault, if_neg hnot, hu]
      · rw [handleValve_clean hlong (Bool.eq_false_iff.mpr hfault), hu]
    · rw [handleValve_fault hlong hfault, if_pos (hbefore ▸ hclear), hu]
      exact triggeredBy_raise u .valveLost (by simp) .valveLost

/-! ## The rise of a flag (O38) -/

theorem flatMap_code (slots : List Slot) : slots.flatMap (fun k => q1 (slotStateCode k.state)) =
    slots.map (fun k => BitVec.ofNat 8 (slotStateCode k.state)) := List.map_eq_flatMap.symm

/-- A flag in NOTICE_ENABLE rises: the mark is set and a notice formed (R154). -/
theorem raise_noticed {s : State} {f : Flag} (hclear : flagSet s f = false)
    (henabled : noticeEnabled s.tables f = true) : raise f s = notify { s with lines := { s.lines with
      flags := s.lines.flags ||| flagMask f, noticePending := true } } := by
  unfold raise
  rw [hclear, if_neg (by simp)]
  exact if_pos henabled

/-- A notice with room clears the mark, and without room leaves it set, wherever it stood before (R155). -/
theorem noticedAnew_marked (v : State) (m : Bool) :
    let notice := formNotice v
    let waiting := v.link.cPort.originated
    let room := waiting.length < 8 ∨ ∃ g ∈ waiting, g.cls = 0x44 ∧ g.dst = notice.dst
    let marked := fun m : Bool => { handOver v .c notice with lines :=
      { (handOver v .c notice).lines with noticePending := m } }
    (room → noticedAnew { v with lines := { v.lines with noticePending := m } } = marked false)
    ∧ (¬ room → noticedAnew { v with lines := { v.lines with noticePending := m } } = marked true) := by
  intro notice waiting room marked
  have hanew : noticedAnew { v with lines := { v.lines with noticePending := m } } = marked (!decide room) := by
    show noticedAnew _ = { handOver v .c notice with lines :=
      { (handOver v .c notice).lines with noticePending := !decide room } }
    unfold noticedAnew
    dsimp only
    rw [handOver_c, handOver_c]
    rfl
  rw [hanew]
  exact ⟨fun h => by rw [decide_eq_true h]; rfl, fun h => by rw [decide_eq_false h]; rfl⟩

/-- Settles O38. -/
theorem flagRiseFormsNotice : Obligations.FlagRiseFormsNotice := by
  unfold Obligations.FlagRiseFormsNotice
  intro f s hd risen enabled node edges notice waiting room marked
  let u : State := marked risen true
  have hnotice : formNotice u = notice := by
    unfold formNotice
    rw [flatMap_code]
    rfl
  refine ⟨raise_of_set, fun _ hdisabled => raise_unnoticed hdisabled, fun hclear henabled hnode => ?_,
    fun hclear henabled hnode => ?_⟩
  · rw [raise_noticed hclear henabled]
    exact if_pos hnode
  · have hnotify : notify u = handNotice u (formNotice u) := by
      unfold notify
      rw [if_neg (by exact hnode), show u.deferred = none from hd]
    have hgiven : raise f s = noticedAnew u :=
      (raise_noticed hclear henabled).trans (hnotify.trans (handNotice_formNotice rfl))
    rw [hgiven, ← hnotice]
    exact noticedAnew_marked risen true

/-! ## A pin change (O39) -/

/-- Settles O39. -/
theorem pinChangeCompared : Obligations.PinChangeCompared := by
  unfold Obligations.PinChangeCompared
  intro n high s hr r level changed with_
  let u := setInput s n changed
  have hexec : exec (.discretePinChange n high) s = .next (syncOutputs (changePin n high s)) := by
    show execDiscretePinChange n high s = _
    unfold execDiscretePinChange
    rw [hr, if_neg (by simp)]
    exact event_live s (changePin n high) hr
  have hlevel : presentLevel s n high = level := by
    unfold presentLevel lineActiveLow
    simp only [decide_eq_true_eq]
    rfl
  have hchange : r.pin ≠ high → changePin n high s = compareLine n u := by
    intro hne
    unfold changePin
    rw [hlevel]
    exact if_neg hne
  have hu : u.lines.inputs.get n = changed := by simp [u, setInput]
  refine ⟨fun hsame => ?_, fun hne heq => ?_, fun hne hdiffers hdebounce => ?_, fun hne hdiffers hdebounce => ?_⟩
  · rw [hexec]
    exact congrArg (fun x => Host.Outcome.next (syncOutputs x)) (if_pos hsame)
  · rw [hexec, hchange hne, compareLine_equal (s := u) (by rw [hu]; exact heq), hu, setInput_setInput]
  · rw [hexec, hchange hne, compareLine_debounced (s := u) (by rw [hu]; exact hdiffers) hdebounce, hu, setInput_setInput]
  · have hexpiry : exec (.debounceExpiry n) (with_ (.running 0)) =
        .next (syncOutputs (debounceExpired n (with_ (.running 0)))) :=
      event_live (with_ (.running 0)) (debounceExpired n) hr
    have hget : (with_ (.running 0)).lines.inputs.get n = { changed with debounce := .running 0 } := by
      simp [with_, setInput]
    have hdue : debounceDue (with_ (.running 0)) n = true := by
      unfold debounceDue
      rw [hget]
      exact decide_eq_true (Nat.le_of_eq hdebounce)
    rw [hexec, hchange hne, compareLine_accepted (s := u) (by rw [hu]; exact hdiffers) hdebounce, hexpiry]
    unfold debounceExpired
    rw [if_pos hdue]
    unfold acceptLine
    rw [hu, hget]
    simp [u, with_]

/-! ## What enters the C-port queue late (O42) -/

/-- A held response enters where the other buffer waits for nothing. -/
theorem admitHeld_enters {s : State} {isB : Bool} {f : OriginatedFrame} (hheld : (getBuffer s isB).state = .held)
    (hresponse : (getBuffer s isB).response = some f)
    (hother : (getBuffer s (!isB)).state = .free ∨ (getBuffer s (!isB)).state = .inFlight)
    (hroom : s.link.cPort.originated.length < 8) :
    admitHeld s = setBuffer (enterResponse f s) isB Buffer.free := by
  have hany : responseHeld s.management = true := by
    unfold responseHeld
    cases isB <;> simp_all [getBuffer]
  have hquiet : awaits (getBuffer s (!isB)) = false := by rcases hother with h | h <;> simp [awaits, h]
  have hwaits : awaits (getBuffer s isB) = true := by simp [awaits, hheld]
  have hfirst : oldestAwaiting s.management = some isB := by
    cases isB
    · exact oldestAwaiting_of (m := s.management) hwaits hquiet
    · exact oldestAwaiting_of (m := s.management) hquiet hwaits
  have hlast : oldestAwaiting (setBuffer (enterResponse f s) isB Buffer.free).management = none := by
    rw [enterResponse_eq]
    cases isB
    · exact oldestAwaiting_of (m := { s.management with bufA := Buffer.free }) rfl hquiet
    · exact oldestAwaiting_of (m := { s.management with bufB := Buffer.free }) hquiet rfl
  unfold admitHeld
  rw [if_pos hany]
  exact (serve_held hfirst (decide_eq_true hroom) hheld hresponse 1).trans (serve_none hlast 1)

theorem admitHeld_full {s : State} (hroom : ¬ s.link.cPort.originated.length < 8) : admitHeld s = s := by
  unfold admitHeld
  split
  · exact serve_full (decide_eq_false hroom) 2
  · rfl

/-- Settles O42. -/
theorem heldResponseAndNoticeEnter : Obligations.HeldResponseAndNoticeEnter := by
  unfold Obligations.HeldResponseAndNoticeEnter
  constructor
  · intro s hr a b room
    have hexec : exec .heldResponseEntry s = .next (syncOutputs (admitHeld s)) := event_live s admitHeld hr
    rw [hexec]
    refine ⟨fun ha hb => ?_, fun _ hfull => ?_, fun f ha hf hb hroom => ?_, fun f hb hf ha hroom => ?_⟩
    · have hnone : responseHeld s.management = false := by simp [responseHeld, a, b] at *; exact ⟨ha, hb⟩
      unfold admitHeld
      rw [hnone]
      rfl
    · rw [admitHeld_full hfull]
    · rw [admitHeld_enters (isB := false) ha hf hb hroom, enterResponse_eq]
      rfl
    · rw [admitHeld_enters (isB := true) hb hf ha hroom, enterResponse_eq]
      rfl
  · intro s hr hd notice waiting room marked
    have hexec : exec .noticeReform s = .next (syncOutputs (reformNotice s)) := event_live s reformNotice hr
    rw [hexec]
    refine ⟨fun hquiet => ?_, fun hpending hnode => ?_⟩
    · rw [reformNotice_quiet hquiet]
    · rw [reformNotice_between hd, if_pos (by exact ⟨hpending, hnode⟩)]
      obtain ⟨hyes, hno⟩ := noticedAnew_marked s s.lines.noticePending
      exact ⟨fun h => congrArg (fun u => Host.Outcome.next (syncOutputs u)) (hyes h),
        fun h => congrArg (fun u => Host.Outcome.next (syncOutputs u)) (hno h)⟩

end Sys2Proof.Machine
end

section
/-! PROOF. An accepted transition (O40): the line's own record and edge, then its consumer. -/

namespace Sys2Proof.Machine

/-! ## The line's record and its edge (R148, R149) -/

theorem edgeMatches_iff (ts : Tables) (n : Fin 6) (active : Bool) : edgeMatches ts n active = true ↔
    (tableField ts.discrete n.val 2 = 1 ∧ active = true ∨ tableField ts.discrete n.val 2 = 2 ∧ active = false
      ∨ tableField ts.discrete n.val 2 = 3) := by
  unfold edgeMatches
  show (match tableField ts.discrete n.val 2 with
    | 1 => active
    | 2 => !active
    | 3 => true
    | _ => false) = true ↔ _
  split
  next h => simp [h]
  next h => simp [h]
  next h => simp [h]
  next h1 h2 h3 =>
    refine ⟨fun h => absurd h (by decide), ?_⟩
    rintro (⟨h, -⟩ | ⟨h, -⟩ | h)
    · exact (h1 h).elim
    · exact (h2 h).elim
    · exact (h3 h).elim

/-- The record of a line that accepts its present level. -/
def acceptedRecord (s : State) (n : Fin 6) : InputRecord :=
  let r := s.lines.inputs.get n
  { r with accepted := r.present, debounce := .stopped, edge := r.edge || edgeMatches s.tables n r.present }

/-- The state with the level accepted and its edge evaluated, before any flag. -/
def lineAccepted (s : State) (n : Fin 6) : State := setInput s n (acceptedRecord s n)

/-- What the accepted level's edge gives: DISCRETE_EDGE with its trigger, or nothing. -/
def edgeGiven (s : State) (n : Fin 6) : State :=
  if edgeMatches s.tables n (s.lines.inputs.get n).present then
    trigger (.discreteEdge n) (raise .discreteEdge (lineAccepted s n))
  else lineAccepted s n

theorem acceptLine_eq (n : Fin 6) (s : State) :
    acceptLine n s = deliverLine n (s.lines.inputs.get n).present (edgeGiven s n) := by
  unfold acceptLine edgeGiven lineAccepted acceptedRecord edgeResults
  dsimp only
  refine congrArg (deliverLine n (s.lines.inputs.get n).present) ?_
  by_cases h : edgeMatches s.tables n (s.lines.inputs.get n).present = true
  · rw [if_pos h, if_pos h, h]
    simp
  · rw [if_neg h, if_neg h, Bool.eq_false_iff.mpr h, Bool.or_false]

theorem lineAccepted_same (s : State) (n : Fin 6) : SameForTrigger s (lineAccepted s n) := ⟨rfl, rfl, rfl, rfl⟩

section
variable (s : State) (n : Fin 6)

theorem edgeGiven_matches (h : edgeMatches s.tables n (s.lines.inputs.get n).present = true) :
    edgeGiven s n = trigger (.discreteEdge n) (raise .discreteEdge (lineAccepted s n)) := if_pos h

theorem edgeGiven_else (h : ¬ edgeMatches s.tables n (s.lines.inputs.get n).present = true) :
    edgeGiven s n = lineAccepted s n := if_neg h

theorem edgeGiven_moves : Moves [] [.discreteEdge, .incidentLost] (lineAccepted s n) (edgeGiven s n) := by
  by_cases h : edgeMatches s.tables n (s.lines.inputs.get n).present = true
  · rw [edgeGiven_matches s n h]
    have hmoves := raise_trigger_moves .discreteEdge (.discreteEdge n) (lineAccepted s n)
    exact { hmoves with flags := hmoves.flags.maybe }
  · rw [edgeGiven_else s n h]
    exact (Moves.refl _).weaken (by simp)

theorem edgeGiven_same : SameForTrigger
    (if edgeMatches s.tables n (s.lines.inputs.get n).present = true then
      (deliverTrigger s (.discreteEdge n) none none).1 else s) (edgeGiven s n) := by
  by_cases h : edgeMatches s.tables n (s.lines.inputs.get n).present = true
  · rw [if_pos h, edgeGiven_matches s n h]
    obtain ⟨-, hrecorder, -⟩ := raise_trigger_after (lineAccepted_same s n) (FlagsRaised.refl (lineAccepted s n))
      (by simp) (f := .discreteEdge) (by simp) (.discreteEdge n)
    have hframe : trigger (.discreteEdge n) s = withTriggers s (trigger (.discreteEdge n) s) :=
      (trigger_moves (.discreteEdge n) s).frame
    have hframe' := (raise_trigger_moves .discreteEdge (.discreteEdge n) (lineAccepted s n)).frame
    show SameForTrigger (trigger (.discreteEdge n) s) _
    refine ⟨hrecorder, ?_, ?_, ?_⟩
    all_goals
      rw [hframe, hframe']
      rfl
  · rw [if_neg h, edgeGiven_else s n h]
    exact lineAccepted_same s n

end

/-! ## The line's consumer (R17, R19, R20, R57) -/

/-- What the consumer of line `n` makes of `u` when the level `active` is accepted. -/
structure LineDelivered (n : Fin 6) (active : Bool) (u v : State) : Prop where
  moves : Moves [] [.penalty, .emergency, .incidentLost] { u with authority := v.authority, brake := v.brake } v
  brake : v.brake = (if n = 2 then
      (if active then if u.brake.state = .cutout then u.brake else broughtOut u.brake .cutout none
      else if u.brake.state = .cutout then { u.brake with state := .off } else u.brake)
    else u.brake)
  authority : v.authority = { u.authority with
    latch := u.authority.latch || (decide (n = 0) && active), resetTimer := v.authority.resetTimer }
  stopped : n = 0 → active = true → v.authority.resetTimer = .stopped
  stands : n ≠ 0 → v.authority.resetTimer = u.authority.resetTimer
  penalty : n = 1 → active = true → flagSet v .penalty = true
  emergency : n = 0 ∧ active = true ∧ u.authority.latch = false → flagSet v .emergency = true
  recorder : v.recorder = (if n = 0 ∧ active = true ∧ u.authority.latch = false then
    (deliverTrigger u .emergency none none).1 else u).recorder
  follows : n = 0 → ResetTimerFollows u.authority.resetTimer v
  quiet : ¬ (n = 0 ∧ active = true ∧ u.authority.latch = false) → ¬ (n = 1 ∧ active = true) →
    v.link = u.link ∧ v.lines = u.lines

section
variable (n : Fin 6) (active : Bool) (u : State)

/-- A line without a consumer, or a level its consumer ignores. -/
theorem lineDelivered_none (h0 : n ≠ 0) (h1 : n = 1 → active = false) (h2 : n ≠ 2) : LineDelivered n active u u where
  moves := (Moves.refl u).weaken (by simp)
  brake := (if_neg h2).symm
  authority := by simp [h0]
  stopped h := absurd h h0
  stands _ := rfl
  penalty h ha := absurd (h1 h) (by simp [ha])
  emergency h := absurd h.1 h0
  recorder := by rw [if_neg fun h => h0 h.1]
  follows h := absurd h h0
  quiet _ _ := ⟨rfl, rfl⟩

theorem lineDelivered_penalty : LineDelivered 1 true u (raise .penalty u) where
  moves := by
    rw [raise_authority, raise_brake]
    have hmoves := raise_moves .penalty u
    exact { hmoves with flags := hmoves.flags.maybe.weaken (by simp) }
  brake := raise_brake u .penalty
  authority := by simp
  stopped h := absurd h (by decide)
  stands _ := by rw [raise_authority]
  penalty _ _ := (raise_flagsRaised u .penalty .penalty).1 (.inr (by simp))
  emergency h := absurd h.1 (by decide)
  recorder := by rw [if_neg fun h => absurd h.1 (by decide), raise_recorder]
  follows h := absurd h (by decide)
  quiet _ h := absurd ⟨rfl, rfl⟩ h

/-- DB_CUTOUT moves the Dynamic Brake Channel alone (R57). -/
theorem lineDelivered_cutout : LineDelivered 2 active u (if active then enterCutout u else leaveCutout u) := by
  have hbrake : (if active then enterCutout u else leaveCutout u) = { u with brake :=
      (if active then (if u.brake.state = .cutout then u.brake else broughtOut u.brake .cutout none)
      else if u.brake.state = .cutout then { u.brake with state := .off } else u.brake) } := by
    unfold enterCutout leaveCutout
    cases active
    all_goals
      simp only [if_true, Bool.false_eq_true, if_false]
      split
      all_goals rfl
  rw [hbrake]
  exact {
    moves := (Moves.refl _).weaken (by simp)
    brake := rfl
    authority := by simp
    stopped := fun h => absurd h (by decide)
    stands := fun _ => rfl
    penalty := fun h => absurd h (by decide)
    emergency := fun h => absurd h.1 (by decide)
    recorder := by
      have hnot : ¬ ((2 : Fin 6) = 0 ∧ active = true ∧ u.authority.latch = false) := fun h => absurd h.1 (by decide)
      rw [if_neg hnot]
    follows := fun h => absurd h (by decide)
    quiet := fun _ _ => ⟨rfl, rfl⟩ }

/-- EMERG that sets no latch bears on the reset timer alone (R20). -/
theorem lineDelivered_emergStands (haccepted : active = true → emergActive u = true)
    (hlatch : active = true → u.authority.latch = true) : LineDelivered 0 active u (evalEmergency u) := by
  have hnot : ¬ ((0 : Fin 6) = 0 ∧ active = true ∧ u.authority.latch = false) := fun ⟨_, ha, hl⟩ => by
    rw [hlatch ha] at hl
    exact absurd hl (by decide)
  have hfollows := evalEmergency_follows u
  have hstopped : active = true → (evalEmergency u).authority.resetTimer = .stopped := fun ha => by
    rw [evalEmergency_stopped (.inr (emergencyCondition_of_active (haccepted ha)))]
  obtain ⟨timer, hframe⟩ := evalEmergency_frame u
  rw [hframe] at hfollows hstopped ⊢
  exact {
    moves := (Moves.refl _).weaken (by simp)
    brake := rfl
    authority := by
      cases active
      · simp
      · simp [hlatch rfl]
    stopped := fun _ => hstopped
    stands := fun h => absurd rfl h
    penalty := fun h => absurd h (by decide)
    emergency := fun h => absurd h hnot
    recorder := by rw [if_neg hnot]
    follows := fun _ => hfollows
    quiet := fun _ _ => ⟨rfl, rfl⟩ }

/-- EMERG accepted ACTIVE sets the latch with its flag and trigger, and stops the reset timer (R19, R20). -/
theorem lineDelivered_emergSets (haccepted : emergActive u = true) (hlatch : u.authority.latch = false) :
    LineDelivered 0 true u (evalEmergency (setLatch u)) := by
  have hmoves := raise_trigger_moves .emergency .emergency (latched u)
  have hauthority : (trigger .emergency (raise .emergency (latched u))).authority = (latched u).authority := by
    rw [trigger_authority, raise_authority]
  have hbrake : (trigger .emergency (raise .emergency (latched u))).brake = u.brake := by
    rw [hmoves.frame]
    rfl
  have hinputs : (trigger .emergency (raise .emergency (latched u))).lines.inputs = u.lines.inputs := by
    rw [hmoves.frame]
    rfl
  have hpresent : emergencyCondition (trigger .emergency (raise .emergency (latched u))) = true :=
    emergencyCondition_of_active (by unfold emergActive; rw [hinputs]; exact haccepted)
  have hresult : evalEmergency (setLatch u) = trigger .emergency (raise .emergency (latched u)) := by
    have hkeeps : ∀ w : State, w.authority.resetTimer = .stopped →
        { w with authority := { w.authority with resetTimer := .stopped } } = w := fun w hw => by rw [← hw]
    rw [setLatch_of_clear hlatch, evalEmergency_stopped (.inr hpresent)]
    exact hkeeps _ (by rw [hauthority]; rfl)
  obtain ⟨hflags, hrecorder, -⟩ := raise_trigger_after (s := latched u) (v := latched u) ⟨rfl, rfl, rfl, rfl⟩
    (FlagsRaised.refl _) (by simp) (f := .emergency) (by simp) .emergency
  have hsame : SameForTrigger u (latched u) := ⟨rfl, rfl, rfl, rfl⟩
  have hfollows : ResetTimerFollows u.authority.resetTimer (trigger .emergency (raise .emergency (latched u))) := by
    refine ⟨fun _ => by rw [hauthority]; rfl, fun _ hn => ?_, fun _ hn => ?_⟩
    all_goals exact absurd ((emergencyCondition_iff _).mp hpresent) hn
  rw [hresult]
  exact {
    moves := by
      rw [hauthority, hbrake]
      exact { hmoves with flags := hmoves.flags.maybe.weaken (by simp) }
    brake := hbrake
    authority := by rw [hauthority]; simp [latched]
    stopped := fun _ _ => by rw [hauthority]; rfl
    stands := fun h => absurd rfl h
    penalty := fun h => absurd h (by decide)
    emergency := fun _ => (hflags .emergency).1 (.inr (by simp))
    recorder := by
      rw [if_pos ⟨rfl, rfl, hlatch⟩, hrecorder]
      exact hsame.deliverTrigger_eq .emergency none none
    follows := fun _ => hfollows
    quiet := fun h => absurd ⟨rfl, rfl, hlatch⟩ h }

theorem deliverLine_delivered (haccepted : n = 0 → active = true → emergActive u = true) :
    LineDelivered n active u (deliverLine n active u) := by
  rcases line_cases n with rfl | rfl | rfl | hplain
  · show LineDelivered 0 active u (evalEmergency (if active then setLatch u else u))
    cases active
    · exact lineDelivered_emergStands false u (by simp) (by simp)
    · by_cases hlatch : u.authority.latch = true
      · rw [if_pos rfl, setLatch_of_set hlatch]
        exact lineDelivered_emergStands true u (haccepted rfl) (fun _ => hlatch)
      · exact lineDelivered_emergSets u (haccepted rfl rfl) (by simpa using hlatch)
  · show LineDelivered 1 active u (if active then raise .penalty u else u)
    cases active
    · exact lineDelivered_none 1 false u (by decide) (fun _ => rfl) (by decide)
    · exact lineDelivered_penalty u
  · exact lineDelivered_cutout active u
  · rw [deliverLine_plain hplain]
    exact lineDelivered_none n active u (by omega) (fun h => absurd hplain (by omega)) (by omega)

end

/-! ## The expiry (O40) -/

theorem withTriggers_recorded {a u v : State} (hu : u = withTriggers a u)
    (hv : v = withTriggers { u with authority := v.authority, brake := v.brake } v) :
    v = withTriggers { a with authority := v.authority, brake := v.brake } v := by
  rw [hu] at hv
  exact hv

/-- Settles O40. -/
theorem transitionAccepted : Obligations.TransitionAccepted := by
  unfold Obligations.TransitionAccepted
  intro n s hr r active mode matches_ due emergency
  refine ⟨_, event_live s (debounceExpired n) hr, fun hnot => ?_, fun hdue => ?_⟩
  · exact congrArg syncOutputs (if_neg (mt (debounceDue_iff s n).mp hnot))
  · let u := edgeGiven s n
    let v := deliverLine n active u
    have hv : debounceExpired n s = v :=
      (if_pos ((debounceDue_iff s n).mpr hdue)).trans (acceptLine_eq n s)
    have hmatches : edgeMatches s.tables n active = true ↔ matches_ := edgeMatches_iff s.tables n active
    have hedge := edgeGiven_moves s n
    have huframe : u = withTriggers (lineAccepted s n) u := hedge.frame
    have hauthority : u.authority = s.authority := by
      rw [huframe]
      rfl
    have hbrake : u.brake = s.brake := by
      rw [huframe]
      rfl
    have hinputs : u.lines.inputs = s.lines.inputs.set n (acceptedRecord s n) := by
      rw [huframe]
      rfl
    have hdelivered : LineDelivered n active u v := deliverLine_delivered n active u fun h0 ha => by
      subst h0
      unfold emergActive
      rw [hinputs]
      exact ha
    obtain ⟨hmoves, hvbrake, hvauthority, hstopped, hstands, hpenalty, hemergency, hrecorder, hfollows, hquiet⟩ :=
      hdelivered
    rw [hauthority] at hvauthority hstands hemergency hrecorder hfollows hquiet
    rw [hbrake] at hvbrake
    have hvinputs : v.lines.inputs = u.lines.inputs := by
      rw [hmoves.frame]
      rfl
    have hfirst : SameForTrigger (if matches_ then (deliverTrigger s (.discreteEdge n) none none).1 else s) u := by
      have hsame := edgeGiven_same s n
      by_cases hm : matches_
      · rw [if_pos (hmatches.mpr hm)] at hsame
        rw [if_pos hm]
        exact hsame
      · rw [if_neg (mt hmatches.mp hm)] at hsame
        rw [if_neg hm]
        exact hsame
    have hplain : ¬ matches_ → u = lineAccepted s n := fun hm => edgeGiven_else s n (mt hmatches.mp hm)
    rw [hv]
    refine ⟨?_, hvbrake, hvauthority, hstopped, hstands, fun hm => ?_, hpenalty, hemergency, ?_, fun hm => ?_, ?_,
      fun hm he => ?_, hfollows, fun hm he hp => ?_, ?_⟩
    · show v.lines.inputs = _
      rw [hvinputs, hinputs]
      have hedgeFlag : edgeMatches s.tables n (s.lines.inputs.get n).present = decide matches_ :=
        Bool.eq_iff_iff.mpr (hmatches.trans decide_eq_true_iff.symm)
      unfold acceptedRecord
      dsimp only
      rw [hedgeFlag]
    · have hset : flagSet u .discreteEdge = true := by
        rw [show u = _ from edgeGiven_matches s n (hmatches.mpr hm)]
        exact ((raise_trigger_moves .discreteEdge (.discreteEdge n) (lineAccepted s n)).flags .discreteEdge).1
          (.inr (by simp))
      exact (hmoves.flags .discreteEdge).1 (.inl hset)
    · exact (FlagsRaised.trans hedge.flags hmoves.flags).weaken (by simp)
    · have hstays : flagSet u .discreteEdge = flagSet s .discreteEdge := by
        rw [hplain hm]
        rfl
      exact (hmoves.flags.unchanged (by simp) (by simp)).trans hstays
    · show v.recorder = _
      rw [hrecorder]
      by_cases he : emergency
      · rw [if_pos he, if_pos he]
        exact hfirst.deliverTrigger_eq .emergency none none
      · rw [if_neg he, if_neg he]
        exact hfirst.recorder
    · show v.recorder = _
      rw [hrecorder, if_neg he, hplain hm]
      rfl
    · obtain ⟨hlink, hlines⟩ := hquiet he hp
      show v.link = _ ∧ v.lines.flags = _
      rw [hlink, hlines, hplain hm]
      exact ⟨rfl, rfl⟩
    · have hvframe : v = withTriggers { s with
          authority := v.authority, brake := v.brake, lines := (lineAccepted s n).lines } v :=
        withTriggers_recorded huframe hmoves.frame
      have hlines : ∀ inputs, v.lines.inputs = inputs →
          withTriggers { s with authority := v.authority, brake := v.brake, lines := (syncOutputs v).lines }
              (syncOutputs v)
            = withTriggers { s with
                authority := v.authority, brake := v.brake, lines := { s.lines with inputs := inputs } }
                (syncOutputs v) := by
        rintro _ rfl
        rfl
      exact (syncOutputs_withTriggers hvframe).trans (hlines _ (hvinputs.trans hinputs)).symm

end Sys2Proof.Machine
end

section
/-! PROOF. Requests as they are judged, and the clearing of flags (O41). -/

namespace Sys2Proof.Machine

/-! ## Quantities in bytes -/

theorem beValue_append (bytes : List Byte) (b : Byte) : beValue (bytes ++ [b]) = beValue bytes * 256 + b.toNat := by
  simp [beValue]

@[simp] theorem length_be (k v : Nat) : (be k v).length = k := by
  induction k generalizing v with
  | zero => rfl
  | succ k ih => simp [be, ih]

theorem beValue_be (k v : Nat) : beValue (be k v) = v % 256 ^ k := by
  induction k generalizing v with
  | zero => simp [be, beValue, Nat.mod_one]
  | succ k ih =>
    show beValue (be k (v / 256) ++ [BitVec.ofNat 8 v]) = _
    rw [beValue_append, ih, Nat.pow_succ, Nat.mul_comm (256 ^ k), Nat.mod_mul, BitVec.toNat_ofNat]
    omega

theorem fieldAt_be (k v : Nat) : fieldAt (be k v) 0 k = v % 256 ^ k := by
  rw [fieldAt, List.drop_zero, List.take_of_length_le (by simp), beValue_be]

theorem fieldAt_w4 (w : Word32) : fieldAt (w4 w) 0 4 = w.toNat := by
  rw [w4, fieldAt_be]
  exact Nat.mod_eq_of_lt w.isLt

/-! ## A request that its judgment leaves without effect -/

/-- A request whose judgment changes nothing is answered in its event (R160, R164). -/
theorem request_judged {s : State} {src : Byte} {payload : List Byte} {r : ResultCode} {data : List Byte}
    (hr : Ready s) (hjudge : judge (waitingBuffer src payload) (underRequest s src payload) =
      (underRequest s src payload, .answer r data)) :
    event s (handRequest [] src payload) =
      .next (answered s (responseTo (waitingBuffer src payload) r data)) := by
  obtain ⟨hlive, hslot, hroom⟩ := hr
  rw [event_live _ _ hlive, handRequest_unchanged [] src payload hslot hroom hjudge]
  rfl

theorem judge_unpermitted {u : State} {src tag : Byte} {k : Command} {args : List Byte}
    (h : permitted u k src = false) :
    judge (waitingBuffer src (requestPayload tag k args)) u = (u, .answer .notPermitted []) := by
  simp [judge, waitingBuffer, requestPayload, commandOfCode_commandCode, h]

theorem request_unpermitted {s : State} {src tag : Byte} {k : Command} {args : List Byte} (hr : Ready s)
    (h : permitted s k src = false) :
    request src tag k args s = .next (answered s (responseFrame src tag k .notPermitted [])) := by
  rw [← responseTo_request src tag k args]
  exact request_judged hr (judge_unpermitted h)

/-- The commands of LOCO_COMPUTER and TOOL alone (R163). -/
theorem permitted_tool_iff {k : Command} (hk : ∀ r, rolePermitted k r = (r = .locoComputer || r = .tool)) (s : State)
    (src : Byte) : permitted s k src = true ↔ s.control.mode = .init
      ∨ (lookupNode s.tables .c src).bind (nodeRole s.tables) = some .locoComputer
      ∨ (lookupNode s.tables .c src).bind (nodeRole s.tables) = some .tool := by
  unfold permitted requesterRole
  rw [Bool.or_eq_true, decide_eq_true_iff]
  cases (lookupNode s.tables .c src).bind (nodeRole s.tables) with
  | none => simp
  | some r => simp [hk]

/-! ## The answered state -/

section
variable (s : State) (f : OriginatedFrame)

theorem answered_flags : (answered s f).lines.flags = s.lines.flags := by
  unfold answered
  rw [enterResponse_eq]
  rfl

theorem answered_inputs : (answered s f).lines.inputs = s.lines.inputs := by
  unfold answered
  rw [enterResponse_eq]
  rfl

theorem answered_noticePending : (answered s f).lines.noticePending = s.lines.noticePending := by
  unfold answered
  rw [enterResponse_eq]
  rfl

theorem answered_fault : (answered s f).lines.outputs.fault = decide ((s.lines.flags &&& faultFlags) ≠ 0) := by
  unfold answered
  rw [enterResponse_eq]
  rfl

end

/-- The seven flags of FAULT (R151). -/
def faultCauses : List Flag :=
  [.sourceLoss, .speedLost, .sensorFault, .axleLocked, .dbTrip, .valveLost, .nodeLost]

theorem faultFlags_iff (w : BitVec 19) : w &&& faultFlags ≠ 0 ↔ ∃ f ∈ faultCauses, w.getLsbD (flagBit f) = true := by
  constructor
  · intro h
    by_contra hnone
    have hclear : ∀ f ∈ faultCauses, w.getLsbD (flagBit f) = false := fun f hf => by
      by_contra hset
      exact hnone ⟨f, hf, by simpa using hset⟩
    refine h (BitVec.eq_of_getLsbD_eq fun i hi => ?_)
    simp only [faultCauses, List.forall_mem_cons, flagBit] at hclear
    obtain ⟨h2, h4, h5, h7, h8, h11, h12, -⟩ := hclear
    rw [BitVec.getLsbD_and]
    interval_cases i <;> simp_all [faultFlags]
  · rintro ⟨f, hf, hset⟩ hzero
    have hbit : faultFlags.getLsbD (flagBit f) = true := by
      fin_cases hf <;> rfl
    have := congrArg (fun v : BitVec 19 => v.getLsbD (flagBit f)) hzero
    simp [hset, hbit] at this

/-! ## FLAGS_CLEAR (O41) -/

section
variable (mask : Word32) (s : State)

theorem clearFlags_flagSet (f : Flag) :
    flagSet (clearFlags mask s) f = (flagSet s f && !mask.getLsbD (flagBit f)) := by
  have hlt := flagBit_lt f
  have hlt' : flagBit f < 32 := by omega
  unfold flagSet clearFlags
  simp [hlt]

theorem clearFlags_edge (n : Fin 6) : ((clearFlags mask s).lines.inputs.get n).edge =
    ((s.lines.inputs.get n).edge && !mask.getLsbD (19 + n.val)) := by
  simp [clearFlags]

theorem clearFlags_zero : clearFlags 0 s = s := by
  have hinputs : ∀ x : Six InputRecord, Six.ofFn (fun n =>
      { x.get n with edge := (x.get n).edge && !(0 : Word32).getLsbD (19 + n.val) }) = x := by
    rintro ⟨_, _, _, _, _, _⟩
    simp [Six.ofFn, Six.get]
  unfold clearFlags
  dsimp only
  have hflags : s.lines.flags &&& ~~~(BitVec.setWidth 19 (0 : Word32)) = s.lines.flags := BitVec.and_allOnes
  rw [hinputs, hflags]

end

section
variable {s : State} {src tag : Byte} {mask : Word32} (hr : Ready s)
include hr

theorem flagsClear_refused (hm : MayIssue s src .flagsClear (w4 mask)) (h : 33554432 ≤ mask.toNat) :
    exec (.flagsClear src tag mask) s = .next (answered s (responseFrame src tag .flagsClear .badArg [])) := by
  refine request_unchanged s src tag .flagsClear (w4 mask) .badArg [] hr hm (by simp [argsFit, w4]) ?_
  show ownFlagsClear (w4 mask) _ = _
  unfold ownFlagsClear
  rw [fieldAt_w4]
  exact if_pos h

theorem flagsClear_cleared (hm : MayIssue s src .flagsClear (w4 mask)) (h : mask.toNat < 33554432) :
    exec (.flagsClear src tag mask) s = .next (answered (clearFlags mask s)
      (responseFrame src tag .flagsClear .ok (q4 (flagWord (clearFlags mask s))))) := by
  refine request_changed (x := clearFlags mask s) hr hm (by simp [argsFit, w4]) rfl ?_
  show ownFlagsClear (w4 mask) _ = _
  unfold ownFlagsClear
  rw [fieldAt_w4]
  refine (if_neg (Nat.not_le_of_lt h)).trans ?_
  rw [BitVec.ofNat_toNat, BitVec.setWidth_eq]
  rfl

end

/-- Settles O41. -/
theorem flagsCleared : Obligations.FlagsCleared := by
  unfold Obligations.FlagsCleared
  refine ⟨fun src tag mask s hr => ?_, fun src tag mask s hr hm hmask => ?_, fun src tag mask f s hr hm hmask hbit => ?_⟩
  · intro respond role permitted_ cleared edges clear
    have hpermitted : permitted s .flagsClear src = true ↔ permitted_ := permitted_tool_iff (fun _ => rfl) s src
    have hmay : permitted_ → MayIssue s src .flagsClear (w4 mask) := fun hp => ⟨hpermitted.mpr hp, rfl⟩
    refine ⟨fun hno => ?_, fun hyes hbad => ?_, fun hyes hgood => ?_, fun hyes hzero => ?_⟩
    · exact request_unpermitted hr (Bool.eq_false_iff.mpr (mt hpermitted.mp hno))
    · exact flagsClear_refused hr (hmay hyes) hbad
    · exact flagsClear_cleared hr (hmay hyes) hgood
    · have hclear := flagsClear_cleared (tag := tag) hr (hmay hyes) (by rw [hzero]; decide)
      have hsame : clearFlags mask s = s := by rw [hzero]; exact clearFlags_zero s
      have hword : flagWord (clearFlags mask s) = s.lines.flags.toNat + 524288 * edges :=
        congrArg (fun u : State => u.lines.flags.toNat + 524288 * edges) hsame
      rw [hword, hsame] at hclear
      exact hclear
  · refine ⟨_, flagsClear_cleared hr hm hmask, fun f => ⟨?_, fun _ => ?_⟩, fun n => ?_, ?_, ?_⟩
    · exact (flagSet_congr (answered_flags _ _) f).trans (clearFlags_flagSet mask s f)
    · exact (raise_flagsRaised _ f f).1 (.inr (by simp))
    · rw [answered_inputs]
      exact clearFlags_edge mask s n
    · rw [answered_fault, decide_eq_true_iff, faultFlags_iff]
      refine exists_congr fun f => and_congr_right fun _ => ?_
      rw [← Bool.not_eq_true', ← Bool.and_eq_true]
      exact Bool.eq_iff_iff.mp (clearFlags_flagSet mask s f)
    · exact answered_noticePending _ _
  · have hm' : MayIssue (raise f s) src .flagsClear (w4 mask) := by
      rw [raise_frame]
      exact hm
    refine ⟨_, flagsClear_cleared hr hm' hmask, ?_⟩
    exact (flagSet_congr (answered_flags _ _) f).trans ((clearFlags_flagSet mask _ f).trans (by rw [hbit]; simp))

end Sys2Proof.Machine
end

section
/-! PROOF. The lists of incidents and nodes (O47), and MODE_SET with the secure check (O50). -/

namespace Sys2Proof.Machine

/-! ## INCIDENT_LIST and NODE_STATUS_GET (O47) -/

theorem be_one (n : Nat) : be 1 n = [BitVec.ofNat 8 n] := rfl

theorem be_one_byte (b : Byte) : be 1 b.toNat = [b] := by
  rw [be_one, BitVec.ofNat_toNat, BitVec.setWidth_eq]

/-- An entry of NODE_STATUS_GET, byte by byte. -/
theorem nodeBytes_eq (s : State) (i : Nat) : nodeBytes s i =
    if tableField s.tables.nodes i 0 = 1 then
      [BitVec.ofNat 8 i, 1] ++ be 1 (tableField s.tables.nodes i 1) ++ be 1 (tableField s.tables.nodes i 2)
        ++ be 1 (tableField s.tables.nodes i 3) ++ be 2 (tableField s.tables.nodes i 4)
        ++ be 1 (livenessCode (getNode s i).liveness) ++ timerBytes (getNode s i).timer
        ++ optQ 1 ((getNode s i).lastSeq.map BitVec.toNat) ++ be 4 (getNode s i).good
        ++ be 4 (getNode s i).duplicate ++ be 4 (getNode s i).gap ++ be 4 (getNode s i).error
    else [BitVec.ofNat 8 i, 0] := by
  unfold nodeBytes nodeUsed
  simp only [decide_eq_true_eq]
  rfl

theorem nodeList_accepted {first count : Nat} {args : List Byte} (hfirst : fieldAt args 0 1 = first)
    (hcount : fieldAt args 1 1 = count) (h : first ≤ 31 ∧ 1 ≤ count ∧ count ≤ 7 ∧ first + count ≤ 32) (u : State) :
    ownNodeStatusGet args u = (u, .answer .ok ((List.range' first count).flatMap (nodeBytes u))) := by
  unfold ownNodeStatusGet
  rw [hfirst, hcount]
  exact if_pos h

theorem nodeList_refused {first count : Nat} {args : List Byte} (hfirst : fieldAt args 0 1 = first)
    (hcount : fieldAt args 1 1 = count) (h : ¬ (first ≤ 31 ∧ 1 ≤ count ∧ count ≤ 7 ∧ first + count ≤ 32)) (u : State) :
    ownNodeStatusGet args u = (u, .answer .badArg []) := by
  unfold ownNodeStatusGet
  rw [hfirst, hcount]
  exact if_neg h

/-- A slot's line: a FREE slot holds nothing, a used one its first trigger. -/
theorem slotLine_eq {k : Slot} (h : k.state = .free → k = Slot.free) : slotLine k =
    [BitVec.ofNat 8 (slotStateCode k.state)] ++ be 4 (if k.state = .free then 0 else k.seq.getD 0)
      ++ [BitVec.ofNat 8 (match k.triggers with
        | x :: _ => if k.state = .free then 255 else triggerCode x.kind
        | [] => 255)]
      ++ [if k.protected_ then 1 else 0] ++ be 2 k.snapshots.length := by
  by_cases hfree : k.state = .free
  · rw [h hfree]
    rfl
  · rw [if_neg hfree]
    unfold slotLine
    cases htriggers : k.triggers with
    | nil => rfl
    | cons x rest =>
      dsimp only
      rw [if_neg hfree]
      rfl

/-- Settles O47. -/
theorem incidentsAndNodesListed : Obligations.IncidentsAndNodesListed := by
  unfold Obligations.IncidentsAndNodesListed
  constructor
  · intro src tag s hr hm hok r line
    obtain ⟨-, -, hfree, -⟩ := hok
    have hlines : r.slots.flatMap slotLine = r.slots.flatMap line :=
      List.flatMap_congr fun k hk => slotLine_eq (hfree k hk)
    have hcarry : ∀ u : State, carryOut .incidentList [] u = (u, .answer .ok (incidentListData u.recorder)) := fun _ => rfl
    refine (request_unchanged s src tag .incidentList [] .ok _ hr hm rfl (hcarry _)).trans ?_
    show _ = Host.Outcome.next (answered s (responseFrame src tag .incidentList .ok
      (r.slots.flatMap line ++ _ ++ _ ++ _ ++ _)))
    rw [← hlines]
    rfl
  · intro src tag first count s hr hm respond get fld timer entry
    have hfirst : fieldAt [first, count] 0 1 = first.toNat := fieldAt_one _ 0
    have hcount : fieldAt [first, count] 1 1 = count.toNat := fieldAt_one _ 1
    have hentry : ∀ payload i, nodeBytes (underRequest s src payload) i = entry i := by
      intro payload i
      have hseq : optQ 1 ((getNode s i).lastSeq.map BitVec.toNat) = match (getNode s i).lastSeq with
          | some q => [1, q]
          | none => [0, 0] := by
        cases (getNode s i).lastSeq with
        | none => rfl
        | some q => exact congrArg (List.cons 1) (be_one_byte q)
      have htimer : timerBytes (getNode s i).timer = timer (getNode s i).timer := by
        cases (getNode s i).timer <;> rfl
      have hlive : be 1 (livenessCode (getNode s i).liveness) = [match (getNode s i).liveness with
          | .unseen => (0 : Byte)
          | .live => 1
          | .lost => 2] := by
        cases (getNode s i).liveness <;> rfl
      show nodeBytes s i = entry i
      rewrite [nodeBytes_eq, hseq, htimer, hlive]
      rfl
    refine ⟨fun hbad => ?_, fun h1 h2 h3 h4 => ?_⟩
    · exact request_unchanged s src tag .nodeStatusGet [first, count] .badArg [] hr hm rfl
        (nodeList_refused hfirst hcount (by omega) _)
    · have hdata : ∀ payload, (List.range' first.toNat count.toNat).flatMap (nodeBytes (underRequest s src payload)) =
          (List.range count.toNat).flatMap (fun j => entry (first.toNat + j)) := by
        intro payload
        rw [List.range'_eq_map_range, List.flatMap_map]
        exact List.flatMap_congr fun j _ => hentry payload _
      refine request_unchanged s src tag .nodeStatusGet [first, count] .ok _ hr hm rfl ?_
      rw [← hdata (requestPayload tag .nodeStatusGet [first, count])]
      exact nodeList_accepted hfirst hcount ⟨h1, h2, h3, h4⟩ _

/-! ## The secure check (R96) -/

theorem fiveBits (a b c d e : Bool) :
    let n := a.toNat + 2 * b.toNat + 4 * c.toNat + 8 * d.toNat + 16 * e.toNat
    n.testBit 0 = a ∧ n.testBit 1 = b ∧ n.testBit 2 = c ∧ n.testBit 3 = d ∧ n.testBit 4 = e ∧ n < 32 := by
  revert a b c d e
  decide

theorem roleLive_iff (s : State) (r : Role) : roleLive s r = true ↔
    ∃ i, binding s.tables r = some i ∧ (getNode s i).liveness = .live := by
  unfold roleLive getNode
  cases binding s.tables r <;> simp

theorem valveItem_iff (s : State) (t : Truck) : valveItem s t = true ↔
    (∃ i, binding s.tables (valveRole t) = some i ∧ (getNode s i).liveness = .live)
      ∧ (getTruck s t).condition = .clear ∧ (getTruck s t).held = true ∧ (getTruck s t).fault = false := by
  unfold valveItem
  simp [roleLive_iff, and_assoc]

/-- Each failing item is a bit of the byte that NOT_SECURED carries. -/
theorem failingItems_bits (s : State) :
    ((failingItems s).testBit 0 = false ↔ ∃ e, s.air.standstill = .running e ∧ 5000 ≤ e)
    ∧ ((failingItems s).testBit 1 = false ↔ valveItem s .t1 = true)
    ∧ ((failingItems s).testBit 2 = false ↔ valveItem s .t2 = true)
    ∧ ((failingItems s).testBit 3 = false ↔ tableField s.tables.blend 9 0 ≤ s.air.truck1.pressure)
    ∧ ((failingItems s).testBit 4 = false ↔ tableField s.tables.blend 9 0 ≤ s.air.truck2.pressure)
    ∧ failingItems s < 32 := by
  obtain ⟨h0, h1, h2, h3, h4, h5⟩ := fiveBits (!standstillItem s) (!valveItem s .t1) (!valveItem s .t2)
    (!pressureItem s .t1) (!pressureItem s .t2)
  unfold failingItems
  rw [h0, h1, h2, h3, h4]
  simp only [Bool.not_eq_false']
  exact ⟨Timer.reached_iff _ _, trivial, trivial, decide_eq_true_iff, decide_eq_true_iff, h5⟩

/-! ## MODE_SET (O50) -/

section
variable {u : State}

/-- MODE_SET for a target of one byte, its branches by the target. -/
theorem ownModeSet_noMode {target : Byte} (h1 : target ≠ 1) (h2 : target ≠ 2) :
    ownModeSet [target] u = (u, .answer .badArg []) := by
  have hne : ∀ b : Byte, target ≠ b → target.toNat ≠ b.toNat := fun b h hn => h (BitVec.eq_of_toNat_eq hn)
  unfold ownModeSet
  rw [fieldAt_single]
  exact if_pos ⟨hne 1 h1, hne 2 h2⟩

theorem ownModeSet_busy {target : Byte} (h : target = 1 ∨ target = 2) (hbusy : u.control.validation ≠ none) :
    ownModeSet [target] u = (u, .answer .busy []) := by
  unfold ownModeSet
  rw [fieldAt_single]
  have hsome : u.control.validation.isSome = true := Option.isSome_iff_ne_none.mpr hbusy
  rcases h with rfl | rfl
  all_goals exact if_pos hsome

theorem ownModeSet_service (hfree : u.control.validation = none) : ownModeSet [2] u =
    if u.control.mode = .service then (u, .answer .redundant [])
    else ({ u with control := { u.control with validation := some 0 } }, .inFlight) := by
  unfold ownModeSet
  rw [fieldAt_single, hfree]
  rfl

theorem ownModeSet_maintenance (hfree : u.control.validation = none) : ownModeSet [1] u =
    match u.control.mode with
    | .init => (u, .answer .refusedMode [])
    | .maintenance => (u, .answer .redundant [])
    | .service =>
      if u.authority.latch then (u, .answer .emergencyLatched [])
      else if failingItems u ≠ 0 then (u, .answer .notSecured (q1 (failingItems u)))
      else (leaveService u, .answer .ok (q1 (modeCode .maintenance))) := by
  unfold ownModeSet
  rw [fieldAt_single, hfree]
  rfl

end

/-- A command that starts a validation: its buffer is IN_FLIGHT, without a response (R165). -/
theorem request_inFlight {s x : State} {src tag : Byte} {k : Command} {args : List Byte} (hr : Ready s)
    (hm : MayIssue s src k args) (ha : argsFit k args = true) (hx : x.management = s.management)
    (hc : carryOut k args (underRequest s src (requestPayload tag k args)) =
      (underRequest x src (requestPayload tag k args), .inFlight)) :
    request src tag k args s = .next (syncOutputs { x with
      management := placed s.management { waitingBuffer src (requestPayload tag k args) with state := .inFlight }
      deferred := none }) := by
  obtain ⟨hlive, hslot, hroom⟩ := hr
  obtain ⟨isB, hs⟩ := Option.ne_none_iff_exists'.mp hslot
  let waiting := waitingBuffer src (requestPayload tag k args)
  have hj : judge waiting (underRequest s src (requestPayload tag k args)) =
      (underRequest x src (requestPayload tag k args), .inFlight) := 
    (judge_own (underRequest s src (requestPayload tag k args)) src tag k args hm.1 ha hm.2).trans hc
  have hbuffer := placed_buffer s.management waiting isB hs
  have hquiet : oldestAwaiting (placed s.management { waiting with state := .inFlight }) = none := by
    cases isB
    · obtain ⟨_, hb | hb⟩ := slotFor_a _ hs
      all_goals simp [placed, hs, oldestAwaiting, awaits, hb]
    · obtain ⟨ha', _⟩ := slotFor_b _ hs
      simp [placed, hs, oldestAwaiting, awaits, ha']
  have hset : flushNotices (setBuffer (underRequest x src (requestPayload tag k args)) isB
      { waiting with state := .inFlight }) = { x with
        management := placed s.management { waiting with state := .inFlight }, deferred := none } := by
    unfold underRequest
    rw [hx]
    cases isB <;> simp [setBuffer, placed, hs, flushNotices, handNotices, waiting]
  have htaken : takeRequest [] isB { s with management := placed s.management waiting } = { x with
      management := placed s.management { waiting with state := .inFlight }, deferred := none } := by
    unfold takeRequest getBuffer
    dsimp only
    rw [hbuffer]
    have hj' : judge waiting { s with management := placed s.management waiting, deferred := some [] } = _ := hj
    rw [hj']
    exact hset
  unfold request
  rw [event_live _ _ hlive, handRequest_ready _ _ _ _ hs hroom]
  show Host.Outcome.next (syncOutputs (serve 1 [] (takeRequest [] isB { s with management := placed s.management waiting }))) = _
  rw [htaken, serve_none hquiet]

/-- Settles O50. -/
theorem modeSetDecided : Obligations.ModeSetDecided := by
  unfold Obligations.ModeSetDecided
  constructor
  · intro src tag target s hr hm respond set mode free
    let u := fun b : Byte => underRequest s src (requestPayload tag .modeSet [b])
    have hrefused : ∀ {r : ResultCode} {data : List Byte},
        ownModeSet [target] (u target) = (u target, .answer r data) →
        set = .next (respond r data) :=
      fun h => request_unchanged s src tag .modeSet [target] _ _ hr hm rfl h
    refine ⟨fun h1 h2 => ?_, fun ht hbusy => ?_, fun ht hfree hmode => ?_, fun ht hfree hmode => ?_,
      fun ht hfree hmode => ?_, fun ht hfree hmode hlatch => ?_, fun ht hfree hmode hlatch hitems => ?_,
      fun ht hfree hmode => ?_⟩
    · exact hrefused (ownModeSet_noMode h1 h2)
    · exact hrefused (ownModeSet_busy (u := u target) ht hbusy)
    · subst ht
      exact hrefused ((ownModeSet_service (u := u 2) hfree).trans (if_pos hmode))
    all_goals subst ht
    · refine hrefused ((ownModeSet_maintenance (u := u 1) hfree).trans ?_)
      rw [show (u 1).control.mode = _ from hmode]
    · refine hrefused ((ownModeSet_maintenance (u := u 1) hfree).trans ?_)
      rw [show (u 1).control.mode = _ from hmode]
    · refine hrefused ((ownModeSet_maintenance (u := u 1) hfree).trans ?_)
      rw [show (u 1).control.mode = _ from hmode]
      exact if_pos hlatch
    · refine hrefused ((ownModeSet_maintenance (u := u 1) hfree).trans ?_)
      rw [show (u 1).control.mode = _ from hmode]
      exact (if_neg (Bool.eq_false_iff.mp hlatch)).trans (if_pos hitems)
    · exact request_inFlight (x := { s with control := { s.control with validation := some 0 } }) hr hm rfl rfl
        ((ownModeSet_service (u := u 2) hfree).trans (if_neg hmode))
  · intro s live sound least holds
    obtain ⟨h0, h1, h2, h3, h4, h5⟩ := failingItems_bits s
    exact ⟨h0, h1.trans (valveItem_iff s .t1), h2.trans (valveItem_iff s .t2), h3, h4, h5⟩

end Sys2Proof.Machine
end

section
/-! PROOF. A request's receipt and its checks in order (O49). -/

namespace Sys2Proof.Machine

/-! ## Receipt (R158, R160, R161) -/

theorem handRequest_busy {src : Byte} {payload : List Byte} {s : State} (ha : s.management.bufA.state ≠ .free)
    (hb : s.management.bufB.state ≠ .free) : handRequest [] src payload s = handOver s .c
      ⟨src, 0x41, [payload.getD 0 0, if payload.length < 2 then 0 else payload.getD 1 0, 2]⟩ := by
  refine (if_neg ha).trans ((if_neg hb).trans ?_)
  dsimp only
  by_cases hshort : payload.length < 2
  · rw [if_pos hshort, if_pos hshort]
    rfl
  · rw [if_neg hshort, if_neg hshort]
    rfl

/-- Without room a WAITING request stays in its buffer (R160). -/
theorem serve_stays {u : State} (h : 8 ≤ u.link.cPort.originated.length) : serve 2 [] u = u :=
  serve_full (decide_eq_false (Nat.not_lt_of_le h)) 2

/-! ## The checks (R162, R163) -/

/-- The roles that may issue the command of a code outside INIT. -/
def allowedRoles : Nat → List Role
  | 1 | 2 => [.cabA, .cabB, .dp, .locoComputer, .recorder, .tool, .axleConc, .valveT1, .valveT2, .traction,
      .radar, .other]
  | 13 | 14 | 15 => [.recorder, .locoComputer, .tool]
  | 16 | 7 => [.cabA, .cabB, .locoComputer, .tool]
  | _ => [.locoComputer, .tool]

theorem rolePermitted_eq (k : Command) (r : Role) :
    rolePermitted k r = decide (r ∈ allowedRoles (commandCode k).toNat) := by
  cases k <;> cases r <;> rfl

theorem permitted_iff (s : State) (k : Command) (src : Byte) : permitted s k src = true ↔
    s.control.mode = .init ∨ ∃ x ∈ allowedRoles (commandCode k).toNat,
      (lookupNode s.tables .c src).bind (nodeRole s.tables) = some x := by
  unfold permitted requesterRole
  rw [Bool.or_eq_true, decide_eq_true_iff]
  refine or_congr_right ?_
  cases (lookupNode s.tables .c src).bind (nodeRole s.tables) with
  | none => simp
  | some r => simp [rolePermitted_eq]

/-- The argument bytes of the commands with a fixed layout. -/
def fixedArgs : Nat → Nat
  | 1 | 4 | 7 | 11 | 12 => 1
  | 2 => 2
  | 3 | 6 => 4
  | 14 => 6
  | 15 => 5
  | _ => 0

theorem argsFit_iff (k : Command) (args : List Byte) : argsFit k args = true ↔
    if (commandCode k).toNat = 5 then 4 ≤ args.length ∧ ∃ id, tableOfId (args.getD 0 0).toNat = some id
      ∧ args.length = 4 + (args.getD 3 0).toNat * entrySize id
    else args.length = fixedArgs (commandCode k).toNat := by
  cases k
  case tableWrite =>
    rw [if_pos (show (commandCode .tableWrite).toNat = 5 from rfl), ← fieldAt_one, ← fieldAt_one]
    unfold argsFit
    dsimp only
    cases tableOfId (fieldAt args 0 1) <;> simp
  all_goals exact decide_eq_true_iff

theorem cabTest_iff (s : State) (k : Command) (src : Byte) (args : List Byte) : cabTest s k src args = false ↔
    (commandCode k).toNat = 7 ∧ s.control.mode ≠ .init
      ∧ ((lookupNode s.tables .c src).bind (nodeRole s.tables) = some .cabA ∧ args.getD 0 0 ≠ 1
        ∨ (lookupNode s.tables .c src).bind (nodeRole s.tables) = some .cabB ∧ args.getD 0 0 ≠ 2) := by
  have hcode : (commandCode k).toNat = 7 ↔ k = .sourceSelect := by cases k <;> decide
  have hbyte : ∀ b : Byte, args.getD 0 0 ≠ b ↔ (args.getD 0 0).toNat ≠ b.toNat := fun b =>
    not_congr ⟨fun h => by rw [h], BitVec.eq_of_toNat_eq⟩
  rw [hcode, hbyte 1, hbyte 2]
  unfold cabTest requesterRole
  rw [fieldAt_one]
  by_cases h : k = .sourceSelect ∧ s.control.mode ≠ .init
  · rw [if_pos h]
    cases (lookupNode s.tables .c src).bind (nodeRole s.tables) with
    | none => simp
    | some r => cases r <;> simp [h.1, h.2, sourceCode]
  · rw [if_neg h]
    simp only [Bool.true_eq_false, false_iff]
    exact fun hn => h ⟨hn.1, hn.2.1⟩

/-- The codes 01h to 11h name the commands. -/
theorem commandOfCode_known {c : Byte} (h : 1 ≤ c.toNat ∧ c.toNat ≤ 17) : ∃ k, commandCode k = c := by
  obtain ⟨hlow, hhigh⟩ := h
  have hcode : ∀ n, 1 ≤ n → n ≤ 17 → ∃ k, commandCode k = BitVec.ofNat 8 n := by
    intro n h1 h17
    interval_cases n
    exacts [⟨.statusGet, rfl⟩, ⟨.nodeStatusGet, rfl⟩, ⟨.flagsClear, rfl⟩, ⟨.modeSet, rfl⟩, ⟨.tableWrite, rfl⟩,
      ⟨.tableRead, rfl⟩, ⟨.sourceSelect, rfl⟩, ⟨.sourceAbort, rfl⟩, ⟨.sourceLock, rfl⟩, ⟨.dbTripClear, rfl⟩,
      ⟨.axleIsolate, rfl⟩, ⟨.axleRestore, rfl⟩, ⟨.incidentList, rfl⟩, ⟨.incidentRead, rfl⟩, ⟨.incidentRelease, rfl⟩,
      ⟨.incidentMark, rfl⟩, ⟨.restart, rfl⟩]
  obtain ⟨k, hk⟩ := hcode c.toNat hlow hhigh
  exact ⟨k, by rw [hk, BitVec.ofNat_toNat, BitVec.setWidth_eq]⟩

theorem commandOfCode_unknown {c : Byte} (h : ¬ (1 ≤ c.toNat ∧ c.toNat ≤ 17)) : commandOfCode c = none := by
  unfold commandOfCode
  rw [List.find?_eq_none]
  intro k _ hk
  rw [← of_decide_eq_true hk] at h
  exact h (by cases k <;> decide)

section
variable {b : Buffer} {u : State} {t c : Byte} {k : Command}

theorem judge_short (h : b.command = none) : judge b u = (u, .answer .badArg []) := by
  unfold judge
  rw [h]
  cases b.tag <;> rfl

theorem judge_known (ht : b.tag = some t) (hc : b.command = some (commandCode k)) : judge b u =
    if !permitted u k b.src then (u, .answer .notPermitted [])
    else if !argsFit k b.args then (u, .answer .badArg [])
    else if !cabTest u k b.src b.args then (u, .answer .notPermitted [])
    else carryOut k b.args u := by
  unfold judge
  rw [ht, hc]
  dsimp only
  rw [commandOfCode_commandCode]

theorem judge_unknown (ht : b.tag = some t) (hc : b.command = some c) (h : commandOfCode c = none) :
    judge b u = (u, .answer .unknownCommand []) := by
  unfold judge
  rw [ht, hc]
  dsimp only
  rw [h]

end

theorem statusSection_underRequest (s : State) (src : Byte) (payload : List Byte) {n : Nat} (h1 : 1 ≤ n) (h9 : n ≤ 9) :
    statusSection (underRequest s src payload) n = statusSection s n := by
  interval_cases n <;> rfl

theorem statusSection_some (s : State) {n : Nat} (h9 : n ≤ 9) : ∃ data, statusSection s n = some data := by
  interval_cases n <;> exact ⟨_, rfl⟩

/-- A section beside MODE does not speak of the request that asks for it (R166). -/
theorem request_statusSection {s : State} {src tag sect : Byte} {data : List Byte} (hr : Ready s)
    (hm : MayIssue s src .statusGet [sect]) (h1 : 1 ≤ sect.toNat) (h9 : sect.toNat ≤ 9)
    (hdata : statusSection s sect.toNat = some data) :
    request src tag .statusGet [sect] s = .next (answered s (responseFrame src tag .statusGet .ok data)) := by
  refine request_unchanged s src tag .statusGet [sect] .ok data hr hm rfl ?_
  show ownStatusGet [sect] _ = _
  unfold ownStatusGet
  rw [fieldAt_single, statusSection_underRequest s src _ h1 h9, hdata]

/-- Settles O49. -/
theorem requestsCheckedInOrder : Obligations.RequestsCheckedInOrder := by
  unfold Obligations.RequestsCheckedInOrder
  refine ⟨fun src payload s hr => ?_, fun src payload s hr => ?_, fun src tag sect s hr hm h1 h9 => ?_,
    fun src tag k s hr hm hpending => ?_⟩
  · intro a b tag code waiting give
    have hexec : give = .next (syncOutputs (handRequest [] src payload s)) := event_live s (handRequest [] src payload) hr
    refine ⟨fun ha hb => ?_, fun hfull ha => ?_, fun hfull ha hb => ?_⟩
    · rw [hexec, handRequest_busy ha hb]
    · rw [hexec, handRequest_a ha, serve_stays (by exact hfull)]
      rfl
    · rw [hexec, handRequest_b ha hb, serve_stays (by exact hfull)]
      rfl
  · intro tag code refused args known role roles allowed plain fits foreign
    let u := underRequest s src payload
    let b := waitingBuffer src payload
    have hrefused : ∀ {c : Byte} {r : ResultCode}, b.command.getD 0 = c → judge b u = (u, .answer r []) →
        refused c (BitVec.ofNat 8 (resultCode r)) := by
      rintro _ r rfl hjudge
      exact request_judged hr hjudge
    constructor
    · intro hshort
      have hnone : b.command = none := List.getElem?_eq_none (by omega)
      exact hrefused (r := .badArg) (by rw [hnone]; rfl) (judge_short hnone)
    · have hcommand : 2 ≤ payload.length → b.tag = some tag ∧ b.command = some code := by
        intro hlong
        have hget : ∀ i, i < payload.length → payload[i]? = some (payload.getD i 0) := fun i hi => by
          rw [List.getD_eq_getElem?_getD, List.getElem?_eq_getElem hi]
          rfl
        exact ⟨hget 0 (by omega), hget 1 (by omega)⟩
      have hcode : 2 ≤ payload.length → b.command.getD 0 = code := fun hlong => by rw [(hcommand hlong).2]; rfl
      have hpermitted : ∀ {k}, commandCode k = code → (permitted u k src = true ↔ allowed) := by
        intro k hk
        rw [permitted_iff, hk]
        exact .rfl
      have hfits : ∀ {k}, commandCode k = code → (argsFit k args = true ↔ fits) := by
        intro k hk
        rw [argsFit_iff, hk]
        exact .rfl
      have hforeign : ∀ {k}, commandCode k = code → (cabTest u k src args = false ↔ foreign) := by
        intro k hk
        rw [cabTest_iff, hk]
        exact .rfl
      have hjudge : ∀ {k}, 2 ≤ payload.length → commandCode k = code → judge b u =
          if !permitted u k src then (u, .answer .notPermitted [])
          else if !argsFit k args then (u, .answer .badArg [])
          else if !cabTest u k src args then (u, .answer .notPermitted [])
          else carryOut k args u := by
        intro k hlong hk
        exact judge_known (hcommand hlong).1 (by rw [hk]; exact (hcommand hlong).2)
      refine ⟨fun hlong hunknown => ?_, fun hlong hknown hno => ?_, fun hlong hknown hyes hno => ?_,
        fun hlong hknown hyes hfit hcab => ?_⟩
      · exact hrefused (r := .unknownCommand) (hcode hlong)
          (judge_unknown (hcommand hlong).1 (hcommand hlong).2 (commandOfCode_unknown hunknown))
      all_goals obtain ⟨k, hk⟩ := commandOfCode_known hknown
      · refine hrefused (r := .notPermitted) (hcode hlong) ((hjudge hlong hk).trans ?_)
        rw [Bool.eq_false_iff.mpr (mt (hpermitted hk).mp hno)]
        rfl
      · refine hrefused (r := .badArg) (hcode hlong) ((hjudge hlong hk).trans ?_)
        rw [(hpermitted hk).mpr hyes, Bool.eq_false_iff.mpr (mt (hfits hk).mp hno)]
        rfl
      · refine hrefused (r := .notPermitted) (hcode hlong) ((hjudge hlong hk).trans ?_)
        rw [(hpermitted hk).mpr hyes, (hfits hk).mpr hfit, (hforeign hk).mpr hcab]
        rfl
  · obtain ⟨data, hdata⟩ := statusSection_some s h9
    exact ⟨data, hdata, request_statusSection hr hm h1 h9 hdata⟩
  · have hcarry : carryOut .sourceAbort [] (underRequest s src (requestPayload tag .sourceAbort [])) =
        (underRequest { s with authority := { s.authority with pendingSwitch := none } } src
          (requestPayload tag .sourceAbort []), .answer .ok []) :=
      if_pos (by exact Option.isSome_iff_exists.mpr ⟨k, hpending⟩)
    have hanswered : request src tag .sourceAbort [] s = .next (answered
        { s with authority := { s.authority with pendingSwitch := none } }
        (responseFrame src tag .sourceAbort .ok [])) := request_changed hr hm rfl rfl hcarry
    exact hanswered

end Sys2Proof.Machine
end

section
/-! PROOF. STATUS_GET and TABLE_READ (O48). -/

namespace Sys2Proof.Machine

/-! ## The encodings, as R166 spells them out -/

theorem Six.flatMap_toList {α β : Type} (x : Six α) (f : α → List β) :
    x.toList.flatMap f = six.flatMap (fun i => f (x.get i)) := by
  rw [Six.toList_eq, List.flatMap_map]

theorem truckFactor_eq (s : State) :
    let counted := fun n : Fin 6 => if (s.slide.axles.get n).state = .sensorFault
      ∨ (s.slide.axles.get n).state = .isolated then 1000 else (s.slide.axles.get n).f
    truckFactor s .t1 = min 1000 (min (counted 0) (min (counted 1) (counted 2)))
    ∧ truckFactor s .t2 = min 1000 (min (counted 3) (min (counted 4) (counted 5))) := by
  intro counted
  have hshare : ∀ n : Fin 6, truckShare (s.slide.axles.get n) = counted n := by
    intro n
    unfold truckShare countsInTruck
    rcases hstate : (s.slide.axles.get n).state
    all_goals simp [counted, hstate]
  have hmin : ∀ a b c : Nat, min (min a b) (min c 1000) = min 1000 (min a (min b c)) := by omega
  constructor
  · rw [← hshare 0, ← hshare 1, ← hshare 2, ← hmin]
    rfl
  · rw [← hshare 3, ← hshare 4, ← hshare 5, ← hmin]
    rfl

theorem counterBytes_eq (k : PortCounters) : counterBytes k = [k.rxGood, k.runt, k.long, k.lengthMismatch,
    k.checkError, k.unknown, k.ownDropped, k.notPassed, k.forwardDrop, k.originatedDrop, k.txOriginated,
    k.txForwarded].flatMap (be 4) := by
  simp [counterBytes, q4]

theorem setupOrIdle_eq (b : Brake) : setupOrIdle b = match b.setupTimer with
    | .running e => .running e
    | _ => b.idleTimer := by
  unfold setupOrIdle
  cases b.setupTimer <;> rfl

theorem faultOutput_eq (s : State) : (drivenOutputs s).fault = faultCauses.any (flagSet s) := by
  rw [Bool.eq_iff_iff, List.any_eq_true]
  exact decide_eq_true_iff.trans (faultFlags_iff s.lines.flags)

/-- The fields of the arguments that name entries of a table. -/
theorem tableArgs (table count : Byte) (first : BitVec 16) (rest : List Byte) :
    let args := [table] ++ q2 first.toNat ++ [count] ++ rest
    fieldAt args 0 1 = table.toNat ∧ fieldAt args 1 2 = first.toNat ∧ fieldAt args 3 1 = count.toNat
    ∧ args.take 4 = [table] ++ q2 first.toNat ++ [count] ∧ args.drop 4 = rest := by
  intro args
  have hlt := first.isLt
  refine ⟨fieldAt_one args 0, ?_, fieldAt_one args 3, rfl, rfl⟩
  rw [fieldAt_two args 1 (by simp [args, q2])]
  show 256 * (BitVec.ofNat 8 (first.toNat / 256)).toNat + (BitVec.ofNat 8 first.toNat).toNat = _
  rw [BitVec.toNat_ofNat, BitVec.toNat_ofNat]
  omega

theorem tableOfId_none {n : Nat} (h : 16 < n) : tableOfId n = none := List.getElem?_eq_none h

theorem statusSection_none (s : State) {n : Nat} (h : 9 < n) : statusSection s n = none := by
  match n, h with
  | n + 10, _ => rfl

/-- Settles O48. -/
theorem statusAndTablesRead : Obligations.StatusAndTablesRead := by
  unfold Obligations.StatusAndTablesRead
  constructor
  · intro src tag sect s hr hm respond get holding opt timer byte flag source a d monitor axle truck b period counters
      busy runs factor edges sections
    have hopt : opt = optQ := by
      funext k x
      cases x <;> rfl
    have htimer : timer = timerBytes := by
      funext x
      cases x <;> rfl
    clear_value opt timer
    subst hopt htimer
    have hsource : source = optSource := by
      funext x
      cases x <;> rfl
    have hbyte : byte = q1 := rfl
    have hflag : flag = mark := rfl
    clear_value source byte flag
    subst hsource hbyte hflag
    have hruns : runs = fun x => mark x.runs := by
      funext x
      cases x <;> rfl
    clear_value runs
    subst hruns
    have hsections : ∀ n, 1 ≤ n → n ≤ 9 → statusSection s n = sections[n]? := by
      intro n h1 h9
      interval_cases n
      · exact congrArg some rfl
      · unfold statusSection speedSection
        rw [(truckFactor_eq s).1, (truckFactor_eq s).2]
        exact congrArg some rfl
      · unfold statusSection axlesSection
        rw [Six.flatMap_toList]
        exact congrArg some rfl
      · unfold statusSection dbSection
        dsimp only
        rw [setupOrIdle_eq]
        exact congrArg some rfl
      · unfold statusSection blendSection
        dsimp only
        rw [Six.flatMap_toList]
        exact congrArg some rfl
      · exact congrArg some rfl
      · exact congrArg some rfl
      · unfold statusSection linkSection
        dsimp only
        rw [counterBytes_eq, counterBytes_eq]
        exact congrArg some rfl
      · unfold statusSection linesSection
        rw [Six.flatMap_toList]
        dsimp only
        rw [faultOutput_eq]
        exact congrArg some rfl
    have hmode : sect.toNat = 0 → get = .next (answered s (respond .ok
        (modeSection { s with management := holding }))) := by
      intro h0
      refine request_unchanged s src tag .statusGet [sect] .ok _ hr hm rfl ?_
      show ownStatusGet [sect] _ = _
      unfold ownStatusGet
      rw [fieldAt_single, h0]
      rfl
    have hother : ∀ data, 1 ≤ sect.toNat → sect.toNat ≤ 9 → statusSection s sect.toNat = some data →
        get = .next (answered s (respond .ok data)) := fun data h1 h9 hdata => request_statusSection hr hm h1 h9 hdata
    refine ⟨fun hbad => ?_, fun data hdata => ?_, hmode, fun h1 h9 => ?_⟩
    · refine request_unchanged s src tag .statusGet [sect] .badArg [] hr hm rfl ?_
      show ownStatusGet [sect] _ = _
      unfold ownStatusGet
      rw [fieldAt_single, statusSection_none _ hbad]
    · rcases Nat.eq_zero_or_pos sect.toNat with h0 | h1
      · rw [h0] at hdata
        obtain rfl := Option.some.inj hdata
        exact hmode h0
      · have h9 : sect.toNat ≤ 9 := by
          have hlt : sect.toNat < sections.length := (List.getElem?_eq_some_iff.mp hdata).1
          exact Nat.le_of_lt_succ hlt
        exact hother data h1 h9 ((hsections _ h1 h9).trans hdata)
    · obtain ⟨data, hdata⟩ := statusSection_some s h9
      exact ⟨data, hdata, (hsections _ h1 h9).symm.trans hdata, hother data h1 h9 hdata⟩
  · intro src tag table count first s hr hm respond read
    let args := [table] ++ q2 first.toNat ++ [count]
    obtain ⟨htable, hfirst, hcount, htake, -⟩ := tableArgs table count first []
    rw [List.append_nil] at htable hfirst hcount htake
    have hown : ∀ u : State, carryOut .tableRead args u = ownTableRead args u := fun _ => rfl
    have hfit : argsFit .tableRead args = true := by simp [argsFit, args, q2]
    refine ⟨fun hbad => ?_, fun id hid => ?_⟩
    · refine request_unchanged s src tag .tableRead args .badArg [] hr hm hfit ?_
      rw [hown]
      unfold ownTableRead
      rw [htable, tableOfId_none hbad]
    · intro range values
      have hread : ∀ u : State, ownTableRead args u = if range then (u, .answer .badArg []) else (u, .answer .ok
          (args ++ mark (getTable u.tables id).loaded
            ++ (((getTable u.tables id).entries.drop first.toNat).take count.toNat).flatMap (entryBytes id))) := by
        intro u
        unfold ownTableRead
        rw [htable, hid, hfirst, hcount, htake]
      refine ⟨fun hrange => ?_, fun hfine => ?_⟩
      · exact request_unchanged s src tag .tableRead args .badArg [] hr hm hfit ((hread _).trans (if_pos hrange))
      · exact request_unchanged s src tag .tableRead args .ok _ hr hm hfit ((hread _).trans (if_neg hfine))

end Sys2Proof.Machine
end

section
/-! PROOF. INCIDENT_READ and INCIDENT_RELEASE (O46). -/

namespace Sys2Proof.Machine

/-! ## The chunks of an incident, byte by byte -/

theorem mark_eq (b : Bool) : mark b = [BitVec.ofNat 8 b.toNat] := by cases b <;> rfl

theorem captureBytes_eq (c : Option Capture) : captureBytes c = match c with
    | none => List.replicate 41 0
    | some c => [BitVec.ofNat 8 (1 + 2 * c.truncated.toNat)]
      ++ [BitVec.ofNat 8 (match c.source with
        | .pattern p => p.val
        | .demand => 8)]
      ++ [BitVec.ofNat 8 (portCode c.port)] ++ [BitVec.ofNat 8 c.length] ++ c.image := by
  cases c <;> rfl

theorem length_captureBytes {c : Option Capture} (h : ∀ x, c = some x → x.image.length = 37) :
    (captureBytes c).length = 41 := by
  cases c with
  | none => rfl
  | some c => simp [captureBytes, q1, h c rfl]

theorem length_snapshotBytes (n : Snapshot) : (snapshotBytes n).length = 64 := by
  unfold snapshotBytes w4 q1 q2
  simp only [mark, Six.toList, List.length_append, length_be, List.flatMap_cons, List.flatMap_nil, List.length_nil,
    List.length_singleton]

theorem length_triggers (ts : List TriggerEntry) : (ts.flatMap triggerBytes).length = 6 * ts.length := by
  induction ts with
  | nil => rfl
  | cons t ts ih =>
    rw [List.flatMap_cons, List.length_append, ih]
    simp only [triggerBytes, q1, w4, List.length_append, length_be, List.length_cons]
    omega

theorem length_incidentHeader (i : Nat) {k : Slot} (htriggers : k.triggers.length ≤ 8)
    (hcaptures : ∀ c ∈ [k.capture1, k.capture2, k.capture3, k.capture4], ∀ x, c = some x → x.image.length = 37) :
    (incidentHeader i k).length = 234 := by
  have hcapture : ∀ c ∈ [k.capture1, k.capture2, k.capture3, k.capture4], (captureBytes c).length = 41 :=
    fun c hc => length_captureBytes (hcaptures c hc)
  have htime : (optQ 4 (k.timeOfDay.map BitVec.toNat)).length = 5 := by
    cases k.timeOfDay <;> simp [optQ]
  simp only [List.forall_mem_cons] at hcapture
  obtain ⟨h1, h2, h3, h4, -⟩ := hcapture
  unfold incidentHeader q1 q2 q4 w4
  simp only [List.length_append, h1, h2, h3, h4, length_triggers, htime, length_be, mark, List.length_replicate, List.length_singleton, Config.triggerCapacity]
  omega

/-- The header as chapter 11 lays it out. -/
theorem incidentHeader_eq (i : Nat) (k : Slot) : incidentHeader i k =
    [BitVec.ofNat 8 i] ++ [BitVec.ofNat 8 (slotStateCode k.state)] ++ be 4 (k.seq.getD 0) ++ be 4 k.openTime.toNat
      ++ (match k.timeOfDay with
        | some x => 1 :: be 4 x.toNat
        | none => [0, 0, 0, 0, 0])
      ++ [BitVec.ofNat 8 k.dropped] ++ [BitVec.ofNat 8 k.preCount] ++ be 2 k.snapshots.length
      ++ [BitVec.ofNat 8 k.protected_.toNat] ++ [BitVec.ofNat 8 (endCauseCode k.endCause)]
      ++ [BitVec.ofNat 8 k.triggers.length] ++ k.triggers.flatMap triggerBytes
      ++ List.replicate (6 * (8 - k.triggers.length)) 0
      ++ captureBytes k.capture1 ++ captureBytes k.capture2 ++ captureBytes k.capture3 ++ captureBytes k.capture4 := by
  have htime : optQ 4 (k.timeOfDay.map BitVec.toNat) = match k.timeOfDay with
      | some x => 1 :: be 4 x.toNat
      | none => [0, 0, 0, 0, 0] := by
    cases k.timeOfDay <;> rfl
  unfold incidentHeader
  rewrite [htime, mark_eq]
  rfl

/-! ## The arguments -/

theorem fieldAt_second (b : Byte) (k v : Nat) (rest : List Byte) :
    fieldAt ([b] ++ be k v ++ rest) 1 k = v % 256 ^ k := by
  have hdrop : ([b] ++ be k v ++ rest).drop 1 = be k v ++ rest := rfl
  rw [fieldAt, hdrop, List.take_left' (length_be k v), beValue_be]

theorem readArgs (slot chunk : Byte) (number : Word32) :
    let args := [slot] ++ w4 number ++ [chunk]
    fieldAt args 0 1 = slot.toNat ∧ fieldAt args 1 4 = number.toNat ∧ fieldAt args 5 1 = chunk.toNat := by
  intro args
  exact ⟨fieldAt_one args 0, (fieldAt_second slot 4 number.toNat [chunk]).trans (Nat.mod_eq_of_lt number.isLt),
    fieldAt_one args 5⟩

theorem releaseArgs (slot : Byte) (number : Word32) :
    let args := [slot] ++ w4 number
    fieldAt args 0 1 = slot.toNat ∧ fieldAt args 1 4 = number.toNat := by
  intro args
  have hargs : args = [slot] ++ be 4 number.toNat ++ [] := (List.append_nil _).symm
  refine ⟨fieldAt_one args 0, ?_⟩
  rw [hargs, fieldAt_second]
  exact Nat.mod_eq_of_lt number.isLt

theorem readable_iff (k : Slot) : readable k = true ↔ k.state = .sealed ∨ k.state = .read := by
  simp [readable]

/-- INCIDENT_READ by its arguments. -/
theorem ownIncidentRead_eq {args : List Byte} {i seq chunk : Nat} (hi : fieldAt args 0 1 = i)
    (hseq : fieldAt args 1 4 = seq) (hchunk : fieldAt args 5 1 = chunk) (u : State) :
    ownIncidentRead args u =
      if 7 < i then (u, .answer .badArg [])
      else if !readable (getSlot u.recorder i) then (u, .answer .notReady [])
      else if (getSlot u.recorder i).seq ≠ some seq then (u, .answer .stale [])
      else if lastChunk (getSlot u.recorder i).snapshots.length < chunk then (u, .answer .badArg [])
      else ({ u with recorder := setSlot u.recorder i { getSlot u.recorder i with state := .read } },
        .answer .ok (incidentChunk i (getSlot u.recorder i) chunk)) := by
  unfold ownIncidentRead
  rw [hi, hseq, hchunk]

theorem ownIncidentRelease_eq {args : List Byte} {i seq : Nat} (hi : fieldAt args 0 1 = i)
    (hseq : fieldAt args 1 4 = seq) (u : State) :
    ownIncidentRelease args u =
      if 7 < i then (u, .answer .badArg [])
      else if !readable (getSlot u.recorder i) then (u, .answer .notReady [])
      else if (getSlot u.recorder i).seq ≠ some seq then (u, .answer .stale [])
      else ({ u with recorder := setSlot u.recorder i Slot.free }, .answer .ok []) := by
  unfold ownIncidentRelease
  rw [hi, hseq]

/-- Settles O46. -/
theorem incidentReadAndReleased : Obligations.IncidentReadAndReleased := by
  unfold Obligations.IncidentReadAndReleased
  constructor
  · intro src tag slot chunk number s hr hm respond read i k ready last
    let args := [slot] ++ w4 number ++ [chunk]
    obtain ⟨hslot, hnumber, hchunk⟩ := readArgs slot chunk number
    let u := underRequest s src (requestPayload tag .incidentRead args)
    have hown : carryOut .incidentRead args u = _ := ownIncidentRead_eq hslot hnumber hchunk u
    have hfit : argsFit .incidentRead args = true := by simp [argsFit, args, w4]
    have hready : readable k = true ↔ ready := readable_iff k
    have hrefused : ∀ {r : ResultCode}, carryOut .incidentRead args u = (u, .answer r []) →
        read = .next (answered s (respond r [])) :=
      fun h => request_unchanged s src tag .incidentRead args _ _ hr hm hfit h
    have hblocked : ¬ ready → (!readable k) = true := fun hn => by
      rw [Bool.not_eq_true']
      exact Bool.eq_false_iff.mpr (mt hready.mp hn)
    have hopen : ready → ¬ (!readable k) = true := fun hy => by simp [hready.mpr hy]
    refine ⟨fun hi => ?_, fun hi hn => ?_, fun hi hy hs => ?_, fun hi hy hs hc => ?_, fun hi hy hs hc => ?_⟩
    · exact hrefused (hown.trans (if_pos hi))
    all_goals have hi' := Nat.not_lt_of_le hi
    · exact hrefused (hown.trans ((if_neg hi').trans (if_pos (hblocked hn))))
    · exact hrefused (hown.trans ((if_neg hi').trans ((if_neg (hopen hy)).trans (if_pos hs))))
    · exact hrefused (hown.trans ((if_neg hi').trans ((if_neg (hopen hy)).trans ((if_neg (not_not_intro hs)).trans
        (if_pos hc)))))
    · intro part byte trigger_ capture header snapshot
      have hsnapshot : snapshot = snapshotBytes := by
        funext n
        unfold snapshotBytes
        rewrite [Six.flatMap_toList, mark_eq]
        rfl
      have hcapture : capture = captureBytes := by
        funext c
        exact (captureBytes_eq c).symm
      have hheader : header = incidentHeader i k := by
        rewrite [incidentHeader_eq, ← hcapture]
        rfl
      have hchunkByte : [chunk] = q1 chunk.toNat := (be_one_byte chunk).symm
      have hdata : (if chunk = 0 then header else [chunk] ++ byte part.length ++ part.flatMap snapshot) =
          incidentChunk i k chunk.toNat := by
        unfold incidentChunk
        by_cases hzero : chunk = 0
        · rw [if_pos hzero, if_pos (by rw [hzero]; rfl), hheader]
        · rw [if_neg hzero, if_neg (show ¬ chunk.toNat = 0 from fun h => hzero (BitVec.eq_of_toNat_eq h)), hsnapshot, hchunkByte]
          rfl
      refine ⟨fun n => by rw [hsnapshot]; exact length_snapshotBytes n, fun htriggers himages => ?_, ?_⟩
      · rw [hheader]
        exact length_incidentHeader i htriggers himages
      · rw [hdata]
        exact request_changed (x := { s with recorder := setSlot s.recorder i { k with state := .read } }) hr hm hfit rfl
          (hown.trans ((if_neg hi').trans ((if_neg (hopen hy)).trans ((if_neg (not_not_intro hs)).trans
            (if_neg (Nat.not_lt_of_le hc))))))
  · intro src tag slot number s hr hm respond release i k ready
    let args := [slot] ++ w4 number
    obtain ⟨hslot, hnumber⟩ := releaseArgs slot number
    let u := underRequest s src (requestPayload tag .incidentRelease args)
    have hown : carryOut .incidentRelease args u = _ := ownIncidentRelease_eq hslot hnumber u
    have hfit : argsFit .incidentRelease args = true := by simp [argsFit, args, w4]
    have hready : readable k = true ↔ ready := readable_iff k
    have hrefused : ∀ {r : ResultCode}, carryOut .incidentRelease args u = (u, .answer r []) →
        release = .next (answered s (respond r [])) :=
      fun h => request_unchanged s src tag .incidentRelease args _ _ hr hm hfit h
    have hblocked : ¬ ready → (!readable k) = true := fun hn => by
      rw [Bool.not_eq_true']
      exact Bool.eq_false_iff.mpr (mt hready.mp hn)
    have hopen : ready → ¬ (!readable k) = true := fun hy => by simp [hready.mpr hy]
    refine ⟨fun hi => ?_, fun hi hn => ?_, fun hi hy hs => ?_, fun hi hy hs => ?_⟩
    · exact hrefused (hown.trans (if_pos hi))
    all_goals have hi' := Nat.not_lt_of_le hi
    · exact hrefused (hown.trans ((if_neg hi').trans (if_pos (hblocked hn))))
    · exact hrefused (hown.trans ((if_neg hi').trans ((if_neg (hopen hy)).trans (if_pos hs))))
    · exact request_changed (x := { s with recorder := setSlot s.recorder i Slot.free }) hr hm hfit rfl
        (hown.trans ((if_neg hi').trans ((if_neg (hopen hy)).trans (if_neg (not_not_intro hs)))))

end Sys2Proof.Machine
end

section
/-! PROOF. Which slot a trigger or a snapshot meets, and a snapshot's way into the ring (O43). -/

namespace Sys2Proof.Machine

/-! ## The slot that is found -/

section
variable {r : Recorder} {i : Nat} {k : Slot}

theorem getSlot_of_some (h : r.slots[i]? = some k) : getSlot r i = k := by
  rw [getSlot, List.getD_eq_getElem?_getD, h]
  rfl

theorem lt_length_of_some (h : r.slots[i]? = some k) : i < r.slots.length := (List.getElem?_eq_some_iff.mp h).1

/-- With at most one slot FILLING, the FILLING one is found. -/
theorem fillingSlot_of (h : r.slots[i]? = some k) (hstate : k.state = .filling) (hone : fillingCount r ≤ 1) :
    fillingSlot r = some i := by
  cases hfound : fillingSlot r with
  | none =>
    have hmem : k ∈ r.slots := List.mem_of_getElem? h
    exact absurd hstate (fillingSlot_none hfound k hmem)
  | some j =>
    by_contra hne
    have hji : j ≠ i := fun he => hne (congrArg some he)
    have hjfilling := fillingSlot_state hfound
    obtain ⟨-, hj, -⟩ := getSlot_mem (r := r) (i := j) (by rw [hjfilling]; decide)
    have hzero : fillingCount (setSlot r j Slot.free) = 0 := by
      rw [fillingCount_setSlot hj, if_pos hjfilling, if_neg (by decide)]
      omega
    have hstill : (setSlot r j Slot.free).slots[i]? = some k := by
      rw [setSlot, List.getElem?_set_ne hji, h]
    exact fillingCount_eq_zero.mp hzero k (List.mem_of_getElem? hstill) hstate

theorem fillingSlot_none_of (h : ∀ k ∈ r.slots, k.state ≠ .filling) : fillingSlot r = none :=
  List.findIdx?_eq_none_iff.mpr fun k hk => decide_eq_false (h k hk)

theorem freeSlot_of (h : r.slots[i]? = some k) (hstate : k.state = .free)
    (hfirst : ∀ j, j < i → (getSlot r j).state ≠ .free) : freeSlot r = some i := by
  obtain ⟨hi, hget⟩ := List.getElem?_eq_some_iff.mp h
  refine List.findIdx?_eq_some_iff_getElem.mpr ⟨hi, by rw [hget]; exact decide_eq_true hstate, fun j hj => ?_⟩
  have hj' := hfirst j hj
  rw [getSlot, List.getD_eq_getElem _ _ (Nat.lt_trans hj hi)] at hj'
  simpa using hj'

theorem freeSlot_none_of (h : ∀ k ∈ r.slots, k.state ≠ .free) : freeSlot r = none :=
  List.findIdx?_eq_none_iff.mpr fun k hk => decide_eq_false (h k hk)

end

/-! ## Snapshots (O43) -/

section
variable {n : Snapshot} {s : State}

/-- The Recorder with a snapshot in the ring (R101). -/
def pushedRecorder (r : Recorder) (n : Snapshot) : Recorder :=
  { r with
    divider := 0
    ring := if r.ring.length < 256 then r.ring ++ [n] else r.ring.drop 1 ++ [n] }

theorem takeSnapshot_counts (h : s.recorder.divider + 1 ≠ recordDiv s.tables) :
    takeSnapshot s n = { s with recorder := { s.recorder with divider := s.recorder.divider + 1 } } := if_neg h

theorem takeSnapshot_enters (h : s.recorder.divider + 1 = recordDiv s.tables) :
    takeSnapshot s n = appendToFilling { s with recorder := pushedRecorder s.recorder n } n := if_pos h

theorem appendToFilling_none (h : fillingSlot s.recorder = none) : appendToFilling s n = s := by
  unfold appendToFilling
  rw [h]

/-- A snapshot that does not complete the span of the FILLING incident (R110). -/
theorem appendToFilling_fills {i : Nat} (h : fillingSlot s.recorder = some i)
    (hspan : (getSlot s.recorder i).snapshots.length + 1
      ≠ (getSlot s.recorder i).preCount + (256 - preLimit s.tables)) :
    appendToFilling s n = { s with recorder := setSlot s.recorder i { getSlot s.recorder i with
      snapshots := (getSlot s.recorder i).snapshots ++ [n] } } := by
  unfold appendToFilling
  rw [h]
  exact if_neg (by rw [List.length_append]; exact hspan)

theorem setSlot_setSlot (r : Recorder) (i : Nat) (a b : Slot) : setSlot (setSlot r i a) i b = setSlot r i b := by
  simp [setSlot]

/-- The snapshot that completes the span seals the slot (R110). -/
theorem appendToFilling_seals {i : Nat} (h : fillingSlot s.recorder = some i)
    (hspan : (getSlot s.recorder i).snapshots.length + 1
      = (getSlot s.recorder i).preCount + (256 - preLimit s.tables)) :
    appendToFilling s n = raise .incidentSealed { s with recorder := setSlot s.recorder i { getSlot s.recorder i with
      snapshots := (getSlot s.recorder i).snapshots ++ [n], state := .sealed, endCause := some .complete } } := by
  obtain ⟨-, hi, -⟩ := getSlot_mem (r := s.recorder) (i := i) (by rw [fillingSlot_state h]; decide)
  unfold appendToFilling
  rw [h]
  refine (if_pos (by rw [List.length_append]; exact hspan)).trans ?_
  unfold sealSlot
  dsimp only
  rw [getSlot_setSlot_same _ hi, setSlot_setSlot]

end

/-- Settles O43. -/
theorem snapshotEntersRing : Obligations.SnapshotEntersRing := by
  unfold Obligations.SnapshotEntersRing
  intro n s r div pushed
  refine ⟨takeSnapshot_counts, fun hdiv hnone => ?_, fun i k hdiv hslot hfilling hone => ?_⟩
  · rw [takeSnapshot_enters hdiv, appendToFilling_none (by exact fillingSlot_none_of hnone)]
    rfl
  · intro whole
    let u : State := { s with recorder := pushed }
    have hfound : fillingSlot u.recorder = some i := fillingSlot_of hslot hfilling hone
    have hget : getSlot u.recorder i = k := getSlot_of_some hslot
    have htaken : takeSnapshot s n = appendToFilling u n := takeSnapshot_enters hdiv
    constructor
    · intro hspan
      rw [htaken, appendToFilling_fills hfound (by rw [hget]; exact hspan), hget]
      rfl
    · intro hspan
      rw [htaken, appendToFilling_seals hfound (by rw [hget]; exact hspan), hget]
      rfl

end Sys2Proof.Machine
end

section
/-! PROOF. INCIDENT_MARK (O45): what a taken trigger without a frame does in each state of the slots. -/

namespace Sys2Proof.Machine

/-! ## A taken trigger, by the slots it finds (R105, R111) -/

section
variable {s : State} {kind : TriggerKind} {frame : Option Capture} {have_ : Option Nat} {i : Nat}

theorem deliverTrigger_off (h : s.control.mode ≠ .service ∨ triggerEnabled s.tables kind = false) :
    deliverTrigger s kind frame have_ = (s, .ignored, have_) := by
  refine if_neg fun hon => ?_
  rw [Bool.and_eq_true, decide_eq_true_iff] at hon
  rcases h with h | h
  · exact h hon.1
  · rw [h] at hon
    exact absurd hon.2 (by decide)

theorem deliverTrigger_joins (hmode : s.control.mode = .service) (hon : triggerEnabled s.tables kind = true)
    (hfound : fillingSlot s.recorder = some i) :
    deliverTrigger s kind frame have_ = joinIncident s i kind frame have_ := by
  unfold deliverTrigger
  rw [if_pos (by simp [hmode, hon]), hfound]

theorem deliverTrigger_opens (hmode : s.control.mode = .service) (hon : triggerEnabled s.tables kind = true)
    (hnone : fillingSlot s.recorder = none) :
    deliverTrigger s kind frame have_ = openIncident s kind frame have_ := by
  unfold deliverTrigger
  rw [if_pos (by simp [hmode, hon]), hnone]

theorem openIncident_free (hseq : s.recorder.nextSeq ≠ 0) (hfree : freeSlot s.recorder = some i) :
    openIncident s kind frame have_ =
      ((openIn s i kind frame have_).1, .opened i s.recorder.nextSeq, (openIn s i kind frame have_).2) := by
  refine (if_neg hseq).trans ?_
  rw [hfree]

theorem openIncident_overwrites (hseq : s.recorder.nextSeq ≠ 0) (hfull : freeSlot s.recorder = none)
    (hvictim : victimSlot s.recorder = some i) :
    openIncident s kind frame have_ =
      ((openIn (countOverwrite s) i kind frame have_).1,
        .overwritten i s.recorder.nextSeq ((getSlot s.recorder i).seq.getD 0),
        (openIn (countOverwrite s) i kind frame have_).2) := by
  refine (if_neg hseq).trans ?_
  rw [hfull, hvictim]

theorem openIncident_lost (h : s.recorder.nextSeq = 0 ∨ freeSlot s.recorder = none ∧ victimSlot s.recorder = none) :
    openIncident s kind frame have_ = (loseIncident s, .lost, have_) := by
  by_cases hseq : s.recorder.nextSeq = 0
  · exact if_pos hseq
  · obtain ⟨hfull, hvictim⟩ := h.resolve_left hseq
    refine (if_neg hseq).trans ?_
    rw [hfull, hvictim]

/-- The Recorder after an opening without a frame (R106, R107). -/
def openedRecorder (r : Recorder) (i : Nat) (k : Slot) : Recorder :=
  { r with slots := r.slots.set i k, nextSeq := if r.nextSeq = 4294967295 then 0 else r.nextSeq + 1 }

theorem openIn_plain (s : State) (i : Nat) (kind : TriggerKind) : openIn s i kind none none =
    ({ s with recorder := openedRecorder s.recorder i (openedSlot s kind) }, none) := rfl

end

/-- A slot that a taken trigger joins (R111). -/
def joinedSlot (k : Slot) (entry : TriggerEntry) (guarded : Bool) : Slot :=
  let joined : Slot := if k.triggers.length < 8 then { k with triggers := k.triggers ++ [entry] }
    else { k with dropped := min (k.dropped + 1) 255 }
  { joined with protected_ := k.protected_ || guarded }

theorem markData_appended (i seq : Nat) (full : Prop) [Decidable full] : markData (.appended i seq (decide full)) =
    [2, BitVec.ofNat 8 i] ++ be 4 seq ++ [if full then 0 else 1] := by
  by_cases h : full
  · rw [decide_eq_true h, if_pos h]
    rfl
  · rw [decide_eq_false h, if_neg h]
    rfl

theorem joinIncident_eq {s : State} {i : Nat} {frame : Option Capture} {have_ : Option Nat} {k : Slot}
    {pos : Option Nat} (h : captureFor (getSlot s.recorder i) frame have_ = (k, pos)) (kind : TriggerKind) :
    joinIncident s i kind frame have_ =
      ({ s with recorder := (setSlot s.recorder i
          (joinedSlot k ⟨kind, s.control.localMs, pos⟩ (triggerProtected s.tables kind))) },
        .appended i (k.seq.getD 0) (decide (k.triggers.length < 8)), pos) := by
  unfold joinIncident joinedSlot
  rw [h]
  dsimp only [Config.triggerCapacity]
  by_cases hfull : k.triggers.length < 8
  · simp only [hfull, decide_true, if_true]
  · simp only [hfull, decide_false, if_false, Bool.false_eq_true]
    rfl

/-! ## The slot to overwrite (R105, step 2) -/

theorem overwritable_iff (k : Slot) : overwritable k = true ↔
    (k.state = .sealed ∨ k.state = .read) ∧ k.protected_ = false := by
  simp [overwritable]

theorem overwritable_used {k : Slot} (h : overwritable k = true) : k.state ≠ .free := by
  intro hfree
  rw [overwritable_iff, hfree] at h
  exact absurd h.1 (by decide)

/-- Two slots in use carry different numbers (R106). -/
theorem seq_ne_of_usedNumbers {r : Recorder} (h : (usedNumbers r).Nodup) {i j : Nat} (hij : j < i)
    (hi : i < r.slots.length) (hused : r.slots[j].state ≠ .free) (hused' : r.slots[i].state ≠ .free) :
    r.slots[j].seq ≠ r.slots[i].seq := by
  unfold usedNumbers List.Nodup at h
  rw [List.pairwise_map, List.pairwise_filter, List.pairwise_iff_getElem] at h
  exact h j i (Nat.lt_trans hij hi) hi hij (decide_eq_true hused) (decide_eq_true hused')

theorem victimSlot_of {r : Recorder} {i : Nat} {k : Slot} (hnumbers : NumbersOk r) (h : r.slots[i]? = some k)
    (hopen : overwritable k = true) {q : Nat} (hq : k.seq = some q)
    (hleast : ∀ j ∈ r.slots, overwritable j = true → q ≤ j.seq.getD 0) : victimSlot r = some i := by
  obtain ⟨hi, hget⟩ := List.getElem?_eq_some_iff.mp h
  obtain ⟨hnodup, -, hpositive, -⟩ := hnumbers
  have hkq : k.seq.getD 0 = q := by rw [hq]; rfl
  have hleastq : oldestSeq r = some q := by
    unfold oldestSeq
    rw [List.min?_eq_some_iff]
    constructor
    · exact List.mem_map.mpr ⟨k, List.mem_filter.mpr ⟨List.mem_of_getElem? h, hopen⟩, hkq⟩
    · intro b hb
      obtain ⟨j, hj, rfl⟩ := List.mem_map.mp hb
      obtain ⟨hmem, hjopen⟩ := List.mem_filter.mp hj
      exact hleast j hmem hjopen
  unfold victimSlot
  rw [hleastq]
  refine List.findIdx?_eq_some_iff_getElem.mpr ⟨hi, by simp [hget, hopen, hkq], fun j hj hjq => ?_⟩
  rw [Bool.and_eq_true, decide_eq_true_iff] at hjq
  obtain ⟨hjopen, hjq⟩ := hjq
  have hjused := overwritable_used hjopen
  have hkused : r.slots[i].state ≠ .free := by rw [hget]; exact overwritable_used hopen
  obtain ⟨p, hp, hone, -⟩ := hpositive _ (List.getElem_mem (Nat.lt_trans hj hi)) hjused
  have hp' : r.slots[j].seq = some p := hp
  rw [hp'] at hjq
  refine seq_ne_of_usedNumbers hnodup hj hi hjused hkused ?_
  rw [hp', hget, hq]
  exact congrArg some hjq

theorem victimSlot_none_of {r : Recorder} (h : ∀ k ∈ r.slots, overwritable k ≠ true) : victimSlot r = none := by
  have hempty : r.slots.filter overwritable = [] := List.filter_eq_nil_iff.mpr h
  unfold victimSlot oldestSeq
  rw [hempty]
  rfl

/-! ## The flag of a lost or overwritten incident -/

/-- Another Recorder in both states leaves what the event did otherwise. -/
theorem Moves.withRecorder {must may : List Flag} {s t : State} (h : Moves must may s t) (r : Recorder) :
    Moves must may { s with recorder := r } { t with recorder := r } := by
  obtain ⟨hframe, hflags, hnotices, hsent, hdeferred, -⟩ := h
  refine ⟨?_, hflags, hnotices, hsent, hdeferred, fun _ => rfl⟩
  rw [hframe]
  rfl

theorem countOverwrite_opened (u : State) (i : Nat) (kind : TriggerKind) :
    let r := openedRecorder { u.recorder with overwrites := min (u.recorder.overwrites + 1) 65535 } i (openedSlot u kind)
    Moves [.incidentLost] [] { u with recorder := r } (openIn (countOverwrite u) i kind none none).1
    ∧ (openIn (countOverwrite u) i kind none none).1.recorder = r := by
  intro r
  have hframe : countOverwrite u = withNotices
      { u with recorder := { u.recorder with overwrites := bump16 u.recorder.overwrites } } (countOverwrite u) :=
    raise_frame _ _
  have hopened : openedSlot (countOverwrite u) kind = openedSlot u kind := by
    rw [hframe]
    rfl
  have hrecorder : openedRecorder (countOverwrite u).recorder i (openedSlot (countOverwrite u) kind) = r := by
    rw [hopened, hframe]
    rfl
  have hraised : Moves [.incidentLost] []
      { u with recorder := { u.recorder with overwrites := bump16 u.recorder.overwrites } } (countOverwrite u) :=
    raise_moves .incidentLost _
  rw [openIn_plain, hrecorder]
  exact ⟨hraised.withRecorder r, rfl⟩

section
variable {src tag : Byte} {s : State} (hr : Ready s) (hm : MayIssue s src .incidentMark [])
  (hmode : s.control.mode = .service) (hon : triggerEnabled s.tables .manual = true)
include hr hm hmode hon

/-- A taken INCIDENT_MARK that raises nothing. -/
theorem incidentMark_quiet {r : Recorder} {outcome : TriggerOutcome} {pos : Option Nat}
    (h : ∀ u : State, u.control = s.control → u.tables = s.tables → u.recorder = s.recorder →
      u.authority = s.authority → deliverTrigger u .manual none none = ({ u with recorder := r }, outcome, pos)) :
    exec (.incidentMark src tag) s = .next (answered { s with recorder := r }
      (responseFrame src tag .incidentMark .ok (markData outcome))) := by
  refine request_changed (x := { s with recorder := r }) hr hm rfl rfl ?_
  show ownIncidentMark _ = _
  unfold ownIncidentMark
  rw [h (underRequest s src _) rfl rfl rfl rfl]
  exact if_pos ⟨hmode, hon⟩

/-- A taken INCIDENT_MARK that raises INCIDENT_LOST. -/
theorem incidentMark_raises {r : Recorder} {outcome : TriggerOutcome}
    (h : ∀ u : State, u.control = s.control → u.tables = s.tables → u.recorder = s.recorder →
      u.authority = s.authority → (deliverTrigger u .manual none none).2.1 = outcome
        ∧ Moves [.incidentLost] [] { u with recorder := r } (deliverTrigger u .manual none none).1
        ∧ (deliverTrigger u .manual none none).1.recorder = r) :
    ∃ t, exec (.incidentMark src tag) s = .next t ∧ RaisedFrom [.incidentLost] [] (answered { s with recorder := r }
      (responseFrame src tag .incidentMark .ok (markData outcome))) t := by
  let u := underRequest s src (requestPayload tag .incidentMark [])
  obtain ⟨houtcome, hmoves, hrecorder⟩ := h u rfl rfl rfl rfl
  have hcarry : carryOut .incidentMark [] u = ((deliverTrigger u .manual none none).1, .answer .ok (markData outcome)) := by
    rw [← houtcome]
    exact if_pos ⟨hmode, hon⟩
  obtain ⟨t, ht, htriggered, htrecorder⟩ := request_moved (x := { s with recorder := r }) hr hm rfl rfl hcarry
    (by exact hmoves) (by exact deliverTrigger_kept u .manual none none)
  refine ⟨t, ht, htriggered.raisedFrom ?_⟩
  rw [htrecorder, hrecorder]
  unfold answered
  rw [enterResponse_eq]
  rfl

end

/-- Settles O45. -/
theorem incidentMarked : Obligations.IncidentMarked := by
  unfold Obligations.IncidentMarked
  intro src tag s hr hm hnumbers hone r mark_ enabled guarded entry pre opened following byte respond idle full open_
  have hopened : ∀ u : State, u.control = s.control → u.tables = s.tables → u.recorder = s.recorder →
      u.authority = s.authority → openedSlot u .manual = opened := by
    intro u hc ht hrec ha
    unfold openedSlot timeOfDayAt demandCapture
    rw [hc, ht, hrec, ha]
    rfl
  refine ⟨fun hoff => ?_, fun hmode hon => ⟨fun i k hslot hfilling => ?_, fun i k hidle hseq hslot hfree hfirst => ?_,
    fun i k hidle hfull hseq hslot hopen q hq hleast => ?_, fun hidle hlost => ?_⟩⟩
  · refine request_unchanged s src tag .incidentMark [] .notAllowed [] hr hm rfl ?_
    exact if_neg fun h => hoff.elim (fun hn => hn h.1) (fun hn => by
      have hyes : enabled = true := h.2
      rw [hn] at hyes
      exact absurd hyes (by decide))
  · intro joined
    have hfound := fillingSlot_of hslot hfilling hone
    have hget := getSlot_of_some hslot
    have hquiet := incidentMark_quiet (tag := tag) hr hm hmode hon
      (r := setSlot r i (joinedSlot k entry guarded))
      (outcome := .appended i (k.seq.getD 0) (decide (k.triggers.length < 8))) (pos := none) fun u hc ht hrec ha => by
        rw [deliverTrigger_joins (i := i) (by rw [hc]; exact hmode) (by rw [ht]; exact hon) (by rw [hrec]; exact hfound),
          joinIncident_eq (k := k) (pos := none) (by rw [hrec, hget]; rfl), hrec, hc, ht]
        rfl
    rw [markData_appended] at hquiet
    exact hquiet
  · have hquiet := incidentMark_quiet (tag := tag) hr hm hmode hon (r := openedRecorder r i opened)
      (outcome := .opened i r.nextSeq) (pos := none) fun u hc ht hrec ha => by
        rw [deliverTrigger_opens (by rw [hc]; exact hmode) (by rw [ht]; exact hon)
          (by rw [hrec]; exact fillingSlot_none_of hidle), openIncident_free (i := i) (by rw [hrec]; exact hseq)
          (by rw [hrec]; exact freeSlot_of hslot hfree hfirst), openIn_plain, hopened u hc ht hrec ha, hrec]
    exact hquiet
  · have hopen' : overwritable k = true := (overwritable_iff k).mpr hopen
    have hvictim : victimSlot r = some i := victimSlot_of hnumbers hslot hopen' hq
      fun j hj hjopen => hleast j hj ((overwritable_iff j).mp hjopen)
    have hold : (getSlot r i).seq.getD 0 = q := by
      rw [getSlot_of_some hslot, hq]
      rfl
    have hraises := incidentMark_raises (tag := tag) hr hm hmode hon
      (r := openedRecorder { r with overwrites := min (r.overwrites + 1) 65535 } i opened)
      (outcome := .overwritten i r.nextSeq q) fun u hc ht hrec ha => by
        rw [deliverTrigger_opens (by rw [hc]; exact hmode) (by rw [ht]; exact hon)
          (by rw [hrec]; exact fillingSlot_none_of hidle), openIncident_overwrites (i := i) (by rw [hrec]; exact hseq)
          (by rw [hrec]; exact freeSlot_none_of hfull) (by rw [hrec]; exact hvictim)]
        obtain ⟨hmoves, hrecorder⟩ := countOverwrite_opened u i .manual
        rw [hopened u hc ht hrec ha, hrec] at hmoves hrecorder
        exact ⟨by rw [hrec, hold], hmoves, hrecorder⟩
    exact hraises
  · have hraises := incidentMark_raises (tag := tag) hr hm hmode hon
      (r := { r with lostCount := min (r.lostCount + 1) 65535 }) (outcome := .lost) fun u hc ht hrec ha => by
        rw [deliverTrigger_opens (by rw [hc]; exact hmode) (by rw [ht]; exact hon)
          (by rw [hrec]; exact fillingSlot_none_of hidle), openIncident_lost (by
            rw [hrec]
            exact hlost.imp id fun ⟨hfull, hnone⟩ => ⟨freeSlot_none_of hfull,
              victimSlot_none_of fun k hk ho => hnone k hk ((overwritable_iff k).mp ho)⟩)]
        refine ⟨rfl, ?_, ?_⟩
        all_goals rw [show r = u.recorder from hrec.symm]
        · exact raise_moves .incidentLost _
        · exact raise_recorder _ _
    exact hraises

end Sys2Proof.Machine
end

section
/-! PROOF. Frame-match patterns: which frames match, and what an offered frame leaves in the Recorder (O44). -/

namespace Sys2Proof.Machine

/-! ## The test of a pattern (R116 to R118) -/

theorem maskPositions_zero (mask : Nat) : maskPositions mask 0 = (List.range 32).filter (fun j => mask.testBit j) := by
  unfold maskPositions
  simp

theorem portSelected_iff (selector : Nat) (port : Port) : portSelected selector port = true ↔
    selector = 2 ∨ selector = match port with
      | .c => 0
      | .e => 1 := by
  unfold portSelected
  rw [Bool.or_eq_true, decide_eq_true_iff, decide_eq_true_iff]
  cases port <;> exact .rfl

/-- The selected bytes are those at the positions, of a frame that holds them all. -/
theorem selectedBytes_of (bytes : List Byte) {positions : List Nat} (h : ∀ j ∈ positions, j < bytes.length) :
    selectedBytes bytes positions = some (positions.map (fun j => bytes.getD j 0)) := by
  unfold selectedBytes
  induction positions with
  | nil => rfl
  | cons j positions ih =>
    obtain ⟨hj, hrest⟩ := List.forall_mem_cons.mp h
    rw [List.mapM_cons, ih hrest, List.getElem?_eq_getElem hj, List.map_cons, List.getD_eq_getElem _ _ hj]
    rfl

theorem selectedBytes_short (bytes : List Byte) {positions : List Nat} (h : ¬ ∀ j ∈ positions, j < bytes.length) :
    selectedBytes bytes positions = none := by
  unfold selectedBytes
  induction positions with
  | nil => exact absurd (by simp) h
  | cons j positions ih =>
    rw [List.mapM_cons]
    by_cases hj : j < bytes.length
    · have hrest : ¬ ∀ j ∈ positions, j < bytes.length := fun hr => h (List.forall_mem_cons.mpr ⟨hj, hr⟩)
      rw [ih hrest, List.getElem?_eq_getElem hj]
      rfl
    · rw [List.getElem?_eq_none (Nat.le_of_not_lt hj)]
      rfl

theorem patternTest_iff (ts : Tables) (p : Nat) (positions : List Nat) (port : Port) (f : Frame) :
    patternTest ts p positions port f = true ↔
      tableField ts.patterns p 0 = 1
      ∧ (tableField ts.patterns p 1 = 2 ∨ tableField ts.patterns p 1 = match port with
        | .c => 0
        | .e => 1)
      ∧ tableField ts.patterns p 2 = f.cls.toNat
      ∧ (∀ j ∈ positions, j < (frameBytes f).length)
      ∧ (crc16 (positions.map (fun j => (frameBytes f).getD j 0))).toNat = tableField ts.patterns p 4 := by
  have hselected : (match selectedBytes (frameBytes f) positions with
      | none => false
      | some sel => decide ((crc16 sel).toNat = tableField ts.patterns p 4)) = true ↔
        (∀ j ∈ positions, j < (frameBytes f).length)
        ∧ (crc16 (positions.map (fun j => (frameBytes f).getD j 0))).toNat = tableField ts.patterns p 4 := by
    by_cases h : ∀ j ∈ positions, j < (frameBytes f).length
    · rw [selectedBytes_of _ h]
      exact decide_eq_true_iff.trans (and_iff_right h).symm
    · rw [selectedBytes_short _ h]
      simp only [Bool.false_eq_true, false_iff]
      exact fun hn => h hn.1
  unfold patternTest
  rewrite [Bool.and_eq_true, Bool.and_eq_true, Bool.and_eq_true, decide_eq_true_iff, decide_eq_true_iff,
    portSelected_iff, and_assoc, and_assoc, ← hselected]
  exact .rfl

/-! ## The offer of a frame (R115) -/

/-- The image of a captured frame, filled up with zeros (R114). -/
theorem captureOf_image (source : CaptureSource) (port : Port) (f : Frame) : captureOf source port f =
    { source := source
      port := port
      length := min f.payload.length 32
      truncated := decide (32 < f.payload.length)
      image := [f.dst, f.src, f.cls, f.seq, BitVec.ofNat 8 f.payload.length]
        ++ (f.payload ++ List.replicate 32 0).take 32 } := by
  have htake : (f.payload ++ List.replicate 32 (0 : Byte)).take 32 =
      f.payload.take 32 ++ List.replicate (32 - f.payload.length) 0 := by
    rw [List.take_append, List.take_replicate, Nat.min_eq_left (Nat.sub_le _ _)]
  unfold captureOf
  rw [htake, List.append_assoc]

/-- One matching pattern's turn. -/
def matchTurn (port : Port) (f : Frame) (x : State × Option Nat) (p : Fin 8) : State × Option Nat :=
  let after := deliverTrigger x.1 (.frameMatch p) (some (captureOf (.pattern p) port f)) x.2
  (after.1, after.2.2)

theorem matchTurn_tables (port : Port) (f : Frame) (x : State × Option Nat) (p : Fin 8) :
    (matchTurn port f x p).1.tables = x.1.tables :=
  (deliverTrigger_moves x.1 (.frameMatch p) _ x.2).tables

theorem foldl_offer (port : Port) (f : Frame) (ps : List (Fin 8)) (x : State × Option Nat) :
    ps.foldl (offerToPattern port f) x =
      (ps.filter (fun p => patternMatches x.1.tables p port f)).foldl (matchTurn port f) x := by
  induction ps generalizing x with
  | nil => rfl
  | cons p ps ih =>
    rw [List.foldl_cons, List.filter_cons]
    have hturn : offerToPattern port f x p = if patternMatches x.1.tables p port f then matchTurn port f x p else x := rfl
    rw [hturn]
    by_cases h : patternMatches x.1.tables p port f = true
    · rw [if_pos h, if_pos h, ih, matchTurn_tables, List.foldl_cons]
    · rw [if_neg h, if_neg h, ih]

/-! ## The capture of a matched frame (R114) -/

/-- The slot with the frame captured once, and where. -/
def capturedSlot (k : Slot) (c : Capture) (captured : Option Nat) : Slot × Option Nat :=
  if captured ≠ none then (k, captured)
  else if k.capture2 = none then ({ k with capture2 := some c }, some 2)
  else if k.capture3 = none then ({ k with capture3 := some c }, some 3)
  else if k.capture4 = none then ({ k with capture4 := some c }, some 4)
  else (k, none)

theorem captureFor_some (k : Slot) (c : Capture) (captured : Option Nat) :
    captureFor k (some c) captured = capturedSlot k c captured := by
  cases captured with
  | some pos => rfl
  | none =>
    unfold captureFor placeCapture capturedSlot
    simp only [Option.isNone_iff_eq_none, ne_eq, not_true_eq_false, if_false]

/-- Capturing a frame leaves the triggers and marks of the slot. -/
theorem joinedSlot_captured (k : Slot) (c : Capture) (captured : Option Nat) (entry : TriggerEntry) (guarded : Bool) :
    joinedSlot (capturedSlot k c captured).1 entry guarded =
      (let joined : Slot := if k.triggers.length < 8 then
          { (capturedSlot k c captured).1 with triggers := k.triggers ++ [entry] }
        else { (capturedSlot k c captured).1 with dropped := min (k.dropped + 1) 255 }
      { joined with protected_ := k.protected_ || guarded }) := by
  unfold joinedSlot capturedSlot
  split_ifs
  all_goals rfl

/-- Settles O44. -/
theorem patternMatchesFrame : Obligations.PatternMatchesFrame := by
  unfold Obligations.PatternMatchesFrame
  refine ⟨fun ts p port f => ?_, fun port f s => ?_, fun p c captured s hmode => ?_⟩
  · intro fld bytes low high matches_
    have hlow : maskPositions (fld p.val 3) 0 = low := maskPositions_zero _
    have hlong : longPairs ts = true ↔ tableField ts.recorder 4 0 = 1 := decide_eq_true_iff
    refine ⟨fun hsingle => ?_, fun hpairs heven => ?_, fun hpairs hodd => ?_⟩
    · unfold patternMatches
      rw [if_neg (mt hlong.mp hsingle)]
      show patternTest ts p.val (maskPositions (fld p.val 3) 0) port f = true ↔ _
      rw [hlow]
      exact patternTest_iff ts p.val low port f
    · unfold patternMatches
      rw [if_pos (hlong.mpr hpairs), decide_eq_true heven, Bool.true_and]
      show patternTest ts p.val (maskPositions (fld p.val 3) 0 ++ high) port f = true ↔ _
      rw [hlow]
      exact patternTest_iff ts p.val (low ++ high) port f
    · unfold patternMatches
      rw [if_pos (hlong.mpr hpairs), decide_eq_false (by omega), Bool.false_and]
  · intro image turn matching
    have hturn : turn = matchTurn port f := by
      funext x p
      unfold matchTurn
      rw [captureOf_image]
    refine ⟨fun hoff => ?_, fun hmode hloaded => ?_⟩
    · refine if_neg fun hon => ?_
      rw [Bool.and_eq_true, decide_eq_true_iff] at hon
      exact hoff.elim (fun h => h hon.1) (fun h => absurd hon.2 (by rw [h]; decide))
    · rw [hturn]
      refine (if_pos (by simp [hmode, hloaded])).trans ?_
      exact congrArg Prod.fst (foldl_offer port f patternNumbers (s, none))
  · intro r enabled guarded after
    refine ⟨fun hoff => ?_, fun i k hon hone hslot hfilling => ?_,
      fun i k hon hcaptured hidle hseq hslot hfree hfirst => ?_⟩
    · have hafter : after = (s, .ignored, captured) := deliverTrigger_off (.inr hoff)
      rw [hafter]
      exact ⟨rfl, rfl⟩
    · intro placed_ joined
      have hplaced : captureFor (getSlot s.recorder i) (some c) captured = (placed_.1, placed_.2) := by
        rw [getSlot_of_some hslot, captureFor_some]
        rfl
      have hafter : after = _ := (deliverTrigger_joins (kind := .frameMatch p) hmode hon (fillingSlot_of hslot hfilling hone)).trans
        (joinIncident_eq hplaced (.frameMatch p))
      rw [hafter]
      refine ⟨?_, rfl⟩
      show { s with recorder := setSlot s.recorder i (joinedSlot (capturedSlot k c captured).1 _ _) } = _
      rw [joinedSlot_captured]
      rfl
    · intro pre opened
      subst hcaptured
      have hafter : after = _ := (deliverTrigger_opens (kind := .frameMatch p) hmode hon (fillingSlot_none_of hidle)).trans
        (openIncident_free hseq (freeSlot_of hslot hfree hfirst))
      rw [hafter]
      exact ⟨rfl, rfl⟩

end Sys2Proof.Machine
end

section
/-! PROOF. Leaving SERVICE for MAINTENANCE (O51). -/

namespace Sys2Proof.Machine

/-! ## The setpoints at the E-port (R82, R83, R138, R139) -/

/-- The E-port after a setpoint was handed to it. -/
def setpointPort (own : Byte) (ps : PortState) (f : OriginatedFrame) : PortState :=
  match queueOriginated .e ps.originated f with
  | some q => settle own { ps with originated := q }
  | none => { ps with counters := { ps.counters with originatedDrop := bump ps.counters.originatedDrop } }

theorem handOver_e (s : State) (f : OriginatedFrame) :
    handOver s .e f = { s with link := { s.link with ePort := setpointPort s.link.own s.link.ePort f } } := by
  unfold handOver setpointPort
  rcases enterOriginated_cases s .e f with ⟨q, hq, h⟩ | ⟨hq, h⟩
  · have hq' : queueOriginated .e s.link.ePort.originated f = some q := hq
    rw [h, hq', opportunityIfIdle_settle]
    rfl
  · have hq' : queueOriginated .e s.link.ePort.originated f = none := hq
    rw [h, hq']
    rfl

/-- What a setpoint does to the link depends on nothing but the link. -/
theorem handOver_e_link {s t : State} (h : s.link = t.link) (f : OriginatedFrame) :
    (handOver s .e f).link = (handOver t .e f).link := by
  rw [handOver_e, handOver_e, h]

theorem sendSetpoint_some {s : State} {ts : Tables} {role : Role} {a : Byte} (hts : s.tables = ts)
    (h : roleAddress ts role = some a) (cls : Byte) (payload : List Byte) :
    sendSetpoint role cls payload s = handOver s .e ⟨a, cls, payload⟩ := by
  unfold sendSetpoint
  rw [hts, h]

theorem handOver_e_tables (s : State) (f : OriginatedFrame) : (handOver s .e f).tables = s.tables := by
  rw [handOver_e]

/-- The three setpoint frames, in their order. -/
theorem sendSetpoints_eq {s : State} {traction valve1 valve2 : Byte}
    (ht : roleAddress s.tables .traction = some traction) (h1 : roleAddress s.tables .valveT1 = some valve1)
    (h2 : roleAddress s.tables .valveT2 = some valve2) (emergency : Bool) : sendSetpoints emergency s =
      handOver (handOver (handOver s .e ⟨traction, 0x70, dbSetpointPayload (excitation s.brake) s.blend.e⟩)
        .e ⟨valve1, 0x74, bcSetpointPayload 1 s.blend.p1 emergency⟩)
        .e ⟨valve2, 0x74, bcSetpointPayload 2 s.blend.p2 emergency⟩ := by
  unfold sendSetpoints
  dsimp only
  rw [sendSetpoint_some rfl ht, sendSetpoint_some (handOver_e_tables _ _) h1,
    sendSetpoint_some ((handOver_e_tables _ _).trans (handOver_e_tables _ _)) h2]
  rfl

/-- Three setpoints move the E-port alone, and as they would in any state with the same link. -/
theorem threeSetpoints_eq {s t : State} (h : s.link = t.link) (f g k : OriginatedFrame) :
    handOver (handOver (handOver s .e f) .e g) .e k = { s with link := { s.link with
      ePort := (handOver (handOver (handOver t .e f) .e g) .e k).link.ePort } } := by
  simp only [handOver_e, h]

/-! ## The steps of R175 -/

/-- The engine's part: everything the exit does before a slot is sealed. -/
def leftEngine (s : State) (ePort : PortState) : State :=
  { s with
    control := { s.control with mode := .maintenance }
    brake := leftBrake s.brake
    blend := { s.blend with timer := .stopped, e := Six.all 0, p1 := bcMax s.tables, p2 := bcMax s.tables }
    link := { s.link with ePort := ePort } }

theorem leftBrake_quiet (b : Brake) : excitation (leftBrake b) = false := by
  unfold leftBrake
  split
  · rfl
  next h => exact Bool.eq_false_iff.mpr h

theorem leftBrake_eq (b : Brake) : leftBrake b =
    if b.state = .setup ∨ b.state = .active then broughtOut b .off b.cause else b := by
  unfold leftBrake excitation
  simp only [Bool.or_eq_true, decide_eq_true_eq]
  rfl

/-- The final setpoints after the channel was left (R58, R86). -/
theorem finalSetpoints_left {s t : State} (hlink : s.link = t.link) {traction valve1 valve2 : Byte}
    (ht : roleAddress s.tables .traction = some traction) (h1 : roleAddress s.tables .valveT1 = some valve1)
    (h2 : roleAddress s.tables .valveT2 = some valve2) :
    finalSetpoints (brakeLeaveService (setMode .maintenance s)) = leftEngine s
      (handOver (handOver (handOver t .e ⟨traction, 0x70, [0, 0, 0, 0, 0, 0, 0]⟩)
        .e ⟨valve1, 0x74, bcSetpointPayload 1 (bcMax s.tables) false⟩)
        .e ⟨valve2, 0x74, bcSetpointPayload 2 (bcMax s.tables) false⟩).link.ePort := by
  rw [brakeLeaveService_eq]
  unfold finalSetpoints
  rw [sendSetpoints_eq (by exact ht) (by exact h1) (by exact h2)]
  have hquiet : dbSetpointPayload (excitation (leftBrake s.brake)) (Six.all 0) = [0, 0, 0, 0, 0, 0, 0] := by
    rw [leftBrake_quiet]
    rfl
  have hthree := threeSetpoints_eq (s := leftEngine s s.link.ePort) (t := t) hlink
    ⟨traction, 0x70, dbSetpointPayload (excitation (leftBrake s.brake)) (Six.all 0)⟩
    ⟨valve1, 0x74, bcSetpointPayload 1 (bcMax s.tables) false⟩
    ⟨valve2, 0x74, bcSetpointPayload 2 (bcMax s.tables) false⟩
  rw [← hquiet]
  exact hthree

/-- A seal at the exit, then the pending switch, then CONFIG_CHANGED: what must rise, and from where. -/
theorem exit_quiet {u : State} (h : fillingSlot u.recorder = none) :
    raise .configChanged (clearPendingSwitch (sealOnExit u)) = raise .configChanged (clearPendingSwitch u) := by
  unfold sealOnExit
  rw [h]

theorem sealedRecorder_of_filling {r : Recorder} {i : Nat} (h : fillingSlot r = some i) : sealedRecorder r =
    setSlot r i { getSlot r i with state := .sealed, endCause := some .modeChange } := by
  unfold sealedRecorder
  rw [h]

theorem sealOnExit_of_filling {u : State} {i : Nat} (h : fillingSlot u.recorder = some i) :
    sealOnExit u = raise .incidentSealed { u with recorder := sealedRecorder u.recorder } := by
  unfold sealOnExit
  rw [h, sealedRecorder_of_filling h]
  rfl

theorem exit_seals_moves {u : State} {i : Nat} (h : fillingSlot u.recorder = some i) :
    Moves [.incidentSealed, .configChanged] [] (clearPendingSwitch { u with recorder := sealedRecorder u.recorder })
      (raise .configChanged (clearPendingSwitch (sealOnExit u))) := by
  have hclear : clearPendingSwitch (sealOnExit u) = { raise .incidentSealed { u with
      recorder := sealedRecorder u.recorder } with authority := { u.authority with pendingSwitch := none } } := by
    unfold clearPendingSwitch
    rw [sealOnExit_of_filling h, raise_frame]
    rfl
  rw [hclear]
  exact ((raise_moves .incidentSealed { u with recorder := sealedRecorder u.recorder }).withAuthority
    { u.authority with pendingSwitch := none }).trans (raise_moves .configChanged _)

theorem sealOnExit_kept (u : State) : Kept u (sealOnExit u) := by
  cases h : fillingSlot u.recorder with
  | none =>
    unfold sealOnExit
    rw [h]
    exact .refl u
  | some i =>
    rw [sealOnExit_of_filling h]
    exact (Kept.same (v := { u with recorder := sealedRecorder u.recorder }) rfl rfl).trans
      (raise_kept .incidentSealed _)

theorem exit_kept {u v : State} (hport : v.link.cPort = u.link.cPort) (hdeferred : v.deferred = u.deferred) :
    Kept u (raise .configChanged (clearPendingSwitch (sealOnExit v))) :=
  (Kept.same hport hdeferred).trans
    ((sealOnExit_kept v).trans ((Kept.same (v := clearPendingSwitch (sealOnExit v)) rfl rfl).trans
      (raise_kept .configChanged _)))

/-- The part after the exit, its Recorder given, before its flags rise. -/
def exited (s : State) (ePort : PortState) (r : Recorder) : State :=
  clearPendingSwitch { leftEngine s ePort with recorder := r }

theorem TriggeredFrom.raisedFrom_outside {must may : List Flag} {u t : State} (h : TriggeredFrom must may u t)
    (hm : u.control.mode ≠ .service) : RaisedFrom must may u t := by
  obtain ⟨-, -, -, -, -, hrecorder⟩ := id h
  exact h.raisedFrom (hrecorder hm)

theorem answered_mode (x : State) (f : OriginatedFrame) : (answered x f).control = x.control := by
  unfold answered
  rw [enterResponse_eq]
  rfl

/-- Settles O51. -/
theorem serviceLeftForMaintenance : Obligations.ServiceLeftForMaintenance := by
  unfold Obligations.ServiceLeftForMaintenance
  intro src tag s hr hm hmode hfree hlatch hitems traction valve1 valve2 ht h1 h2 top bc sent brake left respond
  let u := underRequest s src (requestPayload tag .modeSet [1])
  let engine := leftEngine u sent.link.ePort
  have hleft : ∀ slots, left slots = exited s sent.link.ePort { s.recorder with slots := slots } := by
    intro slots
    unfold exited clearPendingSwitch leftEngine
    rw [leftBrake_eq]
    rfl
  have hcarry : carryOut .modeSet [1] u =
      (raise .configChanged (clearPendingSwitch (sealOnExit engine)), .answer .ok [1]) := by
    have hleave : leaveService u = raise .configChanged (clearPendingSwitch (sealOnExit engine)) := by
      unfold leaveService
      rw [finalSetpoints_left (s := u) (t := s) rfl ht h1 h2]
      rfl
    refine (ownModeSet_maintenance (u := u) hfree).trans ?_
    rw [show u.control.mode = _ from hmode, ← hleave]
    exact (if_neg (Bool.eq_false_iff.mp hlatch)).trans (if_neg (not_not.mpr hitems))
  have hexit : ∀ (must : List Flag) (slots : List Slot),
      Moves must [] (underRequest (left slots) src (requestPayload tag .modeSet [1]))
        (raise .configChanged (clearPendingSwitch (sealOnExit engine))) →
      ∃ t, exec (.modeSet src tag 1) s = .next t ∧ RaisedFrom must [] (answered (left slots) respond) t := by
    intro must slots hmoves
    obtain ⟨t, hexec, hfrom, -⟩ := request_moved (x := left slots) hr hm rfl rfl hcarry hmoves (exit_kept rfl rfl)
    refine ⟨t, hexec, hfrom.raisedFrom_outside ?_⟩
    rw [answered_mode]
    simp [left]
  cases hf : fillingSlot s.recorder with
  | none =>
    have hnone := fillingSlot_none hf
    obtain ⟨t, hexec, hraised⟩ := hexit [.configChanged] s.recorder.slots (by
      rw [hleft, exit_quiet (u := engine) hf]
      exact raise_moves .configChanged _)
    exact ⟨t, hexec, fun _ => hraised, fun i k hi hk _ => absurd hk (hnone k (List.mem_of_getElem? hi))⟩
  | some j =>
    obtain ⟨t, hexec, hraised⟩ := hexit [.incidentSealed, .configChanged] (sealedRecorder s.recorder).slots (by
      rw [hleft]
      have hslots : ({ s.recorder with slots := (sealedRecorder s.recorder).slots } : Recorder) =
          sealedRecorder s.recorder := by
        rw [sealedRecorder_of_filling hf]
        rfl
      rw [hslots]
      exact exit_seals_moves (u := engine) hf)
    refine ⟨t, hexec, fun hnone => absurd (fillingSlot_none_of hnone) (by rw [hf]; simp), fun i k hi hk hone => ?_⟩
    obtain rfl : i = j := Option.some.inj ((fillingSlot_of hi hk hone).symm.trans hf)
    rw [sealedRecorder_of_filling hf, getSlot_of_some hi] at hraised
    exact hraised

end Sys2Proof.Machine
end

section
/-! PROOF. Validation as one list of checks, of which the first that fails is reported (R177). -/

namespace Sys2Proof.Machine

/-! ## Lists of checks -/

/-- What a check reports: nothing where it holds, else its entry and its name. -/
def reported (c : Bool × Option Nat × Check) : Option (Option Nat × Check) := if c.1 then none else some c.2

theorem firstFailure_eq (l : List (Bool × Option Nat × Check)) : firstFailure l = l.findSome? reported := by
  induction l with
  | nil => rfl
  | cons c l ih =>
    obtain ⟨ok, entry, check⟩ := c
    cases ok
    · rfl
    · exact ih

/-- The field checks of a table's entries, counted from `first`. -/
def rangeChecks (id : TableId) (first : Nat) (entries : List (List Nat)) : List (Bool × Option Nat × Check) :=
  (List.range entries.length).map (fun i =>
    (entryInRange id (first + i) (entries.getD i []), some (first + i), Check.fieldRange))

theorem rangeChecks_cons (id : TableId) (first : Nat) (x : List Nat) (xs : List (List Nat)) :
    rangeChecks id first (x :: xs) =
      (entryInRange id first x, some first, .fieldRange) :: rangeChecks id (first + 1) xs := by
  unfold rangeChecks
  rw [List.length_cons, List.range_succ_eq_map, List.map_cons, List.map_map]
  congr 1
  refine List.map_congr_left fun i _ => ?_
  simp only [Function.comp, Nat.succ_eq_add_one, List.getD_cons_succ, Nat.add_assoc, Nat.add_comm 1 i]

theorem rangeFailure_eq (id : TableId) (first : Nat) (entries : List (List Nat)) :
    (rangeFailure id first entries).map (fun i => (some i, Check.fieldRange)) =
      (rangeChecks id first entries).findSome? reported := by
  induction entries generalizing first with
  | nil => rfl
  | cons x xs ih =>
    rw [rangeChecks_cons, List.findSome?_cons]
    unfold rangeFailure
    cases hx : entryInRange id first x
    · rfl
    · exact ih (first + 1)

/-- All checks of one table, in order (R177). -/
def tableChecks (own : Byte) (ts : Tables) (id : TableId) : List (Bool × Option Nat × Check) :=
  ((getTable ts id).loaded, none, .notLoaded) :: rangeChecks id 0 (getTable ts id).entries ++ ownChecks own ts id

theorem tableFailure_eq (own : Byte) (ts : Tables) (id : TableId) :
    tableFailure own ts id = (tableChecks own ts id).findSome? reported := by
  unfold tableFailure tableChecks
  rw [List.cons_append, List.findSome?_cons, List.findSome?_append, ← rangeFailure_eq, ← firstFailure_eq]
  dsimp only
  cases (getTable ts id).loaded
  · rfl
  · cases rangeFailure id 0 (getTable ts id).entries <;> rfl

/-- A failure of a table, as validation reports it. -/
def failureOf (x : TableId × Bool × Option Nat × Check) : Option Failure :=
  if x.2.1 then none else some ⟨x.1, x.2.2.1, x.2.2.2⟩

theorem findSome?_failureOf (id : TableId) (checks : List (Bool × Option Nat × Check)) :
    (checks.map (fun c => (id, c))).findSome? failureOf =
      (checks.findSome? reported).map (fun f => ⟨id, f.1, f.2⟩) := by
  induction checks with
  | nil => rfl
  | cons c checks ih =>
    obtain ⟨ok, entry, check⟩ := c
    cases ok
    · rfl
    · exact ih

theorem walkTables_eq (own : Byte) (ts : Tables) (checks : TableId → List (Bool × Option Nat × Check))
    (h : ∀ id, (tableChecks own ts id).findSome? reported = (checks id).findSome? reported) (ids : List TableId) :
    walkTables own ts ids = (ids.flatMap (fun id => (checks id).map (fun c => (id, c)))).findSome? failureOf := by
  induction ids with
  | nil => rfl
  | cons id ids ih =>
    rw [walkTables, List.flatMap_cons, List.findSome?_append, findSome?_failureOf, ← h, ← ih, ← tableFailure_eq]
    cases tableFailure own ts id <;> rfl

/-! ## The checks of the NODES table -/

theorem roleOfCode_above {c : Nat} (h : 12 < c) : roleOfCode c = none := by
  obtain ⟨k, rfl⟩ : ∃ k, c = k + 13 := ⟨c - 13, by omega⟩
  rfl

/-- A role has one code, and the codes of the roles that may appear once are these. -/
theorem roleOfCode_some {c : Nat} {r : Role} (h : roleOfCode c = some r) :
    (∀ d, roleOfCode d = some r ↔ d = c) ∧ r.singleton = decide (c ∈ [1, 2, 3, 7, 8, 9, 10, 11]) := by
  have hc : c < 13 := by
    by_contra hc
    rw [roleOfCode_above (by omega)] at h
    cases h
  have hall : ∀ a < 13, ∀ r, roleOfCode a = some r →
      (∀ d < 13, roleOfCode d = some r ↔ d = a) ∧ r.singleton = decide (a ∈ [1, 2, 3, 7, 8, 9, 10, 11]) := by
    intro a ha r
    interval_cases a <;> cases r <;> decide
  refine ⟨fun d => ?_, (hall c hc r h).2⟩
  by_cases hd : d < 13
  · exact (hall c hc r h).1 d hd
  · rw [roleOfCode_above (by omega)]
    simp only [reduceCtorEq, false_iff]
    omega

theorem roleOfCode_none {c : Nat} (h : roleOfCode c = none) : c ∉ [1, 2, 3, 7, 8, 9, 10, 11] := by
  intro hc
  simp only [List.mem_cons, List.not_mem_nil, or_false] at hc
  rcases hc with rfl | rfl | rfl | rfl | rfl | rfl | rfl | rfl <;> cases h

/-- Is a role's code held by a used entry (R177)? -/
theorem roleHeld_eq {ts : Tables} {c : Nat} {r : Role} (h : roleOfCode c = some r) : roleHeld ts r =
    (List.range 32).any (fun i => decide (tableField ts.nodes i 0 = 1) && decide (tableField ts.nodes i 3 = c)) := by
  unfold roleHeld binding nodeUsed nodeRole
  simp only [(roleOfCode_some h).1]
  rw [Bool.eq_iff_iff, List.find?_isSome, List.any_eq_true]

/-- The check for a role that may appear once. -/
theorem duplicateRole_eq (ts : Tables) (i : Nat) (lower : List Nat) :
    (match nodeRole ts i with
      | some r => !(r.singleton && lower.any (fun j => decide (nodeRole ts j = some r)))
      | none => true) =
    (!decide (tableField ts.nodes i 3 ∈ [1, 2, 3, 7, 8, 9, 10, 11])
      || lower.all (fun j => decide (tableField ts.nodes j 3 ≠ tableField ts.nodes i 3))) := by
  cases hrole : nodeRole ts i with
  | none =>
    rw [decide_eq_false (roleOfCode_none hrole)]
    rfl
  | some r =>
    obtain ⟨hcode, honce⟩ := roleOfCode_some hrole
    unfold nodeRole
    simp only [hcode, honce, Bool.not_and, List.not_any_eq_all_not, decide_not]

theorem all_ne (f : Nat → Nat) (a : Nat) (l : List Nat) :
    l.all (fun j => decide (f j ≠ a)) = !l.any (fun j => decide (f j = a)) := by
  simp only [decide_not, List.not_any_eq_all_not]

/-- The three checks of one used NODES entry, against the used entries below it. -/
theorem nodeChecks_eq (own : Byte) (ts : Tables) (i : Nat) :
    let lower := (List.range i).filter (fun i => decide (tableField ts.nodes i 0 = 1))
    nodeChecks own ts i = if decide (tableField ts.nodes i 0 = 1) then
      [(decide (tableField ts.nodes i 1 ≠ own.toNat), some i, .ownAddress),
        (lower.all (fun j => decide (tableField ts.nodes j 1 ≠ tableField ts.nodes i 1)), some i, .duplicateAddress),
        (!decide (tableField ts.nodes i 3 ∈ [1, 2, 3, 7, 8, 9, 10, 11])
          || lower.all (fun j => decide (tableField ts.nodes j 3 ≠ tableField ts.nodes i 3)), some i, .duplicateRole)]
      else [] := by
  intro lower
  rewrite [← duplicateRole_eq, all_ne (tableField ts.nodes · 1)]
  rfl

/-- The check that the preferred source's role is held. -/
theorem preferredHeld_eq (ts : Tables) :
    (match preferred ts with
      | some k => roleHeld ts (sourceRole k)
      | none => false) =
    (decide (1 ≤ param ts.source 0 ∧ param ts.source 0 ≤ 3) &&
      (List.range 32).any (fun i => decide (tableField ts.nodes i 0 = 1)
        && decide (tableField ts.nodes i 3 = param ts.source 0))) := by
  unfold preferred
  generalize param ts.source 0 = c
  by_cases hc : 1 ≤ c ∧ c ≤ 3
  · rw [decide_eq_true hc, Bool.true_and]
    obtain ⟨hlow, hhigh⟩ := hc
    interval_cases c <;> exact roleHeld_eq rfl
  · rw [decide_eq_false hc, Bool.false_and]
    have hnone : sourceOfCode c = none := by
      unfold sourceOfCode
      split <;> simp_all
    rw [hnone]

/-! ## The checks of a curve -/

/-- The checks of one point of a curve; the first point has none before it. -/
def pointRow (xMax yMax n : Nat) (prev : Option Nat) (x y : Nat) : List (Bool × Option Nat × Check) :=
  (decide (x ≤ xMax ∧ y ≤ yMax), some n, Check.curveRange) :: match prev with
    | none => []
    | some p => [(decide (p < x), some n, Check.curveOrder)]

theorem pointChecks_cons (xMax yMax n : Nat) (prev : Option Nat) (x y : Nat) (rest : List (Nat × Nat)) :
    (pointChecks xMax yMax n prev ((x, y) :: rest)).findSome? reported =
      (pointRow xMax yMax n prev x y ++ pointChecks xMax yMax (n + 1) (some x) rest).findSome? reported := by
  unfold pointRow
  rw [Bool.decide_and]
  cases prev <;> rfl

theorem pointChecks_findSome (xMax yMax n : Nat) (prev : Option Nat) (points : List (List Nat)) :
    (pointChecks xMax yMax n prev (points.map (fun p => (p.getD 0 0, p.getD 1 0)))).findSome? reported =
      ((List.range points.length).flatMap (fun k =>
        pointRow xMax yMax (k + n) (if k = 0 then prev else some ((points.getD (k - 1) []).getD 0 0))
          ((points.getD k []).getD 0 0) ((points.getD k []).getD 1 0))).findSome? reported := by
  induction points generalizing n prev with
  | nil => rfl
  | cons p points ih =>
    rw [List.map_cons, pointChecks_cons, List.length_cons, List.range_succ_eq_map, List.flatMap_cons, List.flatMap_map,
      List.findSome?_append, List.findSome?_append, ih]
    congr 1
    · rw [Nat.zero_add]
      rfl
    · congr 1
      refine List.flatMap_congr fun k _ => ?_
      cases k with
      | zero => simp [Nat.add_comm 1 n]
      | succ k =>
        have hplace : k + 1 + (n + 1) = k + 1 + 1 + n := by omega
        simp [hplace]

/-- All checks of a curve's table (R177): the point count, then point by point. -/
theorem curveChecks_findSome (id : TableId) (t : Table) :
    (curveChecks id t).findSome? reported =
      ((decide (2 ≤ param t 0 ∧ param t 0 ≤ 16), some 0, Check.curvePoints)
        :: (List.range ((t.entries.drop 1).take (param t 0)).length).flatMap (fun k =>
          pointRow (curveLimits id).1 (curveLimits id).2 (k + 1)
            (if k = 0 then none else some ((((t.entries.drop 1).take (param t 0)).getD (k - 1) []).getD 0 0))
            ((((t.entries.drop 1).take (param t 0)).getD k []).getD 0 0)
            ((((t.entries.drop 1).take (param t 0)).getD k []).getD 1 0))).findSome? reported := by
  unfold curveChecks curvePoints
  rw [List.findSome?_cons, List.findSome?_cons, ← pointChecks_findSome, Bool.decide_and]
  rfl

end Sys2Proof.Machine
end

section
/-! PROOF. The completion of a validation (O52). -/

namespace Sys2Proof.Machine

/-! ## The response of a validation (R165) -/

/-- The buffer of the two: `true` is B. -/
def bufferAt (m : Management) (isB : Bool) : Buffer := if isB then m.bufB else m.bufA

/-- The Management Unit with one of its buffers replaced. -/
def withBuffer (m : Management) (isB : Bool) (b : Buffer) : Management :=
  if isB then { m with bufB := b } else { m with bufA := b }

theorem setBuffer_eq (s : State) (isB : Bool) (b : Buffer) :
    setBuffer s isB b = { s with management := withBuffer s.management isB b } := by
  cases isB <;> rfl

theorem inFlightBuffer_of {m : Management} {isB : Bool} (h : (bufferAt m isB).state = .inFlight)
    (hother : (bufferAt m !isB).state ≠ .inFlight) : inFlightBuffer m = some isB := by
  cases isB with
  | false => exact if_pos h
  | true => exact (if_neg hother).trans (if_pos h)

/-- What the answer to a validation leaves while its notices are kept back. -/
def validationAnswer (isB : Bool) (b : Buffer) (f : OriginatedFrame) (u : State) : State :=
  if u.link.cPort.originated.length < 8 then
    { enterResponse f u with management := withBuffer u.management isB Buffer.free }
  else { u with management := withBuffer u.management isB { b with state := .held, response := some f } }

theorem answerValidation_eq {u : State} {isB : Bool} (h : inFlightBuffer u.management = some isB) (r : ResultCode)
    (data : List Byte) : answerValidation r data u =
      validationAnswer isB (bufferAt u.management isB) (responseTo (bufferAt u.management isB) r data) u := by
  unfold answerValidation validationAnswer cRoom
  rw [h]
  simp only [setBuffer_eq, decide_eq_true_eq, enterResponse_eq]
  rfl

/-- A notice handed to a busy transmitter leaves the waiting frames, but for a NOTICE that it supersedes. -/
theorem handNotice_busy (s : State) (f : OriginatedFrame) (h : s.link.cPort.transmitter ≠ .idle) :
    (handNotice s f).link.cPort.transmitter ≠ .idle
      ∧ s.link.cPort.originated.length ≤ (handNotice s f).link.cPort.originated.length := by
  rw [handNotice_handOver, handOver_c]
  show (noticedPort s.link.own s.link.cPort f).transmitter ≠ .idle
    ∧ s.link.cPort.originated.length ≤ (noticedPort s.link.own s.link.cPort f).originated.length
  unfold noticedPort
  rcases queueOriginated_cases .c s.link.cPort.originated f with ⟨-, -, hq⟩ | ⟨-, hq⟩ | ⟨-, hq⟩
  all_goals rw [hq]
  · have hsettle := settle_busy s.link.own
      (ps := { s.link.cPort with originated := replaceFirst f s.link.cPort.originated }) h
    dsimp only at hsettle ⊢
    rw [hsettle]
    exact ⟨h, (replaceFirst_length _ _).ge⟩
  · have hsettle := settle_busy s.link.own
      (ps := { s.link.cPort with originated := s.link.cPort.originated ++ [f] }) h
    dsimp only at hsettle ⊢
    rw [hsettle]
    exact ⟨h, by simp⟩
  · exact ⟨h, le_refl _⟩

theorem handNotices_busy (held : List OriginatedFrame) {s : State} (h : s.link.cPort.transmitter ≠ .idle) :
    s.link.cPort.originated.length ≤ (handNotices held s).link.cPort.originated.length := by
  induction held generalizing s with
  | nil => exact le_refl _
  | cons f held ih =>
    obtain ⟨hbusy, hlength⟩ := handNotice_busy s f h
    exact hlength.trans (ih hbusy)

/-- The notices kept back, handed over where no response goes before them. -/
theorem flushNotices_kept {u v : State} (k : Kept u v) (hd : u.deferred = some []) (m : Management) : ∃ more,
    flushNotices { v with management := m } = handNotices more { v with management := m, deferred := none }
      ∧ v.link.cPort = u.link.cPort ∧ ∀ n ∈ more, n.cls = Config.clsNotice := by
  obtain ⟨hport, more, hv, hmore⟩ := k [] hd
  refine ⟨more, ?_, hport, hmore⟩
  unfold flushNotices
  dsimp only
  rw [hv]
  rfl

/-- What an event did while its notices were kept back, it did to the state before (R172). -/
theorem Moves.flushed {must may : List Flag} {u v : State} (h : Moves must may u v) (k : Kept u v)
    (hd : u.deferred = some []) (m : Management) : TriggeredFrom must may { u with management := m, deferred := none }
        (syncOutputs (flushNotices { v with management := m })) := by
  obtain ⟨more, hflush, hport, hmore⟩ := flushNotices_kept k hd m
  obtain ⟨hframe, hflags, -, -, -, hrecorder⟩ := h
  have hbase : ({ v with management := m, deferred := none } : State) = withTriggers
      { u with management := m, deferred := none } { v with management := m, deferred := none } := by
    rw [hframe]
    rfl
  have hnotices : handNotices more { v with management := m, deferred := none } = withNotices
      { v with management := m, deferred := none } (handNotices more { v with management := m, deferred := none }) :=
    handNotices_frame _ _
  rw [hflush]
  refine ⟨?_, ?_, ?_, rfl, fun _ => ?_, fun hmode => ?_⟩
  · exact syncOutputs_withTriggers (withTriggers_trans hbase (withTriggers_of_notices hnotices))
  · intro f
    have hsame : flagSet (syncOutputs (handNotices more { v with management := m, deferred := none })) f = flagSet v f :=
      flagSet_congr (handNotices_flags _ _) f
    rw [hsame]
    exact hflags f
  · have hmoved := handNotices_noticesOnly more { v with management := m, deferred := none } hmore
    exact hport ▸ hmoved
  · exact handNotices_between more rfl
  · show (handNotices more { v with management := m, deferred := none }).recorder = _
    rw [hnotices]
    exact hrecorder hmode

/-- Behind a frame that is being sent, the notices take no waiting frame out (R139). -/
theorem Kept.length_le {u v : State} (k : Kept u v) (hd : u.deferred = some []) (m : Management)
    (hbusy : u.link.cPort.transmitter ≠ .idle) :
    u.link.cPort.originated.length ≤ (flushNotices { v with management := m }).link.cPort.originated.length := by
  obtain ⟨more, hflush, hport, -⟩ := flushNotices_kept k hd m
  rw [hflush, ← hport]
  refine handNotices_busy more (s := { v with management := m, deferred := none }) ?_
  show v.link.cPort.transmitter ≠ .idle
  rw [hport]
  exact hbusy

/-! ## Entry to SERVICE (R136, R178) -/

theorem isSetpoint_iff (raw : List Byte) : isSetpoint raw = true ↔ raw.getD 2 0 = 0x70 ∨ raw.getD 2 0 = 0x74 := by
  unfold isSetpoint
  rw [Bool.or_eq_true, decide_eq_true_eq, decide_eq_true_eq]
  rfl

theorem notSetpoint_eq (raw : List Byte) :
    (!isSetpoint raw) = decide (¬ (raw.getD 2 0 = 0x70 ∨ raw.getD 2 0 = 0x74)) := by
  rw [decide_not, Bool.eq_iff_iff.mpr ((isSetpoint_iff raw).trans decide_eq_true_iff.symm)]

theorem sendingSetpoint_iff (ps : PortState) : sendingSetpoint ps = true ↔
    ∃ raw m, ps.transmitter = .sending false raw m ∧ isSetpoint raw = true := by
  unfold sendingSetpoint
  split
  next raw m h => simp [h]
  next h => simp [h]
  next h => simp [h]

/-- The frames that the entry to SERVICE takes out, counted at the C-port, while no counter saturates. -/
theorem purgeSetpoints_eq (s : State) (gone : Nat) (port : PortState)
    (hsending : sendingSetpoint s.link.ePort = true →
      gone = s.link.ePort.forward.length - (purgedPort s.link.ePort).forward.length + 1
        ∧ port = takeNext s.link.own 0 (purgedPort s.link.ePort))
    (hquiet : sendingSetpoint s.link.ePort = false →
      gone = s.link.ePort.forward.length - (purgedPort s.link.ePort).forward.length ∧ port = purgedPort s.link.ePort)
    (hbound : s.link.cPort.counters.notPassed + gone ≤ 4294967295) :
    purgeSetpoints s = { s with link := { s.link with
      ePort := port
      cPort := { s.link.cPort with counters := { s.link.cPort.counters with
        notPassed := s.link.cPort.counters.notPassed + gone } } } } := by
  have hqueue : ∀ m, bumpBy s.link.cPort.counters.notPassed
      (s.link.ePort.forward.length - (purgedPort s.link.ePort).forward.length) = m →
      purgeQueue s = { s with link := { s.link with
        ePort := purgedPort s.link.ePort
        cPort := { s.link.cPort with counters := { s.link.cPort.counters with notPassed := m } } } } := by
    rintro m rfl
    rfl
  unfold purgeSetpoints stopSetpoint
  cases h : sendingSetpoint s.link.ePort with
  | false =>
    obtain ⟨rfl, rfl⟩ := hquiet h
    rw [hqueue _ (Nat.min_eq_left hbound)]
    exact if_neg (Bool.eq_false_iff.mp h)
  | true =>
    obtain ⟨rfl, rfl⟩ := hsending h
    rw [hqueue _ (Nat.min_eq_left (by simp only [Config.maxU32]; omega))]
    refine (if_pos h).trans ?_
    have hbump : bump (s.link.cPort.counters.notPassed +
        (s.link.ePort.forward.length - (purgedPort s.link.ePort).forward.length)) = s.link.cPort.counters.notPassed +
          (s.link.ePort.forward.length - (purgedPort s.link.ePort).forward.length + 1) := Nat.min_eq_left (by
            simp only [Config.maxU32]
            omega)
    rw [← hbump]
    rfl

/-- The completion of a validation in flight, from the state its answer leaves. -/
theorem completeValidation_eq {s v : State} {n : Nat} {isB : Bool} {r : ResultCode} {data : List Byte}
    (hv : s.control.validation = some n) (hb : (bufferAt s.management isB).state = .inFlight)
    (hother : (bufferAt s.management !isB).state ≠ .inFlight)
    (hconcluded : concludeValidation { s with control := { s.control with validation := none }, deferred := some [] } =
      (v, r, data))
    (hm : v.management = s.management) : completeValidation s = serveHeldRequests (flushNotices
      (validationAnswer isB (bufferAt s.management isB) (responseTo (bufferAt s.management isB) r data) v)) := by
  unfold completeValidation
  rw [hv]
  dsimp only
  rw [hconcluded]
  dsimp only
  rw [answerValidation_eq (by rw [hm]; exact inFlightBuffer_of hb hother), hm]

/-- The answer where no notice was kept back. -/
theorem flush_validationAnswer (isB : Bool) (b : Buffer) (f : OriginatedFrame) (u : State) :
    flushNotices (validationAnswer isB b f { u with deferred := some [] }) =
      if u.link.cPort.originated.length < 8 then
        { enterResponse f u with management := withBuffer u.management isB Buffer.free, deferred := none }
      else { u with
        management := withBuffer u.management isB { b with state := .held, response := some f }, deferred := none } := by
  unfold validationAnswer
  split
  · rw [enterResponse_eq, enterResponse_eq]
    rfl
  · rfl

/-- Beside a FREE buffer nothing is served after the answer. -/
theorem serve_answered {u : State} {isB : Bool} {m : Management} (h : u.management = withBuffer m isB Buffer.free)
    (hother : (bufferAt m !isB).state = .free) : serveHeldRequests u = u := by
  refine serve_none ?_ 2
  rw [h]
  cases isB
  · have hb : m.bufB.state = .free := hother
    simp [oldestAwaiting, awaits, withBuffer, hb, Buffer.free]
  · have ha : m.bufA.state = .free := hother
    simp [oldestAwaiting, awaits, withBuffer, ha, Buffer.free]

/-- The answer to a validation that succeeded, with the notice of CONFIG_CHANGED behind it (R172, R178). -/
theorem validationAnswer_raised (base : State) (isB : Bool) (b : Buffer) (f : OriginatedFrame)
    (hother : base.link.cPort.originated.length < 8 → (bufferAt base.management !isB).state = .free)
    (hidle : base.link.cPort.transmitter = .idle → base.link.cPort.originated = []) :
    RaisedFrom [.configChanged] []
      (if base.link.cPort.originated.length < 8 then
        { enterResponse f base with management := withBuffer base.management isB Buffer.free, deferred := none }
      else { base with
        management := withBuffer base.management isB { b with state := .held, response := some f }, deferred := none })
      (syncOutputs (serveHeldRequests (flushNotices
        (validationAnswer isB b f (raise .configChanged { base with deferred := some [] }))))) := by
  let w : State := { base with deferred := some [] }
  have hmoves : Moves [.configChanged] [] w (raise .configChanged w) := raise_moves .configChanged w
  have hkept : Kept w (raise .configChanged w) := raise_kept .configChanged w
  have hport : (raise .configChanged w).link.cPort = base.link.cPort := (hkept [] rfl).1
  have hframe : raise .configChanged w = withNotices w (raise .configChanged w) := raise_frame _ _
  have hmanagement : (raise .configChanged w).management = base.management := by
    rw [hframe]
    rfl
  have hrecorder : (raise .configChanged w).recorder = base.recorder := by
    rw [hframe]
    rfl
  unfold validationAnswer
  rw [hport, hmanagement]
  by_cases hroom : base.link.cPort.originated.length < 8
  · rw [if_pos hroom, if_pos hroom]
    let m := withBuffer base.management isB Buffer.free
    have hfrom := hmoves.answered hkept rfl m f
    have hflushed : ∀ x : State, (flushNotices x).management = x.management := by
      intro x
      rw [flushNotices_frame]
      rfl
    rw [serve_answered (hflushed _) (hother hroom)]
    have hbase : withAnswer m f w = { enterResponse f base with management := m, deferred := none } := by
      unfold withAnswer
      rw [enterResponse_eq, enterResponse_eq]
    rw [← hbase]
    refine hfrom.raisedFrom ?_
    show (flushNotices _).recorder = (withAnswer m f w).recorder
    rw [flushNotices_frame, hbase, enterResponse_eq, enterResponse_eq]
    exact hrecorder
  · rw [if_neg hroom, if_neg hroom]
    have hbusy : w.link.cPort.transmitter ≠ .idle := fun h => hroom (by rw [hidle h]; decide)
    let m := withBuffer base.management isB { b with state := .held, response := some f }
    have hfrom := hmoves.flushed hkept rfl m
    have hlength := hkept.length_le rfl m hbusy
    rw [show serveHeldRequests _ = _ from serve_stays ((Nat.le_of_not_lt hroom).trans hlength)]
    refine hfrom.raisedFrom ?_
    show (flushNotices _).recorder = base.recorder
    rw [flushNotices_frame]
    exact hrecorder

/-- Settles O52. -/
theorem validationCompletes : Obligations.ValidationCompletes := by
  unfold Obligations.ValidationCompletes
  refine ⟨?_, ?_, ?_⟩
  · intro s hr hv
    refine (event_live s completeValidation hr).trans ?_
    unfold completeValidation
    rw [hv]
  · intro s n isB hr hv b other room hb hother hidle replaced frame ended
    have hbuffer : bufferAt s.management isB = b := by cases isB <;> rfl
    have hbufferOther : bufferAt s.management (!isB) = other := by cases isB <;> rfl
    have hnotFlying : (bufferAt s.management !isB).state ≠ .inFlight := by
      rw [hbufferOther]
      rcases hother with h | ⟨h, -⟩ <;> rw [h] <;> simp
    have hexec : exec .validationComplete s = .next (syncOutputs (completeValidation s)) := event_live s _ hr
    refine ⟨fun x hx => ?_, fun hvalid => ?_⟩
    · have hended : completeValidation s = serveHeldRequests (ended
          { s with control := { s.control with validation := none } }
          (responseTo b .tableInvalid (failureData x))) := by
        rw [completeValidation_eq (v := { s with control := { s.control with validation := none }, deferred := some [] })
          (r := .tableInvalid) (data := failureData x) hv (hbuffer ▸ hb) hnotFlying
          (by unfold concludeValidation; rw [show validate s.link.own s.tables = _ from hx]) rfl, hbuffer]
        exact congrArg serveHeldRequests (flush_validationAnswer isB b _
          { s with control := { s.control with validation := none } })
      refine hexec.trans (congrArg (fun u => Host.Outcome.next (syncOutputs u)) (hended.trans ?_))
      by_cases hroom : room
      · have hfree : other.state = .free := hother.resolve_right fun h => h.2 hroom
        refine serve_answered (isB := isB) (m := s.management) ?_ ((congrArg Buffer.state hbufferOther).trans hfree)
        exact congrArg State.management (if_pos hroom)
      · refine serve_stays ?_
        rw [show ended _ _ = _ from if_neg hroom]
        exact Nat.le_of_not_lt hroom
    · intro setpoint e kept sending removed
      refine ⟨_, hexec, ?_⟩
      intro gone port hstops hstays hbound c
      have hsending : sendingSetpoint e = true ↔ sending := by
        rw [sendingSetpoint_iff]
        simp only [isSetpoint_iff]
        rfl
      have hkept : purgedPort e = { e with forward := kept } := by
        unfold purgedPort
        have hfilter : e.forward.filter (fun raw => !isSetpoint raw) = kept :=
          List.filter_congr fun raw _ => notSetpoint_eq raw
        rw [hfilter]
      have hstops' : sendingSetpoint e = true → gone = e.forward.length - (purgedPort e).forward.length + 1
          ∧ port = takeNext s.link.own 0 (purgedPort e) := by
        rw [hkept]
        exact fun h => hstops (hsending.mp h)
      have hstays' : sendingSetpoint e = false → gone = e.forward.length - (purgedPort e).forward.length
          ∧ port = purgedPort e := by
        rw [hkept]
        exact fun h => hstays fun hs => Bool.eq_false_iff.mp h (hsending.mpr hs)
      let base : State := { s with
        control := { s.control with mode := .service, validation := none }
        blend := { s.blend with timer := .running 0, divider := 0 }
        recorder := { s.recorder with ring := [], divider := 0 }
        link := { s.link with
          ePort := port
          cPort := { c with counters := { c.counters with notPassed := c.counters.notPassed + gone } } } }
      let w : State := { base with deferred := some [] }
      have henter : enterService { s with control := { s.control with validation := none }, deferred := some [] } =
          raise .configChanged w := by
        exact congrArg (raise .configChanged) (purgeSetpoints_eq (clearRing (startBlend (setMode .service
          { s with control := { s.control with validation := none }, deferred := some [] })))
            gone port hstops' hstays' hbound)
      have hcomplete : completeValidation s = serveHeldRequests (flushNotices
          (validationAnswer isB b (responseTo b .ok [2]) (raise .configChanged w))) := by
        rw [completeValidation_eq (v := raise .configChanged w) (r := .ok) (data := [2]) hv (hbuffer ▸ hb) hnotFlying ?_ ?_,
          hbuffer]
        · unfold concludeValidation
          rw [show validate s.link.own s.tables = _ from hvalid, ← henter]
          rfl
        · rw [raise_frame]
          rfl
      rw [hcomplete]
      exact validationAnswer_raised base isB b _ (fun hroom =>
        (congrArg Buffer.state hbufferOther).trans (hother.resolve_right fun h => h.2 hroom)) hidle
  · intro own ts fld used lower held once curve ownChecks_ checks
    have hcurve : ∀ (id : TableId) (t : Table), (curveChecks id t).findSome? reported =
        (curve t (curveLimits id).1 (curveLimits id).2).findSome? reported := by
      intro id t
      rw [curveChecks_findSome]
      refine congrArg (fun l => List.findSome? reported ((_, _, _) :: l)) (List.flatMap_congr fun k _ => ?_)
      cases k <;> rfl
    have hown : ∀ id, (ownChecks own ts id).findSome? reported = (ownChecks_ id).findSome? reported := by
      intro id
      cases id with
      | nodes =>
        refine congrArg (List.findSome? reported) ?_
        refine congrArg₂ (· ++ ·) (List.flatMap_congr fun i _ => nodeChecks_eq own ts i) ?_
        exact congrArg (fun ok => [(ok, none, Check.requiredRole)]) (by
          rw [roleHeld_eq (c := 7) rfl, roleHeld_eq (c := 8) rfl, roleHeld_eq (c := 9) rfl, roleHeld_eq (c := 10) rfl])
      | auto => exact hcurve .auto ts.auto
      | dbCurve => exact hcurve .dbCurve ts.dbCurve
      | adhPlain => exact hcurve .adhPlain ts.adhPlain
      | adhSanded => exact hcurve .adhSanded ts.adhSanded
      | source => exact congrArg (fun ok => List.findSome? reported [(ok, some 0, Check.roleAbsent)]) (preferredHeld_eq ts)
      | recorder =>
        exact congrArg (fun ok => List.findSome? reported [(ok, some 0, Check.preRange)]) (Bool.decide_and _ _).symm
      | _ => rfl
    refine walkTables_eq own ts checks (fun id => ?_) tableIds
    have hrange : rangeChecks id 0 (getTable ts id).entries = (List.range (getTable ts id).entries.length).map (fun i =>
        (entryInRange id i ((getTable ts id).entries.getD i []), some i, Check.fieldRange)) := by
      unfold rangeChecks
      simp only [Nat.zero_add]
    unfold tableChecks
    rw [hrange, List.findSome?_append, hown, ← List.findSome?_append]

end Sys2Proof.Machine
end

section
/-! PROOF. RESTART (O54): every block in its restart state, and the lines read while the notices wait for the response. -/

namespace Sys2Proof.Machine

/-! ## What reading one line leaves, before its flags rise (R157, R147 to R149) -/

section
variable (ts : Tables) (n : Fin 6) (pin : Bool)

/-- The level a pin reads as. -/
def readsActive : Bool := if lineActiveLow ts n then !pin else pin

/-- A line that reads ACTIVE is accepted at once with debounce 0. -/
def readsAccepted : Bool := readsActive ts n pin && decide (lineDebounce ts n = 0)

/-- An accepted line sets its edge flag where its mode has a rise. -/
def readsEdge : Bool := readsAccepted ts n pin && edgeMatches ts n true

/-- The record of a line that was read. -/
def readRecord : InputRecord :=
  ⟨pin, readsActive ts n pin, readsAccepted ts n pin,
    if readsActive ts n pin && !readsAccepted ts n pin then .running 0 else .stopped, readsEdge ts n pin⟩

/-- The flags that the reading of a line raises. -/
def readFlags : List Flag :=
  (if readsEdge ts n pin then [.discreteEdge] else [])
    ++ (if n = 0 ∧ readsAccepted ts n pin = true then [.emergency] else [])
    ++ (if n = 1 ∧ readsAccepted ts n pin = true then [.penalty] else [])

end

/-- A line read after a reset: its record, and its consumer (R17, R19, R57), before any flag. -/
def lineRead (s : State) (n : Fin 6) : State :=
  let pin := (s.lines.inputs.get n).pin
  let accepted := readsAccepted s.tables n pin
  { s with
    authority :=
      if n = 0 ∧ accepted = true then { s.authority with latch := true, resetTimer := .stopped } else s.authority
    brake := if n = 2 ∧ accepted = true then
        (if s.brake.state = .cutout then s.brake else { quiesce s.brake with state := .cutout, cause := none })
      else s.brake
    lines := { s.lines with inputs := s.lines.inputs.set n (readRecord s.tables n pin) } }

/-- Another authority, channel and input records in both states leave what the event did otherwise. -/
theorem Moves.withLines {must may : List Flag} {s t : State} (h : Moves must may s t) (a : Authority) (b : Brake)
    (i : Six InputRecord) : Moves must may
      { s with authority := a, brake := b, lines := { s.lines with inputs := i } }
      { t with authority := a, brake := b, lines := { t.lines with inputs := i } } := by
  obtain ⟨hframe, hflags, hnotices, hsent, hdeferred, hrecorder⟩ := h
  refine ⟨?_, hflags, hnotices, hsent, hdeferred, hrecorder⟩
  rw [hframe]
  rfl

theorem Moves.withBrake {must may : List Flag} {s t : State} (h : Moves must may s t) (b : Brake) :
    Moves must may { s with brake := b } { t with brake := b } := by
  obtain ⟨hframe, hflags, hnotices, hsent, hdeferred, hrecorder⟩ := h
  refine ⟨?_, hflags, hnotices, hsent, hdeferred, hrecorder⟩
  rw [hframe]
  rfl

theorem Moves.lineRead {must may : List Flag} {s t : State} (h : Moves must may s t) (n : Fin 6) :
    Moves must may (lineRead s n) (lineRead t n) := by
  have hsame : t.authority = s.authority ∧ t.brake = s.brake ∧ t.lines.inputs = s.lines.inputs ∧ t.tables = s.tables := by
    rw [h.frame]
    exact ⟨rfl, rfl, rfl, rfl⟩
  obtain ⟨hauthority, hbrake, hinputs, htables⟩ := hsame
  have hread := h.withLines (Machine.lineRead s n).authority (Machine.lineRead s n).brake (Machine.lineRead s n).lines.inputs
  have ht : Machine.lineRead t n = { t with
      authority := (Machine.lineRead s n).authority
      brake := (Machine.lineRead s n).brake
      lines := { t.lines with inputs := (Machine.lineRead s n).lines.inputs } } := by
    unfold Machine.lineRead
    rw [hauthority, hbrake, hinputs, htables]
  rw [ht]
  exact hread

theorem Moves.linesRead {must may : List Flag} (l : List (Fin 6)) {s t : State} (h : Moves must may s t) :
    Moves must may (l.foldl Machine.lineRead s) (l.foldl Machine.lineRead t) := by
  induction l generalizing s t with
  | nil => exact h
  | cons n l ih => exact ih (h.lineRead n)

/-! ## Reading one line outside SERVICE -/

theorem readFlags_unaccepted {ts : Tables} {n : Fin 6} {pin : Bool} (h : readsAccepted ts n pin = false) :
    readFlags ts n pin = [] := by
  simp [readFlags, readsEdge, h]

section
variable {s : State} {n : Fin 6} {pin : Bool} (hline : s.lines.inputs.get n = unreadLine pin)
include hline

theorem lineRead_unaccepted (h : readsAccepted s.tables n pin = false) :
    lineRead s n = setInput s n (readRecord s.tables n pin) := by
  unfold lineRead
  simp only [hline, unreadLine, h, Bool.false_eq_true, and_false, if_false]
  rfl

/-- A line that reads INACTIVE gives nothing. -/
theorem readLine_reads_inactive (h : readsActive s.tables n pin = false) : readLine s n = lineRead s n := by
  have haccepted : readsAccepted s.tables n pin = false := by simp [readsAccepted, h]
  rw [readLine_inactive hline h, lineRead_unaccepted hline haccepted]
  simp [readRecord, readsEdge, haccepted, h, unreadLine]

/-- A line that reads ACTIVE and is debounced starts its timer. -/
theorem readLine_reads_debounced (h : readsActive s.tables n pin = true) (hd : lineDebounce s.tables n ≠ 0) :
    readLine s n = lineRead s n := by
  have haccepted : readsAccepted s.tables n pin = false := by simp [readsAccepted, hd]
  rw [readLine_debounced hline h hd, lineRead_unaccepted hline haccepted]
  simp [readRecord, readsEdge, haccepted, h]

/-- A line that is accepted at once, with its edge, before its consumer acts. -/
theorem readLine_reads_accepted (h : readsAccepted s.tables n pin = true) (hmode : s.control.mode ≠ .service) :
    ∃ u, readLine s n = deliverLine n true u
      ∧ Moves (if readsEdge s.tables n pin then [.discreteEdge] else []) []
        (setInput s n (readRecord s.tables n pin)) u := by
  obtain ⟨hactive, hd⟩ : readsActive s.tables n pin = true ∧ lineDebounce s.tables n = 0 := by
    simpa [readsAccepted] using h
  have hrecord : readRecord s.tables n pin = ⟨pin, true, true, .stopped, edgeMatches s.tables n true⟩ := by
    simp [readRecord, readsEdge, h, hactive]
  have hedge : readsEdge s.tables n pin = edgeMatches s.tables n true := by simp [readsEdge, h]
  refine ⟨_, readLine_accepted hline hactive hd, ?_⟩
  rw [hrecord, hedge]
  cases edgeMatches s.tables n true
  · exact Moves.refl _
  · rw [if_pos rfl, if_pos rfl]
    unfold edgeResults
    rw [trigger_ignored _ _ (by rw [raise_control]; exact hmode)]
    simp only [setInput_setInput]
    have hmoves := raise_moves .discreteEdge (setInput s n ⟨pin, true, true, .stopped, true⟩)
    simpa using hmoves

end

/-- EMERG accepted ACTIVE outside SERVICE: the latch and its flag. -/
theorem deliverEmerg_outside {u : State} (haccepted : emergActive u = true) (hlatch : u.authority.latch = false)
    (hmode : u.control.mode ≠ .service) : deliverLine 0 true u = raise .emergency (latched u) := by
  have hpresent : emergencyCondition (raise .emergency (latched u)) = true := by
    refine emergencyCondition_of_active ?_
    unfold emergActive
    rw [raise_frame]
    exact haccepted
  show evalEmergency (setLatch u) = _
  rw [setLatch_of_clear hlatch, trigger_ignored _ _ (by rw [raise_control]; exact hmode),
    evalEmergency_stopped (.inr hpresent)]
  rw [raise_frame]
  rfl

/-- What the reading of a line after a reset does outside SERVICE. -/
theorem readLine_moves {s : State} {n : Fin 6} {pin : Bool} (hline : s.lines.inputs.get n = unreadLine pin)
    (hmode : s.control.mode ≠ .service) (hlatch : n = 0 → s.authority.latch = false) :
    Moves (readFlags s.tables n pin) [] (lineRead s n) (readLine s n) := by
  by_cases haccepted : readsAccepted s.tables n pin = true
  · obtain ⟨u, hread, hmoves⟩ := readLine_reads_accepted hline haccepted hmode
    have hsame : u.authority = s.authority ∧ u.brake = s.brake ∧ u.control = s.control
        ∧ u.lines.inputs = s.lines.inputs.set n (readRecord s.tables n pin) := by
      rw [hmoves.frame]
      exact ⟨rfl, rfl, rfl, rfl⟩
    obtain ⟨hauthority, hbrake, hcontrol, hinputs⟩ := hsame
    rw [hread]
    have hpin : (s.lines.inputs.get n).pin = pin := by rw [hline]; rfl
    have hplain : n ≠ 0 → n ≠ 2 → lineRead s n = setInput s n (readRecord s.tables n pin) := by
      intro h0 h2
      unfold lineRead
      dsimp only
      rw [if_neg fun h => h0 h.1, if_neg fun h => h2 h.1, hpin]
      rfl
    by_cases h0 : n = 0
    · subst h0
      have hcalls : emergActive u = true := by
        unfold emergActive
        rw [hinputs]
        simpa [readRecord] using haccepted
      have htarget : lineRead s 0 = latched (setInput s 0 (readRecord s.tables 0 pin)) := by
        unfold lineRead
        dsimp only
        rw [hpin, if_pos ⟨rfl, haccepted⟩, if_neg fun h => absurd h.1 (by decide)]
        rfl
      have hflags : readFlags s.tables 0 pin =
          (if readsEdge s.tables 0 pin then [.discreteEdge] else []) ++ [.emergency] := by
        simp [readFlags, haccepted]
      rw [deliverEmerg_outside hcalls (by rw [hauthority]; exact hlatch rfl) (by rw [hcontrol]; exact hmode), htarget,
        hflags]
      have hlatched := hmoves.withAuthority { s.authority with latch := true, resetTimer := .stopped }
      unfold latched
      rw [hauthority]
      exact hlatched.trans (raise_moves .emergency _)
    · by_cases h2 : n = 2
      · subst h2
        have hcutout : deliverLine 2 true u = { u with brake :=
            if s.brake.state = .cutout then s.brake else { quiesce s.brake with state := .cutout, cause := none } } := by
          show enterCutout u = _
          unfold enterCutout
          rw [hbrake]
          split
          · rw [← hbrake]
          · rfl
        have htarget : lineRead s 2 = { setInput s 2 (readRecord s.tables 2 pin) with brake :=
            if s.brake.state = .cutout then s.brake else { quiesce s.brake with state := .cutout, cause := none } } := by
          unfold lineRead
          dsimp only
          rw [hpin, if_neg fun h => absurd h.1 (by decide), if_pos ⟨rfl, haccepted⟩]
          rfl
        have hflags : readFlags s.tables 2 pin = if readsEdge s.tables 2 pin then [.discreteEdge] else [] := by
          simp [readFlags]
        rw [hcutout, htarget, hflags]
        exact hmoves.withBrake _
      · rw [hplain h0 h2]
        by_cases h1 : n = 1
        · subst h1
          have hflags : readFlags s.tables 1 pin =
              (if readsEdge s.tables 1 pin then [.discreteEdge] else []) ++ [.penalty] := by
            simp [readFlags, haccepted]
          rw [hflags]
          exact hmoves.trans (raise_moves .penalty u)
        · have hconsumer : deliverLine n true u = u := deliverLine_plain (by omega) true u
          have hflags : readFlags s.tables n pin = if readsEdge s.tables n pin then [.discreteEdge] else [] := by
            simp [readFlags, h0, h1]
          rw [hconsumer, hflags]
          exact hmoves
  · rw [Bool.not_eq_true] at haccepted
    rw [readFlags_unaccepted haccepted]
    have hread : readLine s n = lineRead s n := by
      by_cases hactive : readsActive s.tables n pin = true
      · exact readLine_reads_debounced hline hactive fun hd => by simp [readsAccepted, hactive, hd] at haccepted
      · exact readLine_reads_inactive hline (by simpa using hactive)
    rw [hread]
    exact .refl _

/-! ## Notices kept back while lines are accepted -/

theorem evalEmergency_kept (u : State) : Kept u (evalEmergency u) := by
  obtain ⟨timer, hframe⟩ := evalEmergency_frame u
  rw [hframe]
  exact .same rfl rfl

theorem setLatch_kept (u : State) : Kept u (setLatch u) := by
  cases h : u.authority.latch with
  | true =>
    rw [setLatch_of_set h]
    exact .refl u
  | false =>
    rw [setLatch_of_clear h]
    exact (Kept.same (v := latched u) rfl rfl).trans ((raise_kept .emergency _).trans (trigger_kept .emergency _))

theorem deliverLine_kept (n : Fin 6) (active : Bool) (u : State) : Kept u (deliverLine n active u) := by
  rcases line_cases n with rfl | rfl | rfl | hplain
  · show Kept u (evalEmergency (if active then setLatch u else u))
    cases active
    · exact evalEmergency_kept u
    · exact (setLatch_kept u).trans (evalEmergency_kept _)
  · cases active
    · exact .refl u
    · exact raise_kept .penalty u
  · cases active
    · show Kept u (leaveCutout u)
      unfold leaveCutout
      split
      · exact .same rfl rfl
      · exact .refl u
    · show Kept u (enterCutout u)
      unfold enterCutout
      split
      · exact .refl u
      · exact .same rfl rfl
  · rw [deliverLine_plain hplain]
    exact .refl u

theorem acceptLine_kept (n : Fin 6) (s : State) : Kept s (acceptLine n s) := by
  rw [acceptLine_eq]
  refine Kept.trans ?_ (deliverLine_kept n _ _)
  have haccepted : Kept s (lineAccepted s n) := .same rfl rfl
  by_cases h : edgeMatches s.tables n (s.lines.inputs.get n).present = true
  · rw [edgeGiven_matches s n h]
    exact haccepted.trans ((raise_kept .discreteEdge _).trans (trigger_kept _ _))
  · rw [edgeGiven_else s n h]
    exact haccepted

theorem compareLine_kept (n : Fin 6) (s : State) : Kept s (compareLine n s) := by
  unfold compareLine
  dsimp only
  split
  · exact .same rfl rfl
  · split
    · exact acceptLine_kept n s
    · exact .same rfl rfl

theorem readLines_kept (l : List (Fin 6)) (s : State) : Kept s (l.foldl readLine s) := by
  induction l generalizing s with
  | nil => exact .refl s
  | cons n l ih =>
    have hread : Kept s (readLine s n) := (Kept.same (v := setInput s n { s.lines.inputs.get n with
      present := presentLevel s n (s.lines.inputs.get n).pin }) rfl rfl).trans (compareLine_kept n _)
    exact hread.trans (ih _)

/-! ## All lines -/

/-- The lines of a list are as a reset leaves them, their pins given. -/
def Unread (l : List (Fin 6)) (pin : Fin 6 → Bool) (s : State) : Prop :=
  ∀ n ∈ l, s.lines.inputs.get n = unreadLine (pin n)

/-- The flags that the reading of a list of lines raises. -/
def linesFlags (ts : Tables) (pin : Fin 6 → Bool) (l : List (Fin 6)) : List Flag :=
  l.flatMap (fun n => readFlags ts n (pin n))

theorem readLines_moves (pin : Fin 6 → Bool) (l : List (Fin 6)) {s : State} (hunread : Unread l pin s) (hnodup : l.Nodup)
    (hmode : s.control.mode ≠ .service) (hlatch : 0 ∈ l → s.authority.latch = false) :
    Moves (linesFlags s.tables pin l) [] (l.foldl lineRead s) (l.foldl readLine s) := by
  induction l generalizing s with
  | nil => exact .refl s
  | cons n l ih =>
    obtain ⟨hn, hl⟩ := List.nodup_cons.mp hnodup
    have hmoves := readLine_moves (hunread n (by simp)) hmode (fun h => hlatch (by simp [h]))
    have hframe := hmoves.frame
    have hrest : Moves (linesFlags (readLine s n).tables pin l) [] (l.foldl lineRead (readLine s n)) (l.foldl readLine (readLine s n)) := by
      refine ih (fun m hm => ?_) hl ?_ fun h0 => ?_
      · have hne : n ≠ m := fun h => hn (h ▸ hm)
        rw [hframe]
        show ((s.lines.inputs.set n _).get m) = _
        rw [Six.get_set_other _ _ _ _ hne]
        exact hunread m (by simp [hm])
      · rw [hframe]
        exact hmode
      · have hne : n ≠ 0 := fun h => hn (h ▸ h0)
        rw [hframe]
        show (lineRead s n).authority.latch = false
        unfold lineRead
        dsimp only
        rw [if_neg fun h => hne h.1]
        exact hlatch (by simp [h0])
    have htables : (readLine s n).tables = s.tables := by
      rw [hframe]
      rfl
    rw [htables] at hrest
    exact (hmoves.linesRead l).trans hrest

/-- All six lines read, before any flag. -/
theorem sixLinesRead (s : State) : six.foldl lineRead s =
    let pin := fun n => (s.lines.inputs.get n).pin
    { s with
      authority := if readsAccepted s.tables 0 (pin 0) then { s.authority with latch := true, resetTimer := .stopped }
        else s.authority
      brake := if readsAccepted s.tables 2 (pin 2) then
          (if s.brake.state = .cutout then s.brake else { quiesce s.brake with state := .cutout, cause := none })
        else s.brake
      lines := { s.lines with inputs := Six.ofFn fun n => readRecord s.tables n (pin n) } } := by
  simp [six, lineRead, Six.ofFn, Six.set, Six.get]
  rfl

/-! ## RESTART as a request -/

/-- A request that restarts the part, served in its arrival event (R168). -/
theorem request_restarts {s : State} {src tag : Byte} (hr : Ready s) (hm : MayIssue s src .restart [])
    (hc : carryOut .restart [] (underRequest s src (requestPayload tag .restart [])) =
      (underRequest s src (requestPayload tag .restart []), .restart))
    (hreset : (applyRestart [responseFrame src tag .restart .ok []]
      (underRequest s src (requestPayload tag .restart []))).management = Management.reset) :
    request src tag .restart [] s = .next (syncOutputs (flushNotices
      (applyRestart [responseFrame src tag .restart .ok []] (underRequest s src (requestPayload tag .restart []))))) := by
  obtain ⟨hlive, hslot, hroom⟩ := hr
  obtain ⟨isB, hs⟩ := Option.ne_none_iff_exists'.mp hslot
  let waiting := waitingBuffer src (requestPayload tag .restart [])
  have hj : judge waiting (underRequest s src (requestPayload tag .restart [])) =
      (underRequest s src (requestPayload tag .restart []), .restart) :=
    (judge_own (underRequest s src (requestPayload tag .restart [])) src tag .restart [] hm.1 rfl hm.2).trans hc
  have hbuffer := placed_buffer s.management waiting isB hs
  have htaken : takeRequest [] isB { s with management := placed s.management waiting } = flushNotices
      (applyRestart [responseFrame src tag .restart .ok []] (underRequest s src (requestPayload tag .restart []))) := by
    unfold takeRequest getBuffer
    dsimp only
    rw [hbuffer]
    have hj' : judge waiting { s with management := placed s.management waiting, deferred := some [] } = _ := hj
    rw [hj']
    rfl
  unfold request
  rw [event_live _ _ hlive, handRequest_ready _ _ _ _ hs hroom]
  show Host.Outcome.next (syncOutputs (serve 1 [] (takeRequest [] isB
    { s with management := placed s.management waiting }))) = _
  rw [htaken, serve_none]
  rw [flushNotices_management, hreset]
  rfl

/-- Where a restart leaves the ports: the response is sent at once, or waits behind the frame that is being sent
(R140, R146). -/
theorem restartedLink_eq (s : State) (src tag : Byte) :
    settleLink (restartLink [responseFrame src tag .restart .ok []] s.link) =
      { own := s.link.own
        nodes := List.replicate 32 NodeRuntime.fresh
        cPort := match s.link.cPort.transmitter with
          | .idle => { PortState.reset with
              transmitter := .sending true (wholeFrame ⟨src, s.link.own, 0x41, 0, [tag, 0x11, 0]⟩) 0, sequence := 1 }
          | x => { PortState.reset with transmitter := x, originated := [responseFrame src tag .restart .ok []] }
        ePort := { PortState.reset with transmitter := s.link.ePort.transmitter } } := by
  unfold settleLink restartLink restartPort settle
  cases s.link.cPort.transmitter <;> cases s.link.ePort.transmitter <;> rfl

/-- The restart state with its circumferences, before the lines are read. -/
def restartBase (s : State) (src tag : Byte) : State :=
  if s.tables.axle.loaded then recomputeCircumferences (restartState [responseFrame src tag .restart .ok []] s)
  else restartState [responseFrame src tag .restart .ok []] s

theorem restartBase_eq (s : State) (src tag : Byte) : restartBase s src tag =
    { restartState [responseFrame src tag .restart .ok []] s with
      slide := { Slide.reset with axles := Six.ofFn (fun i => { AxleRecord.reset with
        circumference := if s.tables.axle.loaded then some (circumferenceOf (diameter s.tables i)) else none }) } } := by
  unfold restartBase
  cases s.tables.axle.loaded <;> rfl

theorem readsEdge_iff (ts : Tables) (n : Fin 6) (pin : Bool) : readsEdge ts n pin =
    (readsAccepted ts n pin
      && decide (tableField ts.discrete n.val 2 = 1 ∨ tableField ts.discrete n.val 2 = 3)) := by
  unfold readsEdge
  rw [Bool.eq_iff_iff.mpr ((edgeMatches_iff ts n true).trans decide_eq_true_iff.symm)]
  simp

/-- The lines after a reset are unread. -/
theorem restartBase_unread (s : State) (src tag : Byte) (l : List (Fin 6)) :
    Unread l (fun n => (s.lines.inputs.get n).pin) (restartBase s src tag) := by
  intro n _
  rw [restartBase_eq]
  fin_cases n <;> rfl

/-- Every line reads INACTIVE: the reading gives no flag. -/
theorem readLines_inactive (pin : Fin 6 → Bool) (l : List (Fin 6)) {s : State} (hunread : Unread l pin s)
    (hnodup : l.Nodup) (h : ∀ n ∈ l, readsActive s.tables n (pin n) = false) :
    l.foldl readLine s = l.foldl lineRead s := by
  induction l generalizing s with
  | nil => rfl
  | cons n l ih =>
    obtain ⟨hn, hl⟩ := List.nodup_cons.mp hnodup
    show l.foldl readLine (readLine s n) = l.foldl lineRead (lineRead s n)
    rw [readLine_reads_inactive (hunread n (by simp)) (h n (by simp))]
    refine ih (fun m hm => ?_) hl fun m hm => h m (by simp [hm])
    have hne : n ≠ m := fun hnm => hn (hnm ▸ hm)
    show ((s.lines.inputs.set n _).get m) = _
    rw [Six.get_set_other _ _ _ _ hne]
    exact hunread m (by simp [hm])

/-- The state after a restart, before any flag of its lines. -/
def restarted (s : State) (src tag : Byte) : State :=
  { six.foldl lineRead (restartBase (underRequest s src (requestPayload tag .restart [])) src tag) with deferred := none }

/-- RESTART carried out: the restart state, the lines' flags, and the notices behind the response. -/
theorem request_restarted {s : State} {src tag : Byte} (hr : Ready s) (hm : MayIssue s src .restart [])
    (hmode : s.control.mode ≠ .service) (hfree : s.control.validation = none) :
    let pin := fun n => (s.lines.inputs.get n).pin
    ∃ t, request src tag .restart [] s = .next t
      ∧ RaisedFrom (linesFlags s.tables pin six) [] (restarted s src tag) t
      ∧ ((∀ n, readsActive s.tables n (pin n) = false) → t = syncOutputs (restarted s src tag)) := by
  intro pin
  let u := underRequest s src (requestPayload tag .restart [])
  let base := restartBase u src tag
  let w := readLines base
  have hbase : base = { restartState [responseFrame src tag .restart .ok []] u with
      slide := { Slide.reset with axles := Six.ofFn (fun i => { AxleRecord.reset with
        circumference := if s.tables.axle.loaded then some (circumferenceOf (diameter s.tables i)) else none }) } } :=
    restartBase_eq u src tag
  have hbaseMode : base.control.mode ≠ .service := by
    rw [hbase]
    exact hmode
  have hbaseLatch : base.authority.latch = false := by
    rw [hbase]
    rfl
  have hbaseTables : base.tables = s.tables := by
    rw [hbase]
    rfl
  have htarget : (six.foldl lineRead base).management = Management.reset ∧ (six.foldl lineRead base).deferred = some []
      ∧ (six.foldl lineRead base).link.cPort = base.link.cPort
      ∧ (six.foldl lineRead base).deferred = base.deferred
      ∧ (six.foldl lineRead base).control = base.control := by
    rw [sixLinesRead, hbase]
    exact ⟨rfl, rfl, rfl, rfl, rfl⟩
  obtain ⟨hreset, hkeeps, hport, hdeferred, hcontrol⟩ := htarget
  have hunread : Unread six pin base := restartBase_unread u src tag six
  have hmoves : Moves (linesFlags s.tables pin six) [] (six.foldl lineRead base) w := by
    rw [← hbaseTables]
    exact readLines_moves pin six hunread (by decide) hbaseMode (fun _ => hbaseLatch)
  have hkept : Kept (six.foldl lineRead base) w :=
    (Kept.same hport.symm hdeferred.symm).trans (readLines_kept six base)
  have happlied : applyRestart [responseFrame src tag .restart .ok []] u = w :=
    applyRestart_eq _ u ⟨by simp [u, underRequest], hmode⟩
  have hmanagement : w.management = Management.reset := by
    rw [hmoves.frame]
    exact hreset
  have hc : carryOut .restart [] u = (u, .restart) :=
    (if_neg hmode).trans (if_neg (by rw [show u.control.validation = none from hfree]; decide))
  have hexec := request_restarts hr hm hc (by rw [happlied]; exact hmanagement)
  rw [happlied] at hexec
  have hsame : ∀ x : State, x.management = Management.reset → { x with management := Management.reset } = x := by
    intro x hx
    rw [← hx]
  refine ⟨_, hexec, ?_, fun hinactive => ?_⟩
  · have hfrom := hmoves.flushed hkept hkeeps Management.reset
    rw [hsame w hmanagement] at hfrom
    have hrestarted : ({ six.foldl lineRead base with management := Management.reset, deferred := none } : State) =
        restarted s src tag := congrArg (fun x : State => { x with deferred := none }) (hsame _ hreset)
    rw [hrestarted] at hfrom
    refine hfrom.raisedFrom_outside ?_
    show (six.foldl lineRead base).control.mode ≠ .service
    rw [hcontrol]
    exact hbaseMode
  · have hread : w = six.foldl lineRead base :=
      readLines_inactive pin six hunread (by decide) fun n _ => by
        rw [hbaseTables]
        exact hinactive n
    rw [hread]
    unfold flushNotices
    rw [hkeeps]
    rfl

/-- Every block of the restart state (R179), spelled out. -/
theorem restarted_eq (s : State) (src tag : Byte) {accepted : Fin 6 → Bool} {record : Fin 6 → InputRecord}
    (haccepted : ∀ n, accepted n = readsAccepted s.tables n (s.lines.inputs.get n).pin)
    (hrecord : ∀ n, record n = readRecord s.tables n (s.lines.inputs.get n).pin) :
    restarted s src tag = { s with
      authority := { Authority.reset with lock := s.authority.lock, latch := accepted 0 }
      slide := { Slide.reset with axles := Six.ofFn (fun i => { AxleRecord.reset with
        circumference := if s.tables.axle.loaded then some (circumferenceOf (diameter s.tables i)) else none }) }
      brake := { Brake.reset with
        state := if accepted 2 then .cutout else .off
        heat := s.brake.heat, g := s.brake.g, heatElapsed := s.brake.heatElapsed }
      blend := Blend.reset
      air := Air.reset
      recorder := { s.recorder with ring := [], divider := 0 }
      link := settleLink (restartLink [responseFrame src tag .restart .ok []] s.link)
      lines := { Lines.reset with inputs := Six.ofFn record }
      management := Management.reset
      deferred := none } := by
  let base := restartBase (underRequest s src (requestPayload tag .restart [])) src tag
  have hbase : ∀ n, readsAccepted base.tables n (base.lines.inputs.get n).pin = accepted n := by
    intro n
    show readsAccepted (restartBase _ src tag).tables n ((restartBase _ src tag).lines.inputs.get n).pin = _
    rw [restartBase_eq, haccepted]
    fin_cases n <;> rfl
  rw [show record = _ from funext hrecord]
  unfold restarted
  rw [sixLinesRead]
  dsimp only
  rw [hbase 0, hbase 2, restartBase_eq]
  generalize accepted 0 = emerg
  generalize accepted 2 = cutout
  cases emerg <;> cases cutout <;> rfl

/-- Outputs that are released stay so where nothing drives them (R151). -/
theorem syncOutputs_quiet {u : State} (hflags : u.lines.flags = 0) (hlatch : u.authority.latch = false)
    (hsand : u.slide.sandRequest = false) (houtputs : u.lines.outputs = ⟨false, false, false⟩) : syncOutputs u = u := by
  have hdriven : drivenOutputs u = u.lines.outputs := by
    unfold drivenOutputs
    rw [hflags, hlatch, hsand, houtputs]
    decide
  unfold syncOutputs
  rw [hdriven]

/-- What must rise may be listed in any way. -/
theorem RaisedFrom.listed {must must' may : List Flag} {u t : State} (h : RaisedFrom must may u t)
    (hmust : ∀ f, f ∈ must ↔ f ∈ must') : RaisedFrom must' may u t := by
  obtain ⟨hframe, hflags, hrest⟩ := h
  refine ⟨hframe, fun f => ?_, hrest⟩
  rw [← hmust f]
  exact hflags f

theorem mem_ite_single {f g : Flag} {p : Prop} [Decidable p] : f ∈ (if p then [g] else []) ↔ p ∧ f = g := by
  split <;> simp_all

theorem mem_linesFlags (ts : Tables) (pin : Fin 6 → Bool) (f : Flag) : f ∈ linesFlags ts pin six ↔
    f ∈ (if readsAccepted ts 0 (pin 0) then [Flag.emergency] else [])
      ++ (if readsAccepted ts 1 (pin 1) then [Flag.penalty] else [])
      ++ (if six.any (fun n => readsEdge ts n (pin n)) then [Flag.discreteEdge] else []) := by
  have hread : ∀ n, f ∈ readFlags ts n (pin n) ↔ readsEdge ts n (pin n) = true ∧ f = .discreteEdge
      ∨ (n = 0 ∧ readsAccepted ts n (pin n) = true) ∧ f = .emergency
      ∨ (n = 1 ∧ readsAccepted ts n (pin n) = true) ∧ f = .penalty := by
    intro n
    unfold readFlags
    simp only [List.mem_append, mem_ite_single]
    tauto
  unfold linesFlags
  simp only [List.mem_flatMap, hread, List.mem_append, mem_ite_single, List.any_eq_true]
  constructor
  · rintro ⟨n, hn, ⟨he, hf⟩ | ⟨⟨rfl, ha⟩, hf⟩ | ⟨⟨rfl, ha⟩, hf⟩⟩
    · exact .inr ⟨⟨n, hn, he⟩, hf⟩
    · exact .inl (.inl ⟨ha, hf⟩)
    · exact .inl (.inr ⟨ha, hf⟩)
  · rintro ((⟨ha, hf⟩ | ⟨ha, hf⟩) | ⟨⟨n, hn, he⟩, hf⟩)
    · exact ⟨0, by simp [six], .inr (.inl ⟨⟨rfl, ha⟩, hf⟩)⟩
    · exact ⟨1, by simp [six], .inr (.inr ⟨⟨rfl, ha⟩, hf⟩)⟩
    · exact ⟨n, hn, .inl ⟨he, hf⟩⟩

/-- Settles O54. -/
theorem restartTakesRestartState : Obligations.RestartTakesRestartState := by
  unfold Obligations.RestartTakesRestartState
  intro src tag s hr hm respond restart_
  refine ⟨fun hservice => ?_, fun hmode hbusy => ?_, fun hmode hfree => ?_⟩
  · exact request_unchanged s src tag .restart [] .refusedMode [] hr hm rfl (if_pos hservice)
  · refine request_unchanged s src tag .restart [] .busy [] hr hm rfl ((if_neg hmode).trans (if_pos ?_))
    exact Option.isSome_iff_ne_none.mpr hbusy
  · obtain ⟨t, hexec, hraised, hinactive⟩ := request_restarted (tag := tag) hr hm hmode hfree
    have hframe := hraised.1
    have hkept : t.tables = s.tables ∧ t.control = s.control ∧ t.authority.lock = s.authority.lock
        ∧ t.brake.heat = s.brake.heat ∧ t.brake.g = s.brake.g ∧ t.brake.heatElapsed = s.brake.heatElapsed
        ∧ t.recorder.nextSeq = s.recorder.nextSeq ∧ t.management = Management.reset ∧ t.link.own = s.link.own := by
      rw [hframe, restarted_eq s src tag (fun _ => rfl) (fun _ => rfl)]
      exact ⟨rfl, rfl, rfl, rfl, rfl, rfl, rfl, rfl, rfl⟩
    obtain ⟨h1, h2, h3, h4, h5, h6, h7, h8, h9⟩ := hkept
    refine ⟨t, hexec, h1, h2, h3, h4, h5, h6, h7, h8, h9, ?_⟩
    intro pin setting active accepted edge frame quiet fresh
    have hactive : ∀ n, active n = readsActive s.tables n (pin n) := by
      intro n
      unfold readsActive lineActiveLow
      simp [active, setting]
    have haccepted : ∀ n, accepted n = readsAccepted s.tables n (pin n) := by
      intro n
      show (active n && _) = _
      rw [hactive]
      rfl
    have hedge : ∀ n, edge n = readsEdge s.tables n (pin n) := by
      intro n
      show (accepted n && _) = _
      rw [haccepted, readsEdge_iff]
    have hrecord : ∀ n, (⟨pin n, active n, accepted n, if active n && !accepted n then .running 0 else .stopped, edge n⟩ :
        InputRecord) = readRecord s.tables n (pin n) := by
      intro n
      rw [hactive, haccepted, hedge]
      rfl
    have hfresh : restarted s src tag = fresh := by
      rewrite [restarted_eq s src tag haccepted hrecord, restartedLink_eq]
      simp only [fresh]
      cases s.link.cPort.transmitter <;> rfl
    rw [← hfresh]
    refine ⟨hraised.listed fun f => ?_, fun hnone => ?_⟩
    · rw [mem_linesFlags]
      rw [haccepted 0, haccepted 1, show edge = _ from funext hedge]
    · have hquiet : accepted 0 = false := by
        show (active 0 && _) = false
        rw [hnone]
        rfl
      rw [hinactive fun n => (hactive n).symm.trans (hnone n), restarted_eq s src tag haccepted hrecord, hquiet]
      exact syncOutputs_quiet rfl rfl rfl rfl

end Sys2Proof.Machine
end

section
/-! PROOF. The water-filling of R73 (O33): passes that fill the lowest caps, with a level that only rises. -/

namespace Sys2Proof.Machine

/-! ## Six quantities -/

theorem Six.sum_set (x : Six Nat) (i : Fin 6) (v : Nat) : (x.set i v).sum + x.get i = x.sum + v := by
  fin_cases i <;> simp only [Six.set, Six.get, Six.sum] <;> omega

/-! ## The tentative shares -/

section
variable (q : Nat)

theorem tentative_fst (k : Nat) (us : List Share) : (tentative q k us).map Prod.fst = us := by
  induction us generalizing k with
  | nil => cases k <;> rfl
  | cons u us ih => cases k <;> exact congrArg (List.cons u) (ih _)

theorem tentative_bounds {k : Nat} {us : List Share} {x : Share × Nat} (hx : x ∈ tentative q k us) :
    q ≤ x.2 ∧ x.2 ≤ q + 1 := by
  induction us generalizing k with
  | nil => cases k <;> cases hx
  | cons u us ih =>
    cases k with
    | zero =>
      rcases List.mem_cons.mp hx with rfl | hx
      · exact ⟨le_refl _, Nat.le_succ _⟩
      · exact ih hx
    | succ k =>
      rcases List.mem_cons.mp hx with rfl | hx
      · exact ⟨Nat.le_succ _, le_refl _⟩
      · exact ih hx

theorem tentative_zero_bound {us : List Share} {x : Share × Nat} (hx : x ∈ tentative q 0 us) : x.2 = q := by
  induction us with
  | nil => cases hx
  | cons u us ih =>
    rcases List.mem_cons.mp hx with rfl | hx
    · rfl
    · exact ih hx

theorem tentative_sum {k : Nat} {us : List Share} (hk : k ≤ us.length) :
    ((tentative q k us).map Prod.snd).sum = q * us.length + k := by
  induction us generalizing k with
  | nil =>
    obtain rfl : k = 0 := Nat.le_zero.mp hk
    rfl
  | cons u us ih =>
    cases k with
    | zero =>
      simp only [tentative, List.map_cons, List.sum_cons, ih (Nat.zero_le _), List.length_cons]
      ring
    | succ k =>
      simp only [tentative, List.map_cons, List.sum_cons, ih (Nat.le_of_succ_le_succ hk), List.length_cons]
      ring

/-- The first shares of a pass are the larger ones. -/
theorem tentative_falling (k : Nat) (us : List Share) : (tentative q k us).Pairwise (fun a b => b.2 ≤ a.2) := by
  induction us generalizing k with
  | nil => cases k <;> exact .nil
  | cons u us ih =>
    cases k with
    | zero => exact .cons (fun x hx => (tentative_zero_bound q hx).le) (ih 0)
    | succ k => exact .cons (fun x hx => (tentative_bounds q hx).2) (ih k)

end

/-! ## Giving goals -/

section
variable {goals : Six Nat} {xs : List (Share × Nat)}

theorem giveGoals_other (i : Fin 6) (h : ∀ x ∈ xs, x.1.axle ≠ i) : (giveGoals goals xs).get i = goals.get i := by
  induction xs generalizing goals with
  | nil => rfl
  | cons x xs ih =>
    show (giveGoals (goals.set x.1.axle x.2) xs).get i = _
    rw [ih fun y hy => h y (by simp [hy]), Six.get_set_other _ _ _ _ (h x (by simp))]

theorem giveGoals_given (hdistinct : xs.Pairwise (fun a b => a.1.axle ≠ b.1.axle)) {x : Share × Nat} (hx : x ∈ xs) :
    (giveGoals goals xs).get x.1.axle = x.2 := by
  induction xs generalizing goals with
  | nil => cases hx
  | cons y xs ih =>
    obtain ⟨hy, hrest⟩ := List.pairwise_cons.mp hdistinct
    show (giveGoals (goals.set y.1.axle y.2) xs).get x.1.axle = _
    rcases List.mem_cons.mp hx with rfl | hx
    · rw [giveGoals_other _ fun z hz => (hy z hz).symm, Six.get_set_same]
    · exact ih hrest hx

theorem giveGoals_sum (hdistinct : xs.Pairwise (fun a b => a.1.axle ≠ b.1.axle))
    (hzero : ∀ x ∈ xs, goals.get x.1.axle = 0) : (giveGoals goals xs).sum = goals.sum + (xs.map Prod.snd).sum := by
  induction xs generalizing goals with
  | nil => rfl
  | cons x xs ih =>
    obtain ⟨hx, hrest⟩ := List.pairwise_cons.mp hdistinct
    have hset := Six.sum_set goals x.1.axle x.2
    have hstill : ∀ y ∈ xs, (goals.set x.1.axle x.2).get y.1.axle = 0 := fun y hy => by
      rw [Six.get_set_other _ _ _ _ (hx y hy)]
      exact hzero y (by simp [hy])
    show (giveGoals (goals.set x.1.axle x.2) xs).sum = _
    rw [ih hrest hstill, List.map_cons, List.sum_cons]
    have := hzero x (by simp)
    omega

end

/-! ## The passes -/

/-- Where a pass begins: the axles of `u` are still open with goal 0, all others stand at their caps, which the
level of the pass almost reaches. -/
structure Filling (caps : Six Nat) (goal : Nat) (u : List Share) (r : Nat) (goals : Six Nat) : Prop where
  ascending : u.Pairwise (fun a b => a.axle < b.axle)
  cap : ∀ x ∈ u, x.cap = caps.get x.axle
  untouched : ∀ x ∈ u, goals.get x.axle = 0
  full : ∀ i, (∀ x ∈ u, x.axle ≠ i) → goals.get i = caps.get i
  placed : goals.sum + r = goal
  bears : r ≤ (u.map Share.cap).sum
  level : ∀ i, (∀ x ∈ u, x.axle ≠ i) → u ≠ [] → goals.get i ≤ r / u.length + 1

/-- What R73 asks of an allocation. -/
structure Allotted (caps : Six Nat) (goal : Nat) (goals : Six Nat) : Prop where
  placed : goals.sum = goal
  capped : ∀ i, goals.get i ≤ caps.get i
  even : ∀ i j, goals.get i < caps.get i → goals.get j ≤ goals.get i + 1
  ordered : ∀ i j, i < j → goals.get i < caps.get i → goals.get j < caps.get j → goals.get j ≤ goals.get i

section
variable {caps goals : Six Nat} {goal r : Nat} {u : List Share}

theorem open_or_full (u : List Share) (i : Fin 6) : (∃ x ∈ u, x.axle = i) ∨ ∀ x ∈ u, x.axle ≠ i := by
  by_cases h : ∃ x ∈ u, x.axle = i
  · exact .inl h
  · exact .inr fun x hx hxi => h ⟨x, hx, hxi⟩

/-- Nothing is left to place: the open axles stand at 0. -/
theorem Filling.finished (h : Filling caps goal u r goals) (hr : u.length = 0 ∨ r = 0) : Allotted caps goal goals := by
  have hzero : r = 0 := by
    rcases hr with hu | hr
    · have hnil := List.length_eq_zero_iff.mp hu
      have := h.bears
      simpa [hnil] using this
    · exact hr
  have hstands : ∀ i, (goals.get i = 0 ∧ u ≠ []) ∨ goals.get i = caps.get i := by
    intro i
    rcases open_or_full u i with ⟨x, hx, rfl⟩ | hfull
    · exact .inl ⟨h.untouched x hx, List.ne_nil_of_mem hx⟩
    · exact .inr (h.full i hfull)
  have hlevel : ∀ i, u ≠ [] → goals.get i ≤ 1 := by
    intro i hu
    rcases open_or_full u i with ⟨x, hx, rfl⟩ | hfull
    · rw [h.untouched x hx]
      exact Nat.zero_le _
    · have := h.level i hfull hu
      simpa [hzero] using this
  refine ⟨by have := h.placed; omega, fun i => ?_, fun i j hi => ?_, fun i j _ hi hj => ?_⟩
  · rcases hstands i with ⟨h0, -⟩ | hfull <;> omega
  · rcases hstands i with ⟨h0, hu⟩ | hfull
    · have := hlevel j hu
      omega
    · omega
  · rcases hstands j with ⟨h0, -⟩ | hfull <;> omega

/-! ## One pass -/

/-- The tentative shares of a pass. -/
def passShares (u : List Share) (r : Nat) : List (Share × Nat) := tentative (r / u.length) (r % u.length) u

theorem passShares_fst (u : List Share) (r : Nat) : (passShares u r).map Prod.fst = u := tentative_fst _ _ _

theorem passShares_sum (hu : u.length ≠ 0) : ((passShares u r).map Prod.snd).sum = r := by
  rw [passShares, tentative_sum _ (Nat.mod_lt _ (Nat.pos_of_ne_zero hu)).le]
  exact Nat.div_add_mod' r u.length

theorem mem_passShares {x : Share × Nat} (hx : x ∈ passShares u r) : x.1 ∈ u := by
  rw [← passShares_fst u r]
  exact List.mem_map_of_mem hx

/-- A list of shares whose axles ascend, and so are distinct. -/
theorem Filling.pairwise (h : Filling caps goal u r goals) :
    (passShares u r).Pairwise (fun a b => a.1.axle < b.1.axle) := by
  have hmap : ((passShares u r).map Prod.fst).Pairwise (fun a b => a.axle < b.axle) := by
    rw [passShares_fst]
    exact h.ascending
  exact (List.pairwise_map (R := fun a b : Share => a.axle < b.axle)).mp hmap

theorem Filling.distinct (h : Filling caps goal u r goals) :
    (passShares u r).Pairwise (fun a b => a.1.axle ≠ b.1.axle) := h.pairwise.imp fun hlt => ne_of_lt hlt

/-- Of two shares that of the lower-numbered axle is the larger. -/
def SharesFall (a b : Share × Nat) : Prop :=
  (a.1.axle < b.1.axle → b.2 ≤ a.2) ∧ (b.1.axle < a.1.axle → a.2 ≤ b.2)

theorem Filling.falling (h : Filling caps goal u r goals) {x y : Share × Nat} (hx : x ∈ passShares u r)
    (hy : y ∈ passShares u r) : SharesFall x y := by
  have hsymm : Std.Symm SharesFall := ⟨fun _ _ hab => ⟨hab.2, hab.1⟩⟩
  have hboth : (passShares u r).Pairwise SharesFall := (h.pairwise.and (tentative_falling _ _ _)).imp fun hab =>
    ⟨fun _ => hab.2, fun hba => absurd hba (lt_asymm hab.1)⟩
  exact hboth.forall_of_forall
    (fun _ _ => ⟨fun hlt => absurd hlt (lt_irrefl _), fun hlt => absurd hlt (lt_irrefl _)⟩) hx hy

/-- A pass whose shares all fit ends the allocation. -/
theorem Filling.fits (h : Filling caps goal u r goals) (hu : u.length ≠ 0)
    (hfits : ∀ x ∈ passShares u r, x.2 ≤ x.1.cap) : Allotted caps goal (giveGoals goals (passShares u r)) := by
  have hzero : ∀ x ∈ passShares u r, goals.get x.1.axle = 0 := fun x hx => h.untouched _ (mem_passShares hx)
  have hgiven : ∀ x ∈ passShares u r, (giveGoals goals (passShares u r)).get x.1.axle = x.2 :=
    fun x hx => giveGoals_given h.distinct hx
  have hplace : ∀ i, (∃ x ∈ passShares u r, x.1.axle = i ∧ (giveGoals goals (passShares u r)).get i = x.2)
      ∨ (giveGoals goals (passShares u r)).get i = caps.get i ∧ goals.get i = caps.get i ∧ ∀ x ∈ u, x.axle ≠ i := by
    intro i
    rcases open_or_full u i with ⟨y, hy, rfl⟩ | hfull
    · rw [← passShares_fst u r] at hy
      obtain ⟨x, hx, rfl⟩ := List.mem_map.mp hy
      exact .inl ⟨x, hx, rfl, hgiven x hx⟩
    · refine .inr ⟨?_, h.full i hfull, hfull⟩
      rw [giveGoals_other i fun x hx => hfull _ (mem_passShares hx)]
      exact h.full i hfull
  have hcap : ∀ x ∈ passShares u r, x.2 ≤ caps.get x.1.axle := fun x hx => by
    rw [← h.cap _ (mem_passShares hx)]
    exact hfits x hx
  refine ⟨?_, fun i => ?_, fun i j hi => ?_, fun i j hij hi hj => ?_⟩
  · rw [giveGoals_sum h.distinct hzero, passShares_sum hu]
    exact h.placed
  · rcases hplace i with ⟨x, hx, rfl, hxi⟩ | ⟨hfull, -, -⟩
    · rw [hxi]
      exact hcap x hx
    · exact hfull.le
  · rcases hplace i with ⟨x, hx, rfl, hxi⟩ | ⟨hfull, -, -⟩
    · have hlow := (tentative_bounds _ hx).1
      rcases hplace j with ⟨y, hy, rfl, hyj⟩ | ⟨hfull, hstood, hout⟩
      · have hhigh := (tentative_bounds _ hy).2
        omega
      · have hlevel := h.level j hout (List.length_pos_iff.mp (Nat.pos_of_ne_zero hu))
        omega
    · omega
  · rcases hplace i with ⟨x, hx, rfl, hxi⟩ | ⟨hfull, -, -⟩
    · rcases hplace j with ⟨y, hy, rfl, hyj⟩ | ⟨hfull, -, -⟩
      · rw [hxi, hyj]
        exact (h.falling hx hy).1 hij
      · omega
    · omega

/-- The shares of a pass whose axles are full. -/
def fullShares (u : List Share) (r : Nat) : List (Share × Nat) :=
  (passShares u r).filter (fun x => decide (x.1.cap ≤ x.2))

/-- The shares of a pass whose axles stay open. -/
def openShares (u : List Share) (r : Nat) : List (Share × Nat) :=
  (passShares u r).filter (fun x => decide (x.2 < x.1.cap))

/-- What the full axles of a pass take. -/
def filledShares (u : List Share) (r : Nat) : List (Share × Nat) := (fullShares u r).map (fun x => (x.1, x.1.cap))

/-- A sum over the shares of a pass, split into the full and the open axles. -/
theorem passShares_split (f : Share × Nat → Nat) : ((passShares u r).map f).sum =
    ((fullShares u r).map f).sum + ((openShares u r).map f).sum := by
  unfold fullShares openShares
  induction passShares u r with
  | nil => rfl
  | cons x xs ih =>
    by_cases hx : x.1.cap ≤ x.2
    · have hnot : ¬ x.2 < x.1.cap := Nat.not_lt_of_le hx
      simp only [List.map_cons, List.sum_cons, List.filter_cons, hx, hnot, decide_true, decide_false, if_true,
        Bool.false_eq_true, if_false, ih]
      omega
    · have hlt : x.2 < x.1.cap := Nat.lt_of_not_le hx
      simp only [List.map_cons, List.sum_cons, List.filter_cons, hx, hlt, decide_true, decide_false, if_true,
        Bool.false_eq_true, if_false, ih]
      omega

theorem sum_map_le {l : List (Share × Nat)} {f g : Share × Nat → Nat} (h : ∀ x ∈ l, f x ≤ g x) :
    (l.map f).sum ≤ (l.map g).sum := List.sum_le_sum h

theorem Filling.eq_of_axle (h : Filling caps goal u r goals) {x y : Share × Nat} (hx : x ∈ passShares u r)
    (hy : y ∈ passShares u r) (hxy : x.1.axle = y.1.axle) : x = y := by
  have hsymm : Std.Symm (fun a b : Share × Nat => a.1.axle ≠ b.1.axle) := ⟨fun _ _ hab => hab.symm⟩
  by_contra hne
  exact h.distinct.forall hx hy hne hxy

theorem mem_fullShares {x : Share × Nat} : x ∈ fullShares u r ↔ x ∈ passShares u r ∧ x.1.cap ≤ x.2 := by
  rw [fullShares, List.mem_filter, decide_eq_true_eq]

theorem mem_openShares {x : Share × Nat} : x ∈ openShares u r ↔ x ∈ passShares u r ∧ x.2 < x.1.cap := by
  rw [openShares, List.mem_filter, decide_eq_true_eq]

/-- Full axles take no more than their shares, which leaves the open ones theirs. -/
theorem openShares_le (hu : u.length ≠ 0) : ((openShares u r).map Prod.snd).sum
    + ((fullShares u r).map (fun x => x.1.cap)).sum ≤ r := by
  have hsum := passShares_sum (r := r) hu
  have hsplit := passShares_split (u := u) (r := r) Prod.snd
  have hfull : ((fullShares u r).map (fun x => x.1.cap)).sum ≤ ((fullShares u r).map Prod.snd).sum :=
    List.sum_le_sum fun x hx => (mem_fullShares.mp hx).2
  omega

/-- The level of the next pass is no lower. -/
theorem level_rises (hu : u.length ≠ 0) (hopen : (openShares u r).length ≠ 0) :
    r / u.length ≤ (r - ((fullShares u r).map (fun x => x.1.cap)).sum) / (openShares u r).length := by
  have hleft := openShares_le (r := r) hu
  have hlow : (openShares u r).length * (r / u.length) ≤ ((openShares u r).map Prod.snd).sum := by
    have hcard := List.card_nsmul_le_sum ((openShares u r).map Prod.snd) (r / u.length) fun v hv => by
      obtain ⟨x, hx, rfl⟩ := List.mem_map.mp hv
      exact (tentative_bounds _ (mem_openShares.mp hx).1).1
    simpa using hcard
  rw [Nat.le_div_iff_mul_le (Nat.pos_of_ne_zero hopen)]
  rw [mul_comm] at hlow
  omega

theorem given_other (goals : Six Nat) {i : Fin 6} (hi : ∀ x ∈ fullShares u r, x.1.axle ≠ i) :
    (giveGoals goals (filledShares u r)).get i = goals.get i := by
  refine giveGoals_other i fun y hy => ?_
  obtain ⟨x, hx, rfl⟩ := List.mem_map.mp hy
  exact hi x hx

section
variable (h : Filling caps goal u r goals)
include h

theorem Filling.filled_distinct : (filledShares u r).Pairwise (fun a b => a.1.axle ≠ b.1.axle) :=
  List.pairwise_map.mpr (h.distinct.sublist List.filter_sublist)

/-- A full axle's goal after a pass is its cap. -/
theorem Filling.given_full {x : Share × Nat} (hx : x ∈ fullShares u r) :
    (giveGoals goals (filledShares u r)).get x.1.axle = x.1.cap :=
  giveGoals_given h.filled_distinct (x := (x.1, x.1.cap)) (List.mem_map_of_mem hx)

/-- Every axle that a pass does not leave open stands at its cap, within reach of the level. -/
theorem Filling.closed (i : Fin 6) (hi : ∀ x ∈ openShares u r, x.1.axle ≠ i) :
    (giveGoals goals (filledShares u r)).get i = caps.get i
      ∧ (u ≠ [] → (giveGoals goals (filledShares u r)).get i ≤ r / u.length + 1) := by
  by_cases hfull : ∃ x ∈ fullShares u r, x.1.axle = i
  · obtain ⟨x, hx, rfl⟩ := hfull
    obtain ⟨hmem, hcap⟩ := mem_fullShares.mp hx
    have hhigh := (tentative_bounds _ hmem).2
    rw [h.given_full hx]
    exact ⟨h.cap _ (mem_passShares hmem), fun _ => by omega⟩
  · have hout : ∀ x ∈ u, x.axle ≠ i := by
      intro x hx hxi
      rw [← passShares_fst u r] at hx
      obtain ⟨y, hy, rfl⟩ := List.mem_map.mp hx
      by_cases hcap : y.1.cap ≤ y.2
      · exact hfull ⟨y, mem_fullShares.mpr ⟨hy, hcap⟩, hxi⟩
      · exact hi y (mem_openShares.mpr ⟨hy, Nat.lt_of_not_le hcap⟩) hxi
    rw [given_other goals fun x hx hxi => hfull ⟨x, hx, hxi⟩]
    exact ⟨h.full i hout, h.level i hout⟩

/-- A pass that fills axles begins the next one with the others, at a level no lower (R73). -/
theorem Filling.next (hu : u.length ≠ 0) : Filling caps goal ((openShares u r).map Prod.fst)
    (r - ((fullShares u r).map (fun x => x.1.cap)).sum) (giveGoals goals (filledShares u r)) := by
  have hleft := openShares_le (r := r) hu
  have hclosed : ∀ i, (∀ x ∈ (openShares u r).map Prod.fst, x.axle ≠ i) → ∀ x ∈ openShares u r, x.1.axle ≠ i :=
    fun i hi x hx => hi _ (List.mem_map_of_mem hx)
  refine ⟨?_, fun y hy => ?_, fun y hy => ?_, fun i hi => ?_, ?_, ?_, fun i hi hne => ?_⟩
  · exact List.pairwise_map.mpr (h.pairwise.sublist List.filter_sublist)
  · obtain ⟨x, hx, rfl⟩ := List.mem_map.mp hy
    exact h.cap _ (mem_passShares (mem_openShares.mp hx).1)
  · obtain ⟨x, hx, rfl⟩ := List.mem_map.mp hy
    obtain ⟨hmem, hlt⟩ := mem_openShares.mp hx
    rw [given_other goals fun z hz hzx => ?_]
    · exact h.untouched _ (mem_passShares hmem)
    · obtain ⟨hz, hcap⟩ := mem_fullShares.mp hz
      rw [h.eq_of_axle hz hmem hzx] at hcap
      omega
  · exact (h.closed i (hclosed i hi)).1
  · have hsum : (giveGoals goals (filledShares u r)).sum =
        goals.sum + ((fullShares u r).map (fun x => x.1.cap)).sum := by
      rw [giveGoals_sum h.filled_distinct ?_]
      · simp [filledShares, Function.comp_def]
      · intro y hy
        obtain ⟨x, hx, rfl⟩ := List.mem_map.mp hy
        exact h.untouched x.1 (mem_passShares (mem_fullShares.mp hx).1)
    have := h.placed
    omega
  · have hcaps := passShares_split (u := u) (r := r) (fun x => x.1.cap)
    have hall : ((passShares u r).map (fun x => x.1.cap)).sum = (u.map Share.cap).sum := by
      conv_rhs => rw [← passShares_fst u r]
      rw [List.map_map]
      rfl
    have := h.bears
    rw [List.map_map]
    show _ ≤ ((openShares u r).map (fun x => x.1.cap)).sum
    omega
  · have hopen : (openShares u r).length ≠ 0 := fun h0 => hne (by rw [List.length_eq_zero_iff.mp h0]; rfl)
    have hrises := level_rises (r := r) hu hopen
    have hlevel := (h.closed i (hclosed i hi)).2 fun hnil => hu (by rw [hnil]; rfl)
    rw [List.length_map]
    omega

end

end

/-! ## R73 -/

theorem fillPasses_allotted {caps : Six Nat} {goal : Nat} (fuel : Nat) {u : List Share} {r : Nat} {goals : Six Nat}
    (h : Filling caps goal u r goals) (hfuel : u.length ≤ fuel) : Allotted caps goal (fillPasses fuel u r goals) := by
  induction fuel generalizing u r goals with
  | zero => exact h.finished (.inl (Nat.le_zero.mp hfuel))
  | succ fuel ih =>
    unfold fillPasses
    by_cases hdone : u.length = 0 ∨ r = 0
    · rw [if_pos hdone]
      exact h.finished hdone
    · rw [if_neg hdone]
      have hu : u.length ≠ 0 := fun h0 => hdone (.inl h0)
      show Allotted caps goal (if (passShares u r).all (fun x => decide (x.2 ≤ x.1.cap)) then
        giveGoals goals (passShares u r)
        else fillPasses fuel ((openShares u r).map Prod.fst) (r - ((fullShares u r).map (fun x => x.1.cap)).sum)
          (giveGoals goals (filledShares u r)))
      by_cases hfits : (passShares u r).all (fun x => decide (x.2 ≤ x.1.cap)) = true
      · rw [if_pos hfits]
        exact h.fits hu fun x hx => of_decide_eq_true (List.all_eq_true.mp hfits x hx)
      · rw [if_neg hfits]
        refine ih (h.next hu) ?_
        obtain ⟨x, hx, hover⟩ : ∃ x ∈ passShares u r, ¬ x.2 ≤ x.1.cap := by simpa using hfits
        have hshrinks : (openShares u r).length < (passShares u r).length :=
          List.length_filter_lt_length_iff_exists.mpr ⟨x, hx, by simpa using (Nat.lt_of_not_le hover).le⟩
        have hlength : (passShares u r).length = u.length := by
          rw [← List.length_map (f := Prod.fst), passShares_fst]
        rw [List.length_map]
        omega

/-- The axles that an allocation begins with: those whose cap is above 0. -/
def openAxles (caps : Six Nat) : List Share :=
  (six.map (fun i => Share.mk i (caps.get i))).filter (fun u => decide (0 < u.cap))

theorem mem_openAxles {caps : Six Nat} {x : Share} : x ∈ openAxles caps ↔ x.cap = caps.get x.axle ∧ 0 < x.cap := by
  unfold openAxles
  simp only [List.mem_filter, List.mem_map, decide_eq_true_eq]
  constructor
  · rintro ⟨⟨i, -, rfl⟩, hpos⟩
    exact ⟨rfl, hpos⟩
  · rintro ⟨hcap, hpos⟩
    exact ⟨⟨x.axle, mem_six _, by rw [← hcap]⟩, hpos⟩

theorem openAxles_sum (caps : Six Nat) : ((openAxles caps).map Share.cap).sum = caps.sum := by
  have hdrop : ∀ us : List Share,
      ((us.filter (fun u => decide (0 < u.cap))).map Share.cap).sum = (us.map Share.cap).sum := by
    intro us
    induction us with
    | nil => rfl
    | cons u us ih =>
      rw [List.filter_cons]
      split
      · simp only [List.map_cons, List.sum_cons, ih]
      next hu =>
        have hzero : u.cap = 0 := by simpa using hu
        rw [ih, List.map_cons, List.sum_cons, hzero, Nat.zero_add]
  rw [openAxles, hdrop]
  simp only [six, List.map_cons, List.map_nil, List.sum_cons, List.sum_nil, Six.get, Six.sum]
  omega

theorem openAxles_filling {caps : Six Nat} {goal : Nat} (h : goal ≤ caps.sum) :
    Filling caps goal (openAxles caps) goal (Six.all 0) := by
  have hzero : ∀ i : Fin 6, (Six.all 0).get i = 0 := fun i => by fin_cases i <;> rfl
  refine ⟨?_, fun x hx => (mem_openAxles.mp hx).1, fun x _ => hzero _, fun i hi => ?_, Nat.zero_add goal, ?_,
    fun i _ _ => by rw [hzero]; exact Nat.zero_le _⟩
  · have hsix : six.Pairwise (fun i j : Fin 6 => i < j) := by decide
    have hmap : (six.map (fun i => Share.mk i (caps.get i))).Pairwise (fun a b => a.axle < b.axle) :=
      List.pairwise_map.mpr hsix
    exact hmap.sublist List.filter_sublist
  · rw [hzero]
    by_contra hne
    exact hi ⟨i, caps.get i⟩ (mem_openAxles.mpr ⟨rfl, Nat.pos_of_ne_zero (Ne.symm hne)⟩) rfl
  · rw [openAxles_sum]
    exact h

/-- Settles O33. -/
theorem allocationPlacesGoal : Obligations.AllocationPlacesGoal := by
  unfold Obligations.AllocationPlacesGoal
  intro caps goal hgoal goals
  have hallotted : Allotted caps goal goals := fillPasses_allotted 6 (openAxles_filling hgoal) (List.length_filter_le _ _)
  exact ⟨hallotted.placed, hallotted.capped, hallotted.even, hallotted.ordered⟩

end Sys2Proof.Machine
end

section
/-! PROOF. The blend period (O34, O35): what each of its parts moves, and what it computes. -/

namespace Sys2Proof.Machine

/-! ## The parts of a period (R80 to R85) -/

/-- The channel after the hand-off (R50, R52, R53). -/
def handedBrake (fTarget capabilitySum : Nat) (e : Six Nat) (b : Brake) : Brake :=
  match b.state with
  | .off => if 0 < fTarget ∧ 0 < capabilitySum then { b with state := .setup, setupTimer := .running 0 } else b
  | .setup => if fTarget = 0 then { quiesce b with state := .off } else b
  | .active => { b with idleTimer := if idlePeriod e fTarget then b.idleTimer.startIfStopped else .stopped }
  | .tripped | .cutout => b

section
variable (fTarget capabilitySum : Nat) (e : Six Nat) {b : Brake}

theorem handedBrake_off (h : b.state = .off) : handedBrake fTarget capabilitySum e b =
    if 0 < fTarget ∧ 0 < capabilitySum then { b with state := .setup, setupTimer := .running 0 } else b := by
  unfold handedBrake
  split
  next => rfl
  all_goals simp_all

theorem handedBrake_setup (h : b.state = .setup) : handedBrake fTarget capabilitySum e b =
    if fTarget = 0 then { quiesce b with state := .off } else b := by
  unfold handedBrake
  split
  next hoff => exact absurd (h.symm.trans hoff) (by decide)
  next => rfl
  all_goals simp_all

theorem handedBrake_active (h : b.state = .active) : handedBrake fTarget capabilitySum e b =
    { b with idleTimer := if idlePeriod e fTarget then b.idleTimer.startIfStopped else .stopped } := by
  unfold handedBrake
  split
  next hoff => exact absurd (h.symm.trans hoff) (by decide)
  next hsetup => exact absurd (h.symm.trans hsetup) (by decide)
  next => rfl
  all_goals simp_all

theorem handedBrake_stands (h : b.state = .tripped ∨ b.state = .cutout) : handedBrake fTarget capabilitySum e b = b := by
  unfold handedBrake
  rcases h with h | h
  all_goals rw [h]

theorem handOff_eq (u : State) : handOff fTarget capabilitySum e u =
    { u with brake := handedBrake fTarget capabilitySum e u.brake } := by
  unfold handOff
  split
  next h =>
    rw [handedBrake_off fTarget capabilitySum e h]
    split <;> rfl
  next h =>
    rw [handedBrake_setup fTarget capabilitySum e h]
    split <;> rfl
  next h => rw [handedBrake_active fTarget capabilitySum e h]
  next h => rw [handedBrake_stands fTarget capabilitySum e (.inl h)]
  next h => rw [handedBrake_stands fTarget capabilitySum e (.inr h)]

end

theorem sendSetpoint_port (role : Role) (cls : Byte) (payload : List Byte) (u : State) :
    sendSetpoint role cls payload u =
      { u with link := { u.link with ePort := (sendSetpoint role cls payload u).link.ePort } } := by
  unfold sendSetpoint
  split
  · rw [handOver_e]
  · rfl

/-- The setpoints move the E-port alone. -/
theorem sendSetpoints_port (emergency : Bool) (u : State) : sendSetpoints emergency u =
    { u with link := { u.link with ePort := (sendSetpoints emergency u).link.ePort } } := by
  unfold sendSetpoints
  dsimp only
  generalize h1 : sendSetpoint .traction _ _ u = v
  have hv := sendSetpoint_port .traction Config.clsDbSetpoint (dbSetpointPayload (excitation u.brake) u.blend.e) u
  rw [h1] at hv
  generalize h2 : sendSetpoint .valveT1 _ _ v = w
  have hw := sendSetpoint_port .valveT1 Config.clsBcSetpoint (bcSetpointPayload 1 u.blend.p1 emergency) v
  rw [h2] at hw
  rw [sendSetpoint_port, hw, hv]

/-- The report moves the divider and the C-port alone. -/
theorem reportStep_frame (r : State) (c : Computed) (u : State) : reportStep r c u =
    { u with
      blend := { u.blend with divider := if u.blend.divider + 1 < 5 then u.blend.divider + 1 else 0 }
      link := { u.link with cPort := (reportStep r c u).link.cPort } } := by
  unfold reportStep
  dsimp only
  by_cases h : u.blend.divider + 1 < 5
  · rw [if_pos h, if_pos h]
  · rw [if_neg h, if_neg h]
    split
    · rfl
    · rw [handOver_c]

/-! ## The Recorder's part -/

theorem appendToFilling_recorder_congr {u v : State} (hr : u.recorder = v.recorder) (ht : u.tables = v.tables)
    (n : Snapshot) : (appendToFilling u n).recorder = (appendToFilling v n).recorder := by
  unfold appendToFilling sealSlot
  rw [hr, ht]
  split
  · exact hr
  · dsimp only
    split
    · rw [raise_recorder, raise_recorder]
    · rfl

/-- What a snapshot makes of the Recorder depends on the Recorder and the tables alone. -/
theorem takeSnapshot_recorder_congr {u v : State} (hr : u.recorder = v.recorder) (ht : u.tables = v.tables)
    (n : Snapshot) : (takeSnapshot u n).recorder = (takeSnapshot v n).recorder := by
  by_cases h : v.recorder.divider + 1 = recordDiv v.tables
  · rw [takeSnapshot_enters (by rw [hr, ht]; exact h), takeSnapshot_enters h]
    exact appendToFilling_recorder_congr (u := { u with recorder := pushedRecorder u.recorder n })
      (v := { v with recorder := pushedRecorder v.recorder n }) (congrArg (pushedRecorder · n) hr) ht n
  · rw [takeSnapshot_counts (by rw [hr, ht]; exact h), takeSnapshot_counts h, hr]

/-! ## A whole period -/

/-- The state whose setpoints a period sends. -/
def periodState (s : State) : State :=
  let c := compute s
  { s with
    brake := handedBrake c.record.fTarget c.record.capabilitySum c.e s.brake
    blend := { s.blend with timer := .running 0, e := c.e, p1 := c.p1, p2 := c.p2, record := some c.record } }

theorem blendPeriod_eq (s : State) : blendPeriod s = reportStep s (compute s)
    (takeSnapshot (sendSetpoints s.authority.latch (periodState s)) (formSnapshot s (compute s))) := by
  unfold blendPeriod
  dsimp only
  rw [handOff_eq]
  rfl

/-- Everything a period moves. -/
theorem blendPeriod_frame (s : State) : blendPeriod s =
    { periodState s with
      blend := { (periodState s).blend with
        divider := if s.blend.divider + 1 < 5 then s.blend.divider + 1 else 0 }
      recorder := (takeSnapshot s (formSnapshot s (compute s))).recorder
      link := { s.link with
        cPort := (blendPeriod s).link.cPort
        ePort := (sendSetpoints s.authority.latch (periodState s)).link.ePort }
      lines := { s.lines with
        outputs := (blendPeriod s).lines.outputs
        flags := (blendPeriod s).lines.flags
        noticePending := (blendPeriod s).lines.noticePending }
      deferred := (blendPeriod s).deferred } := by
  have hsent := sendSetpoints_port s.authority.latch (periodState s)
  have hsnap := takeSnapshot_frame (s := sendSetpoints s.authority.latch (periodState s)) (formSnapshot s (compute s))
  have hrecorder : (takeSnapshot (sendSetpoints s.authority.latch (periodState s)) (formSnapshot s (compute s))).recorder
      = (takeSnapshot s (formSnapshot s (compute s))).recorder := by
    refine takeSnapshot_recorder_congr ?_ ?_ _
    all_goals
      rw [hsent]
      rfl
  rw [blendPeriod_eq]
  generalize takeSnapshot (sendSetpoints s.authority.latch (periodState s)) (formSnapshot s (compute s)) = u at hsnap hrecorder
  rw [hsent] at hsnap
  generalize hdone : reportStep s (compute s) u = w
  have hreport := reportStep_frame s (compute s) u
  rw [hdone] at hreport
  have hlines : w.lines = u.lines := by rw [hreport]
  have hdeferred : w.deferred = u.deferred := by rw [hreport]
  rw [hlines, hdeferred, ← hrecorder]
  conv_lhs => rw [hreport, hsnap]
  rfl

end Sys2Proof.Machine
end

section
/-! PROOF. What a blend period computes (O34), and the limits of what it commands (O35). -/

namespace Sys2Proof.Machine

/-! ## A due period -/

theorem exec_blendPeriod_due {s : State} (hr : s.inReset = false) (hmode : s.control.mode = .service)
    (hdue : ∃ e, s.blend.timer = .running e ∧ 20 ≤ e) :
    exec .blendPeriod s = .next (syncOutputs (blendPeriod s)) :=
  (event_live s blendExpiry hr).trans
    (congrArg (fun u => Host.Outcome.next (syncOutputs u)) (if_pos ((blendDue_iff s).mpr ⟨hmode, hdue⟩)))

/-- What a period stores, and what it leaves as it stood. -/
theorem blendPeriod_done {s : State} (hr : s.inReset = false) (hmode : s.control.mode = .service)
    (hdue : ∃ e, s.blend.timer = .running e ∧ 20 ≤ e) : ∃ t, exec .blendPeriod s = .next t
      ∧ (t.blend.timer = .running 0 ∧ t.blend.e = (compute s).e ∧ t.blend.p1 = (compute s).p1
        ∧ t.blend.p2 = (compute s).p2 ∧ t.blend.record = some (compute s).record)
      ∧ t.authority = s.authority ∧ t.slide = s.slide ∧ t.air = s.air ∧ t.tables = s.tables ∧ t.control = s.control
      ∧ t.lines.inputs = s.lines.inputs ∧ t.management = s.management := by
  refine ⟨_, exec_blendPeriod_due hr hmode hdue, ?_⟩
  rw [blendPeriod_frame]
  exact ⟨⟨rfl, rfl, rfl, rfl, rfl⟩, rfl, rfl, rfl, rfl, rfl, rfl, rfl⟩

/-! ## The stages (R66 to R80) -/

theorem available_iff (speed : SpeedState) (a : AxleRecord) : available speed a = true ↔
    speed = .valid ∧ a.state ≠ .locked ∧ a.state ≠ .sensorFault ∧ a.state ≠ .isolated := by
  unfold available
  cases a.state <;> simp

theorem availableCount_eq (s : State) : availableCount s =
    (six.filter (fun i => available s.slide.speedState (s.slide.axles.get i))).length := by
  unfold availableCount
  rw [Six.toList_eq, List.filter_map, List.length_map]
  rfl

theorem axleCap_open {s : State} {direction : Byte} {i : Fin 6} (hactive : s.brake.state = .active)
    (h : available s.slide.speedState (s.slide.axles.get i) = true) : axleCap s direction i =
      min (capability s * (s.slide.axles.get i).f / 1000) (adhesionCap s direction i) * s.brake.g / 1000 := by
  unfold axleCap
  exact if_pos (by rw [hactive, h]; rfl)

theorem axleCap_shut {s : State} {direction : Byte} {i : Fin 6}
    (h : s.brake.state ≠ .active ∨ available s.slide.speedState (s.slide.axles.get i) = false) :
    axleCap s direction i = 0 := by
  unfold axleCap
  refine if_neg fun hboth => ?_
  rw [Bool.and_eq_true, decide_eq_true_eq] at hboth
  rcases h with h | h
  · exact h hboth.1
  · rw [h] at hboth
    exact absurd hboth.2 (by decide)

theorem truckLocked_eq (s : State) :
    truckLocked s .t1 = decide ((s.slide.axles.get 0).state = .locked ∨ (s.slide.axles.get 1).state = .locked
      ∨ (s.slide.axles.get 2).state = .locked)
    ∧ truckLocked s .t2 = decide ((s.slide.axles.get 3).state = .locked ∨ (s.slide.axles.get 4).state = .locked
      ∨ (s.slide.axles.get 5).state = .locked) := by
  have hthree : ∀ a b c : Prop, [Decidable a] → [Decidable b] → [Decidable c] →
      (decide a || decide b || decide c) = decide (a ∨ b ∨ c) := by
    intro a b c _ _ _
    rw [Bool.or_assoc, ← Bool.decide_or, ← Bool.decide_or]
  exact ⟨hthree _ _ _, hthree _ _ _⟩

theorem servicePressure_eq {ts : Tables} (h : 0 < tableField ts.blend 4 0) (pInd share factor : Nat) :
    servicePressure ts pInd share factor = min (tableField ts.blend 5 0)
      (max pInd ((share * 1000 + tableField ts.blend 4 0 - 1) / tableField ts.blend 4 0)) * factor / 1000 := by
  have hceil : ceilDiv (share * 1000) (kBc ts) =
      (share * 1000 + tableField ts.blend 4 0 - 1) / tableField ts.blend 4 0 := if_neg (Nat.ne_of_gt h)
  unfold servicePressure
  rw [hceil]
  rfl

/-- Settles O34. -/
theorem blendPeriodComputes : Obligations.BlendPeriodComputes := by
  unfold Obligations.BlendPeriodComputes
  intro s hr hmode hdue hk parameter d latch flowing axle available_ curve correction adhesion counted service emergency
  obtain ⟨t, hexec, ⟨htimer, he, hp1, hp2, hrecord⟩, hstands⟩ := blendPeriod_done hr hmode hdue
  have havailable : ∀ i, available s.slide.speedState (axle i) = true ↔ available_ i := fun i => available_iff _ _
  have hservice : ∀ share factor, servicePressure s.tables (d.independent.getD 0) share factor = service share factor :=
    fun share factor => servicePressure_eq hk _ share factor
  obtain ⟨hlocked1, hlocked2⟩ := truckLocked_eq s
  obtain ⟨hfT1, hfT2⟩ := truckFactor_eq s
  have hcount : availableCount s = (six.filter (fun i => decide (available_ i))).length := by
    rw [availableCount_eq]
    refine congrArg List.length (List.filter_congr fun i _ => ?_)
    exact Bool.eq_iff_iff.mpr ((havailable i).trans decide_eq_true_iff.symm)
  have heffort : ∀ i, (compute s).e.get i = axleEffort s.tables latch (s.blend.e.get i)
      ((compute s).record.goals.get i) ((compute s).record.caps.get i) := fun i => Six.get_ofFn _ i
  have hcap : ∀ i, (compute s).record.caps.get i = axleCap s d.direction i := fun i => Six.get_ofFn _ i
  refine ⟨t, (compute s).record, hexec, hrecord, htimer, rfl, rfl, rfl, rfl, rfl, rfl, rfl, ?_,
    fun i => ⟨fun hactive hav => ?_, fun hnot => ?_⟩, rfl, rfl, fun i => ?_, ?_, rfl, rfl, hfT1, hfT2, ?_, ?_, hstands⟩
  · rw [← hcount]
    rfl
  · exact (hcap i).trans (axleCap_open hactive ((havailable i).mpr hav))
  · exact (hcap i).trans (axleCap_shut (hnot.imp id fun h => Bool.eq_false_iff.mpr (mt (havailable i).mp h)))
  · rw [he, heffort]
    exact Nat.min_comm _ _
  · rw [he]
    rfl
  · rw [hp1, ← hservice, ← hlocked1]
    rfl
  · rw [hp2, ← hservice, ← hlocked2]
    rfl

/-! ## Limits (R71, R75, R79, R82, R83) -/

theorem axleEffort_le_cap (ts : Tables) (emergency : Bool) (old goal cap : Nat) :
    axleEffort ts emergency old goal cap ≤ cap := Nat.min_le_right _ _

/-- Toward a goal of 0 no effort rises. -/
theorem axleEffort_falls (ts : Tables) (emergency : Bool) (old cap : Nat) : axleEffort ts emergency old 0 cap ≤ old := by
  unfold axleEffort ramp
  split
  · simp
  · refine (Nat.min_le_left _ _).trans ?_
    omega

theorem waterFill_zero (caps : Six Nat) (i : Fin 6) : (waterFill caps 0).get i = 0 := by
  have hnone : waterFill caps 0 = Six.all 0 := if_pos (.inr rfl)
  rw [hnone, Six.get_all]

theorem truckFactor_le (s : State) (truck : Truck) : truckFactor s truck ≤ 1000 := by
  obtain ⟨h1, h2⟩ := truckFactor_eq s
  cases truck
  · rw [h1]
    exact Nat.min_le_left _ _
  · rw [h2]
    exact Nat.min_le_left _ _

/-- A share of at most 1000 per mille. -/
theorem permille_le {p factor : Nat} (h : factor ≤ 1000) : p * factor / 1000 ≤ p :=
  Nat.div_le_of_le_mul (by rw [Nat.mul_comm 1000 p]; exact Nat.mul_le_mul_left p h)

theorem servicePressure_le (ts : Tables) (pInd share : Nat) {factor : Nat} (h : factor ≤ 1000) :
    servicePressure ts pInd share factor ≤ bcMax ts := (permille_le h).trans (Nat.min_le_left _ _)

theorem emergencyPressure_le (s : State) (truck : Truck) : emergencyPressure s truck ≤ bcEmerg s.tables := by
  have hfactor := truckFactor_le s truck
  refine permille_le ?_
  split
  · exact hfactor
  · exact max_le hfactor (by decide)

theorem eq_all_zero {x : Six Nat} (h : ∀ i, x.get i = 0) : x = Six.all 0 := by
  cases x with
  | mk a1 a2 a3 a4 a5 a6 =>
    obtain rfl : a1 = 0 := h 0
    obtain rfl : a2 = 0 := h 1
    obtain rfl : a3 = 0 := h 2
    obtain rfl : a4 = 0 := h 3
    obtain rfl : a5 = 0 := h 4
    obtain rfl : a6 = 0 := h 5
    rfl

/-- Caps of 0 leave no effort. -/
theorem efforts_zero {s : State} (h : ∀ i, axleCap s (activeDemand s).direction i = 0) : (compute s).e = Six.all 0 := by
  refine eq_all_zero fun i => ?_
  have hle : (compute s).e.get i ≤ axleCap s (activeDemand s).direction i := by
    have heffort : (compute s).e.get i = axleEffort s.tables s.authority.latch (s.blend.e.get i)
        ((compute s).record.goals.get i) ((compute s).record.caps.get i) := Six.get_ofFn _ i
    rw [heffort]
    exact (axleEffort_le_cap _ _ _ _ _).trans (Six.get_ofFn _ i).le
  have := h i
  omega

/-- Settles O35. -/
theorem setpointsWithinLimits : Obligations.SetpointsWithinLimits := by
  unfold Obligations.SetpointsWithinLimits
  intro s hr hmode hdue _
  obtain ⟨t, hexec, ⟨-, he, hp1, hp2, hrecord⟩, -⟩ := blendPeriod_done hr hmode hdue
  have heffort : ∀ i, (compute s).e.get i = axleEffort s.tables s.authority.latch (s.blend.e.get i)
      ((compute s).record.goals.get i) ((compute s).record.caps.get i) := fun i => Six.get_ofFn _ i
  have hcap : ∀ i, (compute s).record.caps.get i = axleCap s (activeDemand s).direction i := fun i => Six.get_ofFn _ i
  have hle : ∀ i, (compute s).e.get i ≤ (compute s).record.caps.get i := fun i => by
    rw [heffort]
    exact axleEffort_le_cap _ _ _ _ _
  refine ⟨t, (compute s).record, hexec, hrecord, fun i => ?_, fun i hstate => ?_, fun hnot => ?_,
    fun hheat hloaded hhot => ?_, fun hlatch i => ?_, fun hpressures => ?_⟩
  · rw [he]
    exact hle i
  · have hshut : available s.slide.speedState (s.slide.axles.get i) = false := by
      refine Bool.eq_false_iff.mpr fun hav => ?_
      obtain ⟨-, hlocked, hfault, hisolated⟩ := (available_iff _ _).mp hav
      rcases hstate with h | h | h
      · exact hlocked h
      · exact hfault h
      · exact hisolated h
    have hzero := (hcap i).trans (axleCap_shut (.inr hshut))
    have := hle i
    rw [he]
    omega
  · rw [he]
    refine efforts_zero fun i => axleCap_shut (hnot.imp id fun h => ?_)
    exact Bool.eq_false_iff.mpr fun hav => h ((available_iff _ _).mp hav).1
  · have hg : s.brake.g = 0 := (hheat hloaded).trans (if_pos hhot)
    rw [he]
    refine efforts_zero fun i => ?_
    unfold axleCap
    rw [hg]
    dsimp only
    split
    · rw [Nat.mul_zero, Nat.zero_div]
    · rfl
  · have hgoal : (compute s).record.goals.get i = 0 := by
      have hzero : (compute s).record.goal = 0 := if_pos hlatch
      show (waterFill (compute s).record.caps (compute s).record.goal).get i = 0
      rw [hzero]
      exact waterFill_zero _ i
    rw [he, heffort, hgoal]
    exact axleEffort_falls _ _ _ _
  · have hboth : ∀ (truck : Truck) (share factor : Nat), factor ≤ 1000 →
        (if s.authority.latch then emergencyPressure s truck
          else servicePressure s.tables ((activeDemand s).independent.getD 0) share factor) ≤ bcMax s.tables := by
      intro truck share factor hfactor
      split
      · exact (emergencyPressure_le s truck).trans hpressures
      · exact servicePressure_le _ _ _ hfactor
    rw [hp1, hp2]
    exact ⟨hboth .t1 _ _ (truckFactor_le s .t1), hboth .t2 _ _ (truckFactor_le s .t2)⟩

end Sys2Proof.Machine
end

section
/-! PROOF. What a blend period hands over (O36): to the channel, to the E-port, to the Recorder and to the C-port. -/

namespace Sys2Proof.Machine

/-- The report's C-port, for a state whose link, divider and tables are those the period began with. -/
theorem reportStep_cPort {s u : State} (hlink : u.link.own = s.link.own) (hport : u.link.cPort = s.link.cPort)
    (hdivider : u.blend.divider = s.blend.divider) (htables : u.tables = s.tables) (c : Computed) :
    (reportStep s c u).link.cPort = if s.blend.divider + 1 < 5 ∨ reportNode s.tables = 0 then s.link.cPort
      else (handOver s .c ⟨BitVec.ofNat 8 (reportNode s.tables), Config.clsBrakeReport, reportPayload s c⟩).link.cPort := by
  unfold reportStep
  dsimp only
  rw [hdivider, htables]
  by_cases hcount : s.blend.divider + 1 < 5
  · rw [if_pos hcount, if_pos (.inl hcount)]
    exact hport
  · rw [if_neg hcount]
    by_cases hnode : reportNode s.tables = 0
    · rw [if_pos hnode, if_pos (.inr hnode)]
      exact hport
    · rw [if_neg hnode, if_neg (not_or.mpr ⟨hcount, hnode⟩), handOver_c, handOver_c]
      show noticedPort u.link.own u.link.cPort _ = noticedPort s.link.own s.link.cPort _
      rw [hlink, hport]

/-- Without a FILLING slot the Recorder alone takes a snapshot. -/
theorem takeSnapshot_idle {u : State} (h : fillingSlot u.recorder = none) (n : Snapshot) :
    takeSnapshot u n = { u with recorder := (takeSnapshot u n).recorder } := by
  by_cases hdiv : u.recorder.divider + 1 = recordDiv u.tables
  · rw [takeSnapshot_enters hdiv, appendToFilling_none (by exact h)]
  · rw [takeSnapshot_counts hdiv]

/-- What a due period hands over. -/
theorem blendPeriod_handed {s : State} (hr : s.inReset = false) (hmode : s.control.mode = .service)
    (hdue : ∃ e, s.blend.timer = .running e ∧ 20 ≤ e) : ∃ t, exec .blendPeriod s = .next t
      ∧ (t.blend.e = (compute s).e ∧ t.blend.p1 = (compute s).p1 ∧ t.blend.p2 = (compute s).p2
        ∧ t.blend.record = some (compute s).record)
      ∧ t.brake = handedBrake (compute s).record.fTarget (compute s).record.capabilitySum (compute s).e s.brake
      ∧ (t.link.ePort = (sendSetpoints s.authority.latch (periodState s)).link.ePort ∧ t.link.own = s.link.own
        ∧ t.link.nodes = s.link.nodes)
      ∧ t.recorder = (takeSnapshot s (formSnapshot s (compute s))).recorder
      ∧ t.blend.divider = (if s.blend.divider + 1 < 5 then s.blend.divider + 1 else 0)
      ∧ (fillingCount s.recorder = 0 → t.link.cPort = if s.blend.divider + 1 < 5 ∨ reportNode s.tables = 0 then
          s.link.cPort
        else (handOver s .c
          ⟨BitVec.ofNat 8 (reportNode s.tables), Config.clsBrakeReport, reportPayload s (compute s)⟩).link.cPort) := by
  have hcPort : fillingCount s.recorder = 0 → (blendPeriod s).link.cPort =
      if s.blend.divider + 1 < 5 ∨ reportNode s.tables = 0 then s.link.cPort
      else (handOver s .c
        ⟨BitVec.ofNat 8 (reportNode s.tables), Config.clsBrakeReport, reportPayload s (compute s)⟩).link.cPort := by
    intro hquiet
    have hsent := sendSetpoints_port s.authority.latch (periodState s)
    have hnone : fillingSlot (sendSetpoints s.authority.latch (periodState s)).recorder = none := by
      rw [hsent]
      exact fillingSlot_none_of (fillingCount_eq_zero.mp hquiet)
    have hdivider : (periodState s).blend.divider = s.blend.divider := by
      unfold periodState
      dsimp only
    have hlink : (periodState s).link = s.link := by
      unfold periodState
      dsimp only
    have htables : (periodState s).tables = s.tables := by
      unfold periodState
      dsimp only
    rw [blendPeriod_eq, takeSnapshot_idle hnone, hsent]
    generalize (takeSnapshot _ (formSnapshot s (compute s))).recorder = r
    generalize (sendSetpoints s.authority.latch (periodState s)).link.ePort = p
    have hown := congrArg Link.own hlink
    have hport := congrArg Link.cPort hlink
    generalize periodState s = u at hdivider hown hport htables ⊢
    refine reportStep_cPort ?_ ?_ ?_ ?_ _
    · exact hown
    · exact hport
    · exact hdivider
    · exact htables
  have hframe := blendPeriod_frame s
  have hexec := exec_blendPeriod_due hr hmode hdue
  generalize blendPeriod s = w at hframe hexec hcPort
  generalize sendSetpoints s.authority.latch (periodState s) = v at hframe ⊢
  generalize takeSnapshot s (formSnapshot s (compute s)) = x at hframe ⊢
  refine ⟨_, hexec, ?_, ?_, ?_, ?_, ?_, hcPort⟩
  all_goals rw [hframe]
  · exact ⟨rfl, rfl, rfl, rfl⟩
  · rfl
  · exact ⟨rfl, rfl, rfl⟩
  · rfl
  · rfl

/-! ## The setpoints (R82, R83) and the snapshot (R84) -/

theorem excitation_eq (b : Brake) : excitation b = decide (b.state = .setup ∨ b.state = .active) := by
  rw [Bool.decide_or]
  rfl

theorem dbSetpointPayload_eq (b : Brake) (e : Six Nat) : dbSetpointPayload (excitation b) e =
    BitVec.ofNat 8 (decide (b.state = .setup ∨ b.state = .active)).toNat
      :: six.map (fun i => BitVec.ofNat 8 (e.get i)) := by
  unfold dbSetpointPayload
  rw [mark_eq, excitation_eq]
  rfl

theorem bcSetpointPayload_eq (truck pressure : Nat) (emergency : Bool) : bcSetpointPayload truck pressure emergency =
    [BitVec.ofNat 8 truck, BitVec.ofNat 8 (pressure / 256), BitVec.ofNat 8 pressure,
      BitVec.ofNat 8 emergency.toNat] := by
  unfold bcSetpointPayload
  rw [mark_eq]
  rfl

theorem sixBytes_eq (f : Fin 6 → Nat) : six.flatMap (fun i => q1 (f i)) = six.map (fun i => BitVec.ofNat 8 (f i)) := rfl

/-- The report's bytes, in the order of chapter 11. -/
theorem reportPayload_eq (s : State) (c : Computed) : reportPayload s c = be 4 s.control.localMs.toNat
    ++ be 1 (activeCode s.authority.active) ++ be 1 (phaseCode s.authority.phase)
    ++ be 1 (s.authority.latch.toNat + 2 * s.brake.shortfall.toNat + 4 * s.slide.sandRequest.toNat)
    ++ [c.record.fTarget, c.record.goal, c.e.sum, s.brake.aLast, c.record.fBack, c.p1, c.p2,
      s.air.truck1.pressure, s.air.truck2.pressure, c.record.fT1, c.record.fT2, s.slide.vRef].flatMap (be 2)
    ++ be 1 (refSourceCode s.slide.refSource + 2 * speedStateCode s.slide.speedState)
    ++ be 1 (dbStateCode s.brake.state) ++ be 2 s.brake.g
    ++ six.map (fun i => BitVec.ofNat 8 (axleStateCode (s.slide.axles.get i).state))
    ++ six.map (fun i => BitVec.ofNat 8 (c.e.get i)) := by
  unfold reportPayload w4 q1 q2
  rw [← sixBytes_eq, ← sixBytes_eq, Six.flatMap_toList, Six.flatMap_toList]
  simp only [List.flatMap_cons, List.flatMap_nil, List.append_assoc, List.append_nil]
  rfl

/-- The fields of a snapshot with their widths; the saturation mark is set where one is larger than its field (R84). -/
theorem snapshotSaturates_eq (s : State) (c : Computed) (d : ActiveDemand) : snapshotSaturates s c d =
    ([(8, d.reduction.getD 0), (10, d.independent.getD 0), (8, d.handle), (8, c.record.fTarget), (8, c.record.goal),
        (8, c.record.fBack), (16, s.slide.vRef), (10, s.brake.g), (10, c.p1), (10, c.p2),
        (10, s.air.truck1.pressure), (10, s.air.truck2.pressure)]
      ++ six.flatMap (fun i => [(16, (s.slide.axles.get i).v), (10, (s.slide.axles.get i).f), (8, c.e.get i),
        (8, achievedEffort s i)])).any (fun x => decide (2 ^ x.1 ≤ x.2)) := by
  unfold snapshotSaturates overflows
  rw [List.any_append, List.any_flatMap]
  simp only [List.any_cons, List.any_nil, Bool.or_false, Bool.or_assoc]
  generalize six.any _ = axles
  ac_rfl

/-- Settles O36. -/
theorem blendPeriodHandsOver : Obligations.BlendPeriodHandsOver := by
  unfold Obligations.BlendPeriodHandsOver
  refine ⟨fun s hr hnot => ?_, fun s hr hmode hdue traction valve1 valve2 ht h1 h2 => ?_⟩
  · have hshut : ¬ blendDue s = true := by
      rw [blendDue_iff]
      rintro ⟨hmode, e, he, hlate⟩
      rcases hnot with h | h
      · exact h hmode
      · exact absurd (h e he) (Nat.not_lt_of_le hlate)
    exact (event_live s blendExpiry hr).trans (congrArg (fun u => Host.Outcome.next (syncOutputs u)) (if_neg hshut))
  · obtain ⟨t, hexec, ⟨he, hp1, hp2, hrecord⟩, hbrake, ⟨hePort, hown, hnodes⟩, hrecorder, hdivider, hcPort⟩ :=
      blendPeriod_handed hr hmode hdue
    refine ⟨t, (compute s).record, hexec, hrecord, fun h => ?_, fun h => ?_, fun h => ?_, fun h => ?_, ?_, ?_, hdivider, ?_⟩
    · rw [hbrake, handedBrake_off _ _ _ h]
    · rw [hbrake, handedBrake_setup _ _ _ h]
      rfl
    · rw [hbrake, handedBrake_active _ _ _ h, he]
      unfold idlePeriod
      simp only [Bool.and_eq_true, decide_eq_true_eq]
    · rw [hbrake, handedBrake_stands _ _ _ h]
    · intro byte excited bc sent
      refine ⟨?_, hown, hnodes⟩
      have hperiodBrake : (periodState s).brake = t.brake := hbrake.symm
      have hperiodE : (periodState s).blend.e = t.blend.e := he.symm
      have hperiod1 : (periodState s).blend.p1 = t.blend.p1 := hp1.symm
      have hperiod2 : (periodState s).blend.p2 = t.blend.p2 := hp2.symm
      rw [hePort, sendSetpoints_eq (s := periodState s) ht h1 h2, dbSetpointPayload_eq, bcSetpointPayload_eq,
        bcSetpointPayload_eq, hperiodBrake, hperiodE, hperiod1, hperiod2]
      exact (congrArg (fun u : State => u.link.ePort) (threeSetpoints_eq (s := periodState s) (t := s) rfl _ _ _)).trans rfl
    · intro d limit achieved axle fields snapshot
      have hsnapshot : formSnapshot s (compute s) = snapshot := by
        unfold formSnapshot
        dsimp only
        rw [snapshotSaturates_eq, ← he, ← hp1, ← hp2]
        rfl
      rw [hrecorder, hsnapshot]
    · intro b report
      have hreport : reportPayload s (compute s) = report := by
        rw [reportPayload_eq, ← he, ← hp1, ← hp2]
      refine ⟨?_, fun hquiet => ?_⟩
      · simp [report, six]
      · rw [hcPort hquiet, hreport]
        rfl

end Sys2Proof.Machine
end

section
/-! PROOF. A handled axle sample: what its reports give, and the state it leaves (R24). -/

namespace Sys2Proof.Machine

/-! ## The reports of a sample -/

/-- The flags that the axles' reports set. -/
def reportedFlags (rs : List (Option AxleReport)) : List Flag :=
  rs.flatMap (fun r => match r with
    | some .sensorFault => [.sensorFault]
    | some .locked => [.axleLocked]
    | none => [])

theorem sensorFault_mem_reportedFlags {rs : List (Option AxleReport)} :
    Flag.sensorFault ∈ reportedFlags rs ↔ some .sensorFault ∈ rs := by
  unfold reportedFlags
  rw [List.mem_flatMap]
  constructor
  · rintro ⟨r, hr, hf⟩
    rcases r with _ | _ | _
    · cases hf
    · exact hr
    · simp at hf
  · exact fun h => ⟨_, h, List.mem_singleton.mpr rfl⟩

theorem axleLocked_mem_reportedFlags {rs : List (Option AxleReport)} :
    Flag.axleLocked ∈ reportedFlags rs ↔ some .locked ∈ rs := by
  unfold reportedFlags
  rw [List.mem_flatMap]
  constructor
  · rintro ⟨r, hr, hf⟩
    rcases r with _ | _ | _
    · cases hf
    · simp at hf
    · exact hr
  · exact fun h => ⟨_, h, List.mem_singleton.mpr rfl⟩

theorem reportedFlags_sub (rs : List (Option AxleReport)) :
    ∀ f ∈ reportedFlags rs ++ [Flag.incidentLost], f ∈ [Flag.sensorFault, .axleLocked, .incidentLost] := by
  intro f hf
  rcases List.mem_append.mp hf with hf | hf
  · obtain ⟨r, _, hr⟩ := List.mem_flatMap.mp hf
    rcases r with _ | _ | _
    · cases hr
    · rw [List.mem_singleton.mp hr]
      simp
    · rw [List.mem_singleton.mp hr]
      simp
  · rw [List.mem_singleton.mp hf]
    simp

theorem reportAxle_moves (r : Option AxleReport) (s : State) :
    Moves (reportedFlags [r]) [.incidentLost] s (reportAxle s r) := by
  rcases r with _ | _ | _
  · exact (Moves.refl s).weaken (by simp)
  · exact (raise_moves .sensorFault s).weaken (by simp)
  · exact raise_trigger_moves .axleLocked .axleLocked s

theorem reports_moves (rs : List (Option AxleReport)) : ∀ s : State,
    Moves (reportedFlags rs) [.incidentLost] s (rs.foldl reportAxle s) := by
  induction rs with
  | nil => exact fun s => (Moves.refl s).weaken (by simp)
  | cons r rs ih =>
    intro s
    have hboth := (reportAxle_moves r s).trans (ih (reportAxle s r))
    have hlist : reportedFlags [r] ++ reportedFlags rs = reportedFlags (r :: rs) := by
      unfold reportedFlags
      rw [← List.flatMap_append]
      rfl
    rw [hlist] at hboth
    exact hboth.weaken (by simp)

/-- A trigger reads the demand frame of the authority, which no trigger and no flag moves. -/
theorem Moves.capture {must may : List Flag} {s t : State} (h : Moves must may s t) :
    demandCapture t = demandCapture s := by
  have hauthority : t.authority = s.authority := by
    rw [h.frame]
    rfl
  unfold demandCapture
  rw [hauthority]

/-- Two states stay alike for a trigger where both move and their recorders stay equal. -/
theorem SameForTrigger.moved {must may must' may' : List Flag} {s v s' v' : State} (h : SameForTrigger s v)
    (hs : Moves must may s s') (hv : Moves must' may' v v') (hrecorder : v'.recorder = s'.recorder) :
    SameForTrigger s' v' := by
  refine ⟨hrecorder, ?_, ?_, ?_⟩
  · rw [hv.mode, hs.mode, h.control]
  · rw [hv.tables, hs.tables, h.tables]
  · rw [hv.capture, hs.capture, h.capture]

/-- The Recorder after the reports: AXLE_LOCKED, once for each report of a locked axle. -/
theorem reports_recorder (rs : List (Option AxleReport)) : ∀ {s v : State}, SameForTrigger s v →
    (rs.foldl reportAxle v).recorder = ((rs.filter (fun r => decide (r = some .locked))).foldl
      (fun u _ => (deliverTrigger u .axleLocked none none).1) s).recorder := by
  induction rs with
  | nil => exact fun h => h.recorder
  | cons r rs ih =>
    intro s v hsame
    rcases r with _ | _ | _
    · exact ih hsame
    · exact ih (hsame.moved (Moves.refl s) (raise_moves .sensorFault v) ((raise_recorder v .sensorFault).trans hsame.recorder))
    · have hraised : SameForTrigger s (raise .axleLocked v) :=
        hsame.moved (Moves.refl s) (raise_moves .axleLocked v) ((raise_recorder v .axleLocked).trans hsame.recorder)
      exact ih (hraised.moved (deliverTrigger_moves s .axleLocked none none) (trigger_moves .axleLocked _)
        (hraised.deliverTrigger_eq .axleLocked none none))

/-! ## The state after a handled sample -/

/-- The readings of an AXLE_SAMPLE's payload. -/
def sampleReadings (p : List Byte) : Six AxleReading :=
  Six.ofFn (fun i => ⟨fieldAt p (2 * i.val) 2, bitAt p 12 i.val⟩)

/-- The transition and the report of axle `i` in a state whose speeds are measured (R34). -/
def axleMove (s : State) (i : Fin 6) : AxleRecord × Option AxleReport :=
  axleStep s.tables s.slide.vRef s.slide.t1 s.slide.t2 (braked s i) (s.slide.axles.get i).lastValid (s.slide.axles.get i)

/-- A state whose speeds are measured, with its axles moved and nothing reported yet. -/
def axlesMoved (s : State) : State :=
  { s with slide := { s.slide with axles := Six.ofFn (fun i => (axleMove s i).1) } }

theorem sampleTransitions_eq (s : State) : sampleTransitions s
    = (six.map (fun i => (axleMove s i).2)).foldl reportAxle (axlesMoved s) := by
  have hreports : (Six.ofFn (axleMove s)).toList.map Prod.snd = six.map (fun i => (axleMove s i).2) := rfl
  have haxles : (Six.ofFn (axleMove s)).map Prod.fst = Six.ofFn (fun i => (axleMove s i).1) := rfl
  unfold sampleTransitions axlesMoved
  dsimp only
  rw [← hreports, ← haxles]
  rfl

/-- The state of a handled sample before the transitions. -/
def sampleBegun (p : List Byte) (s : State) : State := evalStandstill (sampleMeasure (sampleReadings p) s)

theorem handleAxleSample_ignored {p : List Byte} {s : State}
    (h : p.length < 13 ∨ s.tables.axle.loaded = false ∨ s.tables.slide.loaded = false) : handleAxleSample p s = s := by
  unfold handleAxleSample readAxleSample
  rcases h with h | h | h
  · rw [if_pos h]
    split <;> rfl
  · rw [h]
    rfl
  · rw [h, Bool.and_false]
    rfl

theorem handleAxleSample_handled {p : List Byte} {s : State} (hlen : 13 ≤ p.length)
    (haxle : s.tables.axle.loaded = true) (hslide : s.tables.slide.loaded = true) :
    handleAxleSample p s = evalSand (sampleTransitions (sampleBegun p s)) := by
  unfold handleAxleSample readAxleSample
  rw [haxle, hslide, if_neg (not_lt.mpr hlen)]
  rfl

/-- What a handled sample does, stage by stage: the measurements, the transitions, their reports, and the sand
request. -/
structure SampleDone (p : List Byte) (s t : State) : Prop where
  frame : t = withTriggers { s with slide := t.slide, air := { s.air with standstill := t.air.standstill } } t
  slide : t.slide = (evalSand (axlesMoved (sampleBegun p s))).slide
  air : t.air = (sampleBegun p s).air
  flags : FlagsRaised (reportedFlags (six.map (fun i => (axleMove (sampleBegun p s) i).2))) [.incidentLost] s t
  recorder : t.recorder = ((six.filter (fun i => decide ((axleMove (sampleBegun p s) i).2 = some .locked))).foldl
    (fun u _ => (deliverTrigger u .axleLocked none none).1) s).recorder

/-- The fold of a step that does not look at its element counts the elements alone. -/
theorem foldl_map_ignore {α β σ : Type} (f : σ → σ) (g : α → β) (l : List α) : ∀ s : σ,
    (l.map g).foldl (fun u _ => f u) s = l.foldl (fun u _ => f u) s := by
  induction l with
  | nil => exact fun _ => rfl
  | cons _ _ ih => exact fun s => ih (f s)

theorem handleAxleSample_done {p : List Byte} {s : State} (hlen : 13 ≤ p.length)
    (haxle : s.tables.axle.loaded = true) (hslide : s.tables.slide.loaded = true) :
    SampleDone p s (syncOutputs (handleAxleSample p s)) := by
  rw [handleAxleSample_handled hlen haxle hslide, sampleTransitions_eq]
  have hmoves := (reports_moves (six.map (fun i => (axleMove (sampleBegun p s) i).2)) (axlesMoved (sampleBegun p s))).sanded
  have hrecorder := reports_recorder (six.map (fun i => (axleMove (sampleBegun p s) i).2))
    (s := s) (v := axlesMoved (sampleBegun p s)) ⟨rfl, rfl, rfl, rfl⟩
  rw [List.filter_map, foldl_map_ignore (fun u => (deliverTrigger u .axleLocked none none).1)] at hrecorder
  have hkept : ∀ u : State, (syncOutputs (evalSand u)).recorder = u.recorder := by
    intro u
    rw [evalSand_eq]
    rfl
  rw [← hkept] at hrecorder
  generalize (six.map (fun i => (axleMove (sampleBegun p s) i).2)).foldl reportAxle (axlesMoved (sampleBegun p s)) = w
    at hmoves hrecorder ⊢
  have hframe := syncOutputs_withTriggers hmoves.frame
  generalize hx : evalSand w = x at hmoves hframe hrecorder ⊢
  rw [evalSand_eq (axlesMoved (sampleBegun p s))] at hframe
  have hflags : FlagsRaised (reportedFlags (six.map (fun i => (axleMove (sampleBegun p s) i).2))) [.incidentLost] s x := by
    have h := hmoves.flags
    rw [evalSand_eq (axlesMoved (sampleBegun p s))] at h
    exact h
  generalize hy : syncOutputs x = y at hframe hrecorder ⊢
  refine ⟨?_, ?_, ?_, ?_, hrecorder⟩
  · rw [hframe]
    rfl
  · rw [hframe]
    rfl
  · rw [hframe]
    rfl
  · rw [← hy]
    exact hflags

theorem axleSample_done {p : List Byte} {s : State} (hr : s.inReset = false) (hlen : 13 ≤ p.length)
    (haxle : s.tables.axle.loaded = true) (hslide : s.tables.slide.loaded = true) :
    ∃ t, exec (.axleSample p) s = .next t ∧ SampleDone p s t :=
  ⟨_, event_live s (handleAxleSample p) hr, handleAxleSample_done hlen haxle hslide⟩

end Sys2Proof.Machine
end

section
/-! PROOF. What a handled axle sample measures (O21): interval, speeds, slips, reference speed, thresholds, standstill. -/

namespace Sys2Proof.Machine

/-! ## The fields of the state after a handled sample -/

section
variable {p : List Byte} {s t : State} (h : SampleDone p s t)
include h

/-- The transitions and the sand request leave the rest of the Slide Control Unit as it was measured. -/
theorem SampleDone.slide_eq : ∃ request timer, t.slide =
    { (sampleMeasure (sampleReadings p) s).slide with
      axles := Six.ofFn (fun i => (axleMove (sampleBegun p s) i).1), sandRequest := request, sandTimer := timer } := by
  obtain ⟨request, timer, hsand⟩ := evalSand_frame (axlesMoved (sampleBegun p s))
  refine ⟨request, timer, ?_⟩
  rw [h.slide, hsand]
  rfl

theorem SampleDone.axle (i : Fin 6) : t.slide.axles.get i = (axleMove (sampleBegun p s) i).1 := by
  obtain ⟨_, _, hslide⟩ := h.slide_eq
  rw [hslide]
  exact Six.get_ofFn _ i

theorem SampleDone.vRef : t.slide.vRef = (sampleMeasure (sampleReadings p) s).slide.vRef := by
  obtain ⟨_, _, hslide⟩ := h.slide_eq
  rw [hslide]

theorem SampleDone.t1 : t.slide.t1 = (sampleMeasure (sampleReadings p) s).slide.t1 := by
  obtain ⟨_, _, hslide⟩ := h.slide_eq
  rw [hslide]

theorem SampleDone.t2 : t.slide.t2 = (sampleMeasure (sampleReadings p) s).slide.t2 := by
  obtain ⟨_, _, hslide⟩ := h.slide_eq
  rw [hslide]

/-- An axle's measurements stand through its transition. -/
theorem SampleDone.measured (i : Fin 6) : (t.slide.axles.get i).measured =
    (measuredAxle (sampleInterval s) (s.slide.speedState = .lost) t.slide.vRef ((sampleReadings p).get i)
      (s.slide.axles.get i)).measured := by
  have haxle : (sampleBegun p s).slide.axles.get i = measuredAxle (sampleInterval s) (s.slide.speedState = .lost)
      t.slide.vRef ((sampleReadings p).get i) (s.slide.axles.get i) := by
    rw [h.vRef]
    exact sampleMeasure_axle _ _ i
  rw [h.axle, ← haxle]
  exact axleStep_measured _ _ _ _ _ _ _

end

/-! ## One axle's measurements (R26, R33) -/

theorem recoverAxle_measured (a : AxleRecord) : (recoverAxle a).measured = a.measured := by
  unfold recoverAxle
  split <;> rfl

/-- What the slip of R33 does to the measurements. -/
theorem withSlip_measured {a b : AxleRecord} (h : a.measured = b.measured) (vRef : Nat) :
    (withSlip vRef a).measured = (withSlip vRef b).measured := by
  simp only [AxleRecord.measured, Prod.mk.injEq] at h
  obtain ⟨hc, hv, hp, hd, hs, hl, hi⟩ := h
  unfold withSlip
  rw [hl]
  split <;> simp [AxleRecord.measured, hc, hv, hp, hd, hs, hl, hi]

/-- The recovery of the first sample after LOST moves nothing measured. -/
theorem measuredAxle_measured (dt : Option Nat) (lost : Bool) (vRef : Nat) (r : AxleReading) (a : AxleRecord) :
    (measuredAxle dt lost vRef r a).measured = (withSlip vRef (updateSpeed dt r a)).measured := by
  unfold measuredAxle
  split
  · exact withSlip_measured (recoverAxle_measured _) vRef
  · rfl

theorem sampleReadings_rate {p : List Byte} (hlen : 13 ≤ p.length) (i : Fin 6) : ((sampleReadings p).get i).rate
    = 256 * (p.getD (2 * i.val) 0).toNat + (p.getD (2 * i.val + 1) 0).toNat := by
  have hi : 2 * i.val + 1 < p.length := by omega
  unfold sampleReadings
  rw [Six.get_ofFn]
  exact fieldAt_two p _ hi

theorem sampleReadings_valid (p : List Byte) (i : Fin 6) :
    ((sampleReadings p).get i).valid = (p.getD 12 0).getLsbD i.val := by
  unfold sampleReadings
  rw [Six.get_ofFn]
  rfl

theorem sampleInterval_eq (s : State) : sampleInterval s = if s.slide.speedState = .valid then
      s.slide.prevArrival.map (fun p => min (max (s.control.localMs - p).toNat 5) 50)
    else none := by
  unfold sampleInterval
  cases s.slide.speedState <;> cases s.slide.prevArrival <;> rfl

section
variable {p : List Byte} {s t : State} (h : SampleDone p s t) (i : Fin 6)
include h

theorem SampleDone.valid_axle (hlen : 13 ≤ p.length) (hvalid : (p.getD 12 0).getLsbD i.val = true) :
    (t.slide.axles.get i).measured =
      ((s.slide.axles.get i).circumference,
        min ((256 * (p.getD (2 * i.val) 0).toNat + (p.getD (2 * i.val + 1) 0).toNat)
          * (s.slide.axles.get i).circumference.getD 0 * 36 / 100000) 20000,
        some (s.slide.axles.get i).v,
        (match sampleInterval s with
          | some d => if (s.slide.axles.get i).lastValid
            then (((s.slide.axles.get i).v : Int) - ((t.slide.axles.get i).v : Int)) * 1000 |>.tdiv d else 0
          | none => 0),
        t.slide.vRef - (t.slide.axles.get i).v, true, (s.slide.axles.get i).isolation) := by
  have hmeasured := h.measured i
  rw [measuredAxle_measured] at hmeasured
  have hread : ((sampleReadings p).get i).valid = true := (sampleReadings_valid p i).trans hvalid
  unfold withSlip updateSpeed axleSpeed at hmeasured
  rw [if_pos hread, if_pos rfl, sampleReadings_rate hlen] at hmeasured
  have hv : (t.slide.axles.get i).v = _ := congrArg (fun m => m.2.1) hmeasured
  rw [hmeasured, hv]
  rfl

theorem SampleDone.invalid_axle (hvalid : (p.getD 12 0).getLsbD i.val = false) :
    (t.slide.axles.get i).measured =
      ((s.slide.axles.get i).circumference, (s.slide.axles.get i).v, (s.slide.axles.get i).vPrev,
        (s.slide.axles.get i).decel, (s.slide.axles.get i).slip, false, (s.slide.axles.get i).isolation) := by
  have hmeasured := h.measured i
  rw [measuredAxle_measured] at hmeasured
  have hread : ¬ ((sampleReadings p).get i).valid = true := by
    rw [sampleReadings_valid, hvalid]
    exact Bool.false_ne_true
  unfold withSlip updateSpeed at hmeasured
  rw [if_neg hread, if_neg Bool.false_ne_true] at hmeasured
  exact hmeasured

end

/-! ## The reference speed (R31, R32) -/

/-- A radar reading that the sample may use: enabled, valid and at most 100 ms old (R31). -/
theorem radarUsable_eq (s : State) : radarUsable s = (s.slide.radar.filter (fun r =>
    tableField s.tables.slide 3 0 = 1 ∧ r.valid ∧ (s.control.localMs - r.arrival).toNat ≤ 100)).map (fun r => r.speed) := by
  unfold radarUsable
  cases s.slide.radar with
  | none => rfl
  | some r =>
    dsimp only [Option.filter_some]
    by_cases hfresh : tableField s.tables.slide 3 0 = 1 ∧ r.valid = true ∧ (s.control.localMs - r.arrival).toNat ≤ 100
    · rw [decide_eq_true hfresh, if_pos (rfl : true = true)]
      exact if_pos hfresh
    · rw [decide_eq_false hfresh, if_neg Bool.false_ne_true]
      exact if_neg hfresh

/-- The axles as the candidate of R32 reads them. -/
def readAxles (p : List Byte) (s : State) : Six AxleRecord :=
  Six.ofFn (fun i => if s.slide.speedState = .lost
    then recoverAxle (updateSpeed (sampleInterval s) ((sampleReadings p).get i) (s.slide.axles.get i))
    else updateSpeed (sampleInterval s) ((sampleReadings p).get i) (s.slide.axles.get i))

theorem sampleMeasure_vRef (p : List Byte) (s : State) : (sampleMeasure (sampleReadings p) s).slide.vRef =
    match radarUsable s with
    | some v => min v 20000
    | none => axleReference s.tables (sampleInterval s) (candidate (readAxles p s)) s.slide.vRef := by
  have haxles : readAxles p s = if s.slide.speedState = .lost
      then (Six.zipWith (updateSpeed (sampleInterval s)) (sampleReadings p) s.slide.axles).map recoverAxle
      else Six.zipWith (updateSpeed (sampleInterval s)) (sampleReadings p) s.slide.axles := by
    unfold readAxles
    split <;> rfl
  rw [haxles]
  rfl

/-- An axle counts for the candidate by its validity bit and its state, ROLLING after LOST (R30, R32). -/
theorem readAxle_counts (p : List Byte) (s : State) (i : Fin 6) :
    (((readAxles p s).get i).lastValid
      && (((readAxles p s).get i).state = .rolling || ((readAxles p s).get i).state = .suspect)) =
    ((p.getD 12 0).getLsbD i.val && (if s.slide.speedState = .lost then decide ((s.slide.axles.get i).state ≠ .isolated)
      else decide ((s.slide.axles.get i).state = .rolling ∨ (s.slide.axles.get i).state = .suspect))) := by
  have hvalid : (updateSpeed (sampleInterval s) ((sampleReadings p).get i) (s.slide.axles.get i)).lastValid
      = (p.getD 12 0).getLsbD i.val := by
    rw [← sampleReadings_valid]
    unfold updateSpeed
    cases ((sampleReadings p).get i).valid <;> rfl
  have hstate : (updateSpeed (sampleInterval s) ((sampleReadings p).get i) (s.slide.axles.get i)).state
      = (s.slide.axles.get i).state := by
    unfold updateSpeed
    split <;> rfl
  unfold readAxles
  rw [Six.get_ofFn]
  split
  · have hrecovered := congrArg (fun m => m.2.2.2.2.2.1) (recoverAxle_measured
      (updateSpeed (sampleInterval s) ((sampleReadings p).get i) (s.slide.axles.get i)))
    dsimp only [AxleRecord.measured] at hrecovered
    rw [hrecovered, hvalid]
    unfold recoverAxle
    rw [hstate]
    by_cases hisolated : (s.slide.axles.get i).state = .isolated
    · rw [if_pos hisolated, hstate, hisolated]
      simp
    · rw [if_neg hisolated]
      simp [endEpisode, hisolated]
  · rw [hvalid, hstate, Bool.decide_or]

theorem SampleDone.candidate_eq {p : List Byte} {s t : State} (h : SampleDone p s t) : candidate (readAxles p s) =
    ((six.filter (fun i => (p.getD 12 0).getLsbD i.val &&
        (if s.slide.speedState = .lost then decide ((s.slide.axles.get i).state ≠ .isolated)
        else decide ((s.slide.axles.get i).state = .rolling ∨ (s.slide.axles.get i).state = .suspect)))).map
      (fun i => (t.slide.axles.get i).v)).max? := by
  have hspeed : ∀ i, ((readAxles p s).get i).v = (t.slide.axles.get i).v := by
    intro i
    have hmeasured : (t.slide.axles.get i).v = _ := congrArg (fun m => m.2.1) (h.measured i)
    rw [hmeasured]
    show _ = (measuredAxle _ _ _ _ _).v
    rw [measuredAxle_speed]
    unfold readAxles
    rw [Six.get_ofFn]
    split
    · exact recoverAxle_speed _
    · rfl
  have hcounts : (fun a : AxleRecord => a.lastValid && (a.state = .rolling || a.state = .suspect)) ∘ (readAxles p s).get
      = _ := funext (readAxle_counts p s)
  unfold candidate
  rw [Six.toList_eq, List.filter_map, hcounts, List.map_map]
  exact congrArg List.max? (List.map_congr_left fun i _ => hspeed i)

/-- Settles O21. -/
theorem axleSampleMeasured : Obligations.AxleSampleMeasured := by
  intro payload s hr
  refine ⟨fun hignored => ?_, fun hlen haxle hslide => ?_⟩
  · have hexec := event_live s (handleAxleSample payload) hr
    rw [handleAxleSample_ignored hignored] at hexec
    exact hexec
  intro parameter rate valid interval
  have hinterval : interval = sampleInterval s := (sampleInterval_eq s).symm
  obtain ⟨t, hexec, h⟩ := axleSample_done hr hlen haxle hslide
  obtain ⟨_, _, hfields⟩ := h.slide_eq
  refine ⟨t, hexec, ?_, ?_, ?_, ?_, ?_, ?_, ?_, ?_, ?_, ?_, ?_, ?_, ?_, ?_, ?_⟩
  · rw [hfields]
    rfl
  · rw [hfields]
    rfl
  · rw [hfields]
    rfl
  · rw [hfields]
    rfl
  · intro i a b
    cases hvalid : valid i with
    | true =>
      have hall := h.valid_axle i hlen hvalid
      simp only [AxleRecord.measured, Prod.mk.injEq] at hall
      obtain ⟨hc, hv, hprev, hdecel, hslip, hlast, -⟩ := hall
      refine ⟨hc, ?_⟩
      rw [if_pos rfl, hinterval]
      exact ⟨hv, hprev, hdecel, hslip, hlast⟩
    | false =>
      have hall := h.invalid_axle i hvalid
      simp only [AxleRecord.measured, Prod.mk.injEq] at hall
      obtain ⟨hc, hv, hprev, hdecel, hslip, hlast, -⟩ := hall
      refine ⟨hc, ?_⟩
      rw [if_neg Bool.false_ne_true]
      exact ⟨hv, hprev, hdecel, hslip, hlast⟩
  · intro candidate fresh
    have hvRef := h.vRef.trans (sampleMeasure_vRef payload s)
    have hsource : t.slide.refSource = if (radarUsable s).isSome then .radar else .axles := by
      rw [hfields]
      rfl
    have husable : radarUsable s = fresh.map (fun r => r.speed) := radarUsable_eq s
    rw [husable] at hvRef hsource
    refine ⟨fun r hfresh => ?_, fun hnone => ?_⟩
    · rw [hfresh] at hvRef hsource
      exact ⟨hvRef, hsource⟩
    · rw [hnone] at hvRef hsource
      refine ⟨hsource, ?_⟩
      have hcandidate : Machine.candidate (readAxles payload s) = candidate := h.candidate_eq
      rw [hvRef, hinterval, ← hcandidate]
      rfl
  · rw [h.t1, h.vRef]
    rfl
  · rw [h.t2, h.vRef]
    rfl
  · have hstandstill : standstill (sampleMeasure (sampleReadings payload) s) = true ↔ t.slide.vRef = 0 := by
      rw [h.vRef]
      exact decide_eq_true_iff
    rw [h.air, ← if_congr hstandstill rfl rfl]
    rfl
  all_goals
    rw [h.frame]
    rfl

end Sys2Proof.Machine
end

section
/-! PROOF. One axle's transition at a handled sample (R30, R34 to R42): what `axleStep` does, case by case. -/

namespace Sys2Proof.Machine

/-- State, slide factor and slide count. -/
def AxleRecord.standing (a : AxleRecord) : AxleState × Nat × Nat := (a.state, a.f, a.slideCount)

theorem AxleRecord.standing_eq {b : AxleRecord} {x : AxleState × Nat × Nat} (h : b.standing = x) :
    b.state = x.1 ∧ b.f = x.2.1 ∧ b.slideCount = x.2.2 := by
  subst h
  exact ⟨rfl, rfl, rfl⟩

/-! ## The transitions of R35 to R38 and R41 -/

section
variable (ts : Tables) (t1 t2 : Nat) (isBraked : Bool) {c : AxleRecord}

theorem slideStep_rolling (h : c.state = .rolling) : (slideStep ts t1 t2 isBraked c).standing =
    if slideCondition ts t1 isBraked c then (.suspect, c.f, c.slideCount) else c.standing := by
  unfold slideStep
  rw [h]
  dsimp only
  split <;> rfl

theorem slideStep_suspect (h : c.state = .suspect) : (slideStep ts t1 t2 isBraked c).standing =
    if t2 < c.slip ∨ slideCondition ts t1 isBraked c ∧ confirmCount ts ≤ c.confirm + 1
      then (.relief, c.f - reliefStep ts, bump8 c.slideCount)
    else if slideCondition ts t1 isBraked c then c.standing
    else (.rolling, 1000, c.slideCount) := by
  unfold slideStep
  rw [h]
  dsimp only
  by_cases hslip : t2 < c.slip
  · rw [if_pos hslip, if_pos (.inl hslip)]
    rfl
  · rw [if_neg hslip]
    by_cases hslides : slideCondition ts t1 isBraked c = true
    · rw [if_pos hslides, if_pos hslides]
      by_cases hcount : confirmCount ts ≤ c.confirm + 1
      · rw [if_pos hcount, if_pos (.inr ⟨hslides, hcount⟩)]
        rfl
      · rw [if_neg hcount, if_neg (by tauto)]
        exact congrArg (fun x => (x, c.f, c.slideCount)) h.symm
    · rw [if_neg hslides, if_neg hslides, if_neg (by tauto)]
      rfl

theorem slideStep_relief (h : c.state = .relief) : (slideStep ts t1 t2 isBraked c).standing =
    if c.vPrev.getD 0 ≤ c.v ∧ c.slip < t2 then (.hold, c.f, c.slideCount)
    else (.relief, c.f - reliefStep ts, c.slideCount) := by
  unfold slideStep
  rw [h]
  dsimp only
  split <;> rfl

theorem slideStep_hold (h : c.state = .hold) : (slideStep ts t1 t2 isBraked c).standing =
    if t2 ≤ c.slip then (.relief, c.f - reliefStep ts, c.slideCount)
    else if c.slip < t1 then (.reapply, c.f, c.slideCount)
    else c.standing := by
  unfold slideStep
  rw [h]
  dsimp only
  split
  · rfl
  · split <;> rfl

theorem slideStep_reapply (h : c.state = .reapply) : (slideStep ts t1 t2 isBraked c).standing =
    if t2 ≤ c.slip then (.relief, c.f - reliefStep ts, bump8 c.slideCount)
    else if reapplied ts c = 1000 ∧ c.slip < t1 then (.rolling, 1000, c.slideCount)
    else (.reapply, reapplied ts c, c.slideCount) := by
  unfold slideStep
  rw [h]
  dsimp only
  split
  · rfl
  · split
    · rfl
    · rfl

theorem slideStep_locked (h : c.state = .locked) : (slideStep ts t1 t2 isBraked c).standing =
    if c.slip < t1 then (.reapply, c.f, c.slideCount) else c.standing := by
  unfold slideStep
  rw [h]
  dsimp only
  split <;> rfl

theorem inhibitedStep_rolling (h : c.state = .rolling) : inhibitedStep ts t1 c = c := by
  unfold inhibitedStep
  rw [h]

theorem inhibitedStep_suspect (h : c.state = .suspect) :
    (inhibitedStep ts t1 c).standing = (.rolling, 1000, c.slideCount) := by
  unfold inhibitedStep
  rw [h]
  rfl

theorem inhibitedStep_relieved (h : c.state = .relief ∨ c.state = .hold) :
    (inhibitedStep ts t1 c).standing = (.reapply, c.f, c.slideCount) := by
  unfold inhibitedStep
  rcases h with h | h <;> rw [h] <;> rfl

theorem inhibitedStep_reapply (h : c.state = .reapply) : (inhibitedStep ts t1 c).standing =
    if reapplied ts c = 1000 then (.rolling, 1000, c.slideCount) else (.reapply, reapplied ts c, c.slideCount) := by
  unfold inhibitedStep
  rw [h]
  dsimp only
  split
  · rfl
  · rfl

theorem inhibitedStep_locked (h : c.state = .locked) : (inhibitedStep ts t1 c).standing =
    if c.slip < t1 then (.reapply, c.f, c.slideCount) else c.standing := by
  unfold inhibitedStep
  rw [h]
  dsimp only
  split <;> rfl

end

/-! ## What every transition leaves -/

/-- The confirm counter after a transition from `x` to `y` (R35). -/
def confirmAfter (valid : Bool) (confirm : Nat) : AxleState → AxleState → Nat
  | .rolling, .suspect => 1
  | .suspect, .suspect => if valid then confirm + 1 else confirm
  | .suspect, _ => 0
  | .reapply, .rolling => 0
  | _, _ => confirm

/-- What a transition of R35 to R38 or R41, from `c` to `d`, does to the runtime fields. -/
structure SlideMove (c d : AxleRecord) : Prop where
  lockTimer : d.lockTimer = c.lockTimer
  faultCount : d.faultCount = c.faultCount
  fault : d.state = .sensorFault → c.state = .sensorFault
  locked : d.state = .locked → c.state = .locked
  episode : d.episode = if c.state = .rolling ∧ d.state = .suspect then .running 0
    else if c.state ≠ .rolling ∧ d.state = .rolling then .stopped else c.episode
  prolonged : d.prolonged = if c.state = .rolling ∧ d.state = .suspect ∨ c.state ≠ .rolling ∧ d.state = .rolling
    then false else c.prolonged
  stateTimer : d.stateTimer = if c.state = .locked ∧ d.state = .reapply then .stopped else c.stateTimer
  confirm : d.confirm = confirmAfter true c.confirm c.state d.state

theorem slideStep_move (ts : Tables) (t1 t2 : Nat) (isBraked : Bool) {c : AxleRecord} (hfault : c.state ≠ .sensorFault)
    (hisolated : c.state ≠ .isolated) : SlideMove c (slideStep ts t1 t2 isBraked c) := by
  unfold slideStep
  split
  next h => split <;> constructor <;> simp [h, beginEpisode, confirmAfter]
  next h =>
    split
    · constructor <;> simp [h, relieveCounted, relieve, confirmAfter]
    · split
      · split <;> constructor <;> simp [h, relieveCounted, relieve, confirmAfter]
      · constructor <;> simp [h, toRolling, endEpisode, confirmAfter]
  next h => split <;> constructor <;> simp [h, relieve, confirmAfter]
  next h =>
    split
    · constructor <;> simp [h, relieve, confirmAfter]
    · split <;> constructor <;> simp [h, confirmAfter]
  next h =>
    split
    · constructor <;> simp [h, relieveCounted, relieve, confirmAfter]
    · split <;> constructor <;> simp [h, toRolling, endEpisode, confirmAfter]
  next h => split <;> constructor <;> simp [h, confirmAfter]
  next h => exact absurd h hfault
  next h => exact absurd h hisolated

theorem inhibitedStep_move (ts : Tables) (t1 : Nat) {c : AxleRecord} (hfault : c.state ≠ .sensorFault)
    (hisolated : c.state ≠ .isolated) : SlideMove c (inhibitedStep ts t1 c) := by
  unfold inhibitedStep
  split
  next h => constructor <;> simp [h, confirmAfter]
  next h => constructor <;> simp [h, toRolling, endEpisode, confirmAfter]
  next h => constructor <;> simp [h, confirmAfter]
  next h => constructor <;> simp [h, confirmAfter]
  next h => split <;> constructor <;> simp [h, toRolling, endEpisode, confirmAfter]
  next h => split <;> constructor <;> simp [h, confirmAfter]
  next h => exact absurd h hfault
  next h => exact absurd h hisolated

/-! ## A whole transition -/

/-- The states in which the locked-axle test is made (R40). -/
def TestedState (x : AxleState) : Prop := x = .rolling ∨ x = .suspect ∨ x = .relief ∨ x = .hold ∨ x = .reapply

theorem lockTested_iff (a : AxleRecord) : lockTested a = true ↔ TestedState a.state := by
  unfold lockTested TestedState
  cases a.state <;> simp

/-- The locked-axle condition of R40 has held for LOCK_MS. -/
def LockReached (ts : Tables) (vRef : Nat) (a : AxleRecord) : Prop :=
  a.v < lockV ts ∧ lockRef ts < vRef ∧ ∃ e, a.lockTimer = .running e ∧ lockMs ts ≤ e

/-- An axle after the lock timer's share of a valid sample. -/
def lockTimed (ts : Tables) (vRef : Nat) (a : AxleRecord) : AxleRecord := lockTimerStep ts vRef { a with faultCount := 0 }

theorem lockTimed_eq (ts : Tables) (vRef : Nat) (a : AxleRecord) : lockTimed ts vRef a =
    { a with
      faultCount := 0
      lockTimer := if lockTested a then
          (if a.v < lockV ts ∧ lockRef ts < vRef then a.lockTimer.startIfStopped else .stopped)
        else a.lockTimer } := by
  have htested : lockTested { a with faultCount := 0 } = lockTested a := rfl
  unfold lockTimed lockTimerStep
  rw [htested]
  cases lockTested a
  · rfl
  · rw [if_neg (show ¬ (!true) = true from Bool.false_ne_true), if_pos (rfl : true = true)]
    by_cases hslow : a.v < lockV ts ∧ lockRef ts < vRef
    · rw [if_pos hslow, if_pos hslow]
    · rw [if_neg hslow, if_neg hslow]

theorem lockTimed_reached {ts : Tables} {vRef : Nat} {a : AxleRecord} (hms : 0 < lockMs ts) :
    (lockTested (lockTimed ts vRef a) && (lockTimed ts vRef a).lockTimer.reached (lockMs ts)) = true ↔
      TestedState a.state ∧ LockReached ts vRef a := by
  have hstate : lockTested (lockTimed ts vRef a) = lockTested a := by
    rw [lockTimed_eq]
    rfl
  rw [Bool.and_eq_true, hstate, lockTested_iff]
  refine and_congr_right fun htested => ?_
  rw [Timer.reached_iff, lockTimed_eq, if_pos ((lockTested_iff a).mpr htested)]
  unfold LockReached
  by_cases hslow : a.v < lockV ts ∧ lockRef ts < vRef
  · rw [if_pos hslow]
    cases a.lockTimer with
    | stopped =>
      simp only [Timer.startIfStopped, Timer.running.injEq]
      constructor
      · rintro ⟨n, rfl, hn⟩
        omega
      · rintro ⟨-, -, e, he, -⟩
        cases he
    | running e => simp [Timer.startIfStopped, hslow.1, hslow.2]
    | expired =>
      simp only [Timer.startIfStopped, Timer.running.injEq]
      constructor
      · rintro ⟨n, rfl, hn⟩
        omega
      · rintro ⟨-, -, e, he, -⟩
        cases he
  · rw [if_neg hslow]
    constructor
    · rintro ⟨n, hn, -⟩
      cases hn
    · rintro ⟨hv, href, -⟩
      exact absurd ⟨hv, href⟩ hslow

section
variable (ts : Tables) (vRef t1 t2 : Nat) (isBraked : Bool) {a : AxleRecord}

theorem axleStep_isolated (valid : Bool) (h : a.state = .isolated) :
    axleStep ts vRef t1 t2 isBraked valid a = (a, none) := by
  unfold axleStep
  rw [h]

theorem axleStep_fault (valid : Bool) (h : a.state = .sensorFault) : axleStep ts vRef t1 t2 isBraked valid a =
    (if valid = true then
      if 10 ≤ a.faultCount + 1 then endEpisode { a with state := .rolling, f := 1000, faultCount := 0 }
      else { a with faultCount := a.faultCount + 1 }
    else { a with faultCount := 0 }, none) := by
  unfold axleStep
  rw [h]
  dsimp only
  split
  · split <;> rfl
  · rfl

variable (hfault : a.state ≠ .sensorFault) (hisolated : a.state ≠ .isolated)
include hfault hisolated

theorem axleStep_invalid : axleStep ts vRef t1 t2 isBraked false a =
    if 3 ≤ a.faultCount + 1 then (toSensorFault a, some .sensorFault)
    else ({ a with faultCount := a.faultCount + 1 }, none) := by
  unfold axleStep
  split
  next h => exact absurd h hisolated
  next h => exact absurd h hfault
  next => rfl

theorem axleStep_valid : axleStep ts vRef t1 t2 isBraked true a =
    if lockTested (lockTimed ts vRef a) && (lockTimed ts vRef a).lockTimer.reached (lockMs ts) then
      (toLocked (lockTimed ts vRef a), some .locked)
    else if vRef < vInhibit ts then (inhibitedStep ts t1 (lockTimed ts vRef a), none)
    else (slideStep ts t1 t2 isBraked (lockTimed ts vRef a), none) := by
  unfold axleStep
  split
  next h => exact absurd h hisolated
  next h => exact absurd h hfault
  next => rfl

end

end Sys2Proof.Machine
end

section
/-! PROOF. Each axle's state, slide factor, counters, timers and episode after a handled sample (O22). -/

namespace Sys2Proof.Machine

/-! ## The runtime fields -/

/-- An axle enters SENSOR_FAULT. -/
abbrev Faults (a b : AxleRecord) : Prop := b.state = .sensorFault ∧ a.state ≠ .sensorFault

/-- An axle enters LOCKED. -/
abbrev Locks (a b : AxleRecord) : Prop := b.state = .locked ∧ a.state ≠ .locked

/-- An episode begins (R39). -/
abbrev Begins (a b : AxleRecord) : Prop := a.state = .rolling ∧ (b.state = .suspect ∨ b.state = .locked)

/-- An episode ends (R39). -/
abbrev Ends (a b : AxleRecord) : Prop := a.state ≠ .rolling ∧ b.state = .rolling ∨ Faults a b

/-- The fault-sample counter after a sample (R42). -/
def faultCountAfter (valid : Bool) (count : Nat) : AxleState → Nat
  | .isolated => count
  | .sensorFault => if valid = true ∧ count + 1 < 10 then count + 1 else 0
  | _ => if ¬ valid = true ∧ count + 1 < 3 then count + 1 else 0

/-- What the transition of an axle from `a` to `b` does to its runtime fields, and what it reports. -/
structure AxleRuntime (ts : Tables) (vRef : Nat) (valid : Bool) (a b : AxleRecord) (r : Option AxleReport) : Prop where
  lockTimer : b.lockTimer = if Faults a b ∨ Locks a b then .stopped
    else if valid = true ∧ (a.state = .rolling ∨ a.state = .suspect ∨ a.state = .relief ∨ a.state = .hold ∨ a.state = .reapply)
      then (if a.v < lockV ts ∧ lockRef ts < vRef then a.lockTimer.startIfStopped else .stopped)
    else a.lockTimer
  faultCount : b.faultCount = faultCountAfter valid a.faultCount a.state
  episode : b.episode = if Begins a b then .running 0 else if Ends a b then .stopped else a.episode
  prolonged : b.prolonged = if Begins a b ∨ Ends a b then false else a.prolonged
  stateTimer : b.stateTimer = if Locks a b then .running 0
    else if Faults a b ∨ a.state = .locked ∧ b.state = .reapply then .stopped else a.stateTimer
  confirm : b.confirm = if Faults a b ∨ Locks a b then 0 else confirmAfter valid a.confirm a.state b.state
  locked : r = some .locked ↔ Locks a b
  fault : r = some .sensorFault ↔ Faults a b

section
variable {ts : Tables} {vRef : Nat} {a : AxleRecord}

theorem isolated_runtime (valid : Bool) (h : a.state = .isolated) : AxleRuntime ts vRef valid a a none := by
  constructor <;> simp [Faults, Locks, Begins, Ends, h, faultCountAfter, confirmAfter]

theorem fault_runtime (valid : Bool) (h : a.state = .sensorFault) : AxleRuntime ts vRef valid a
    (if valid = true then
      if 10 ≤ a.faultCount + 1 then endEpisode { a with state := .rolling, f := 1000, faultCount := 0 }
      else { a with faultCount := a.faultCount + 1 }
    else { a with faultCount := 0 }) none := by
  split
  next hvalid =>
    split
    next hcount =>
      constructor <;> simp [Faults, Locks, Begins, Ends, h, hvalid, endEpisode, faultCountAfter, confirmAfter]
      omega
    next hcount =>
      constructor <;> simp [Faults, Locks, Begins, Ends, h, hvalid, faultCountAfter, confirmAfter]
      omega
  next hvalid => constructor <;> simp [Faults, Locks, Begins, Ends, h, hvalid, faultCountAfter, confirmAfter]

variable (hfault : a.state ≠ .sensorFault) (hisolated : a.state ≠ .isolated)
include hfault hisolated

theorem faultCountAfter_counted (valid : Bool) (n : Nat) :
    faultCountAfter valid n a.state = if ¬ valid = true ∧ n + 1 < 3 then n + 1 else 0 := by
  unfold faultCountAfter
  split
  next h => exact absurd h hisolated
  next h => exact absurd h hfault
  next => rfl

theorem invalid_runtime : AxleRuntime ts vRef false a
    (if 3 ≤ a.faultCount + 1 then (toSensorFault a, some AxleReport.sensorFault)
      else ({ a with faultCount := a.faultCount + 1 }, none)).1
    (if 3 ≤ a.faultCount + 1 then (toSensorFault a, some AxleReport.sensorFault)
      else ({ a with faultCount := a.faultCount + 1 }, none)).2 := by
  have hsame : confirmAfter false a.confirm a.state a.state = a.confirm := by
    cases a.state <;> rfl
  have hcounted := faultCountAfter_counted hfault hisolated false a.faultCount
  split
  next hcount =>
    rw [if_neg (by omega)] at hcounted
    constructor <;> simp [Faults, Locks, Begins, Ends, hfault, hcounted, toSensorFault, endEpisode]
  next hcount =>
    rw [if_pos ⟨Bool.false_ne_true, by omega⟩] at hcounted
    constructor <;> simp +contextual [Faults, Locks, Begins, Ends, hfault, hsame, hcounted]
    intro _
    by_cases hroll : a.state = .rolling
    · simp [hroll]
    · exact .inl hroll

theorem locked_runtime (htested : TestedState a.state) :
    AxleRuntime ts vRef true a (toLocked (lockTimed ts vRef a)) (some .locked) := by
  have hcounted := faultCountAfter_counted hfault hisolated true a.faultCount
  rw [if_neg (by simp)] at hcounted
  have hlocked : a.state ≠ .locked := by
    rintro h
    simp [TestedState, h] at htested
  rw [lockTimed_eq]
  unfold toLocked
  dsimp only
  split
  next h => constructor <;> simp [Faults, Locks, Begins, Ends, h, faultCountAfter, beginEpisode]
  next h => constructor <;> simp [Faults, Locks, Begins, Ends, h, hlocked, hcounted]

theorem moved_runtime {d : AxleRecord} (h : SlideMove (lockTimed ts vRef a) d) : AxleRuntime ts vRef true a d none := by
  obtain ⟨hlock, hcount, hnofault, hnolock, hepisode, hprolonged, htimer, hconfirm⟩ := h
  have hcounted := faultCountAfter_counted hfault hisolated true a.faultCount
  rw [if_neg (by simp)] at hcounted
  rw [lockTimed_eq] at hlock hcount hnofault hnolock hepisode hprolonged htimer hconfirm
  dsimp only at hlock hcount hnofault hnolock hepisode hprolonged htimer hconfirm
  have hfaults : ¬ Faults a d := fun h => h.2 (hnofault h.1)
  have hlocks : ¬ Locks a d := fun h => h.2 (hnolock h.1)
  have hbegins : Begins a d ↔ a.state = .rolling ∧ d.state = .suspect := by
    constructor
    · rintro ⟨hroll, hs | hl⟩
      · exact ⟨hroll, hs⟩
      · exact absurd ((hnolock hl).symm.trans hroll) (by decide)
    · exact fun ⟨hroll, hs⟩ => ⟨hroll, .inl hs⟩
  have hends : Ends a d ↔ a.state ≠ .rolling ∧ d.state = .rolling := ⟨fun h => h.resolve_right hfaults, .inl⟩
  have htested : (lockTested a = true) = (true = true ∧ TestedState a.state) := by
    rw [lockTested_iff, eq_self_iff_true, true_and]
  refine ⟨?_, hcount.trans hcounted.symm, ?_, ?_, ?_, ?_, ?_, ?_⟩
  · rw [if_neg (not_or.mpr ⟨hfaults, hlocks⟩), hlock]
    exact if_congr htested.to_iff rfl rfl
  · rw [hepisode, if_congr hbegins rfl rfl, if_congr hends rfl rfl]
  · rw [hprolonged, if_congr (or_congr hbegins hends) rfl rfl]
  · rw [htimer, if_neg hlocks, if_congr (or_iff_right hfaults) rfl rfl]
  · rw [hconfirm, if_neg (not_or.mpr ⟨hfaults, hlocks⟩)]
  · simp [hlocks]
  · simp [hfaults]

end

theorem lockTimed_state (ts : Tables) (vRef : Nat) (a : AxleRecord) : (lockTimed ts vRef a).state = a.state := by
  rw [lockTimed_eq]

theorem axleStep_runtime (ts : Tables) (vRef t1 t2 : Nat) (isBraked valid : Bool) (a : AxleRecord) (hms : 0 < lockMs ts) :
    AxleRuntime ts vRef valid a (axleStep ts vRef t1 t2 isBraked valid a).1
      (axleStep ts vRef t1 t2 isBraked valid a).2 := by
  by_cases hisolated : a.state = .isolated
  · rw [axleStep_isolated ts vRef t1 t2 isBraked valid hisolated]
    exact isolated_runtime valid hisolated
  by_cases hfault : a.state = .sensorFault
  · rw [axleStep_fault ts vRef t1 t2 isBraked valid hfault]
    exact fault_runtime valid hfault
  cases valid with
  | false =>
    rw [axleStep_invalid ts vRef t1 t2 isBraked hfault hisolated]
    exact invalid_runtime hfault hisolated
  | true =>
    rw [axleStep_valid ts vRef t1 t2 isBraked hfault hisolated]
    have hstate := lockTimed_state ts vRef a
    split
    next hlocks => exact locked_runtime hfault hisolated ((lockTimed_reached hms).mp hlocks).1
    · split
      · exact moved_runtime hfault hisolated (inhibitedStep_move ts t1 (hstate ▸ hfault) (hstate ▸ hisolated))
      · exact moved_runtime hfault hisolated (slideStep_move ts t1 t2 isBraked (hstate ▸ hfault) (hstate ▸ hisolated))

end Sys2Proof.Machine
end

section
/-! PROOF. Each axle after a handled sample (O22): the transition of R34 to R42, with the reports of the sample. -/

namespace Sys2Proof.Machine

/-! ## What a valid sample leaves of state and factor -/

section
variable {ts : Tables} {vRef : Nat} (t1 t2 : Nat) (isBraked : Bool) {a : AxleRecord} (hms : 0 < lockMs ts)
include hms

theorem axleStep_locked (htested : TestedState a.state) (hlocks : LockReached ts vRef a) :
    (axleStep ts vRef t1 t2 isBraked true a).1.standing = (.locked, 0, a.slideCount) := by
  have hfault : a.state ≠ .sensorFault := by
    rintro h
    simp [TestedState, h] at htested
  have hisolated : a.state ≠ .isolated := by
    rintro h
    simp [TestedState, h] at htested
  rw [axleStep_valid ts vRef t1 t2 isBraked hfault hisolated, if_pos ((lockTimed_reached hms).mpr ⟨htested, hlocks⟩),
    lockTimed_eq]
  unfold toLocked
  dsimp only
  split <;> rfl

/-- Without the locked-axle test's outcome, the transitions of R35 to R38 and R41 decide, on the axle with its lock
timer moved. -/
theorem axleStep_moved (hfault : a.state ≠ .sensorFault) (hisolated : a.state ≠ .isolated)
    (hlocks : ¬ (TestedState a.state ∧ LockReached ts vRef a)) : ∃ timer,
    (axleStep ts vRef t1 t2 isBraked true a).1.standing = if vRef < vInhibit ts
      then (inhibitedStep ts t1 { a with faultCount := 0, lockTimer := timer }).standing
      else (slideStep ts t1 t2 isBraked { a with faultCount := 0, lockTimer := timer }).standing := by
  obtain ⟨timer, htimed⟩ : ∃ timer, lockTimed ts vRef a = { a with faultCount := 0, lockTimer := timer } :=
    ⟨_, lockTimed_eq ts vRef a⟩
  rw [axleStep_valid ts vRef t1 t2 isBraked hfault hisolated, if_neg ((lockTimed_reached hms).not.mpr hlocks), htimed]
  refine ⟨timer, ?_⟩
  split <;> rfl

end

/-! ## The axles of a sample -/

/-- An axle as the first sample after LOST finds it (R30). -/
def recoveredAxle (s : State) (i : Fin 6) : AxleRecord :=
  if s.slide.speedState = .lost ∧ (s.slide.axles.get i).state ≠ .isolated then
    { s.slide.axles.get i with
      state := .rolling, f := 1000, confirm := 0, faultCount := 0, lockTimer := .stopped
      stateTimer := .stopped, episode := .stopped, prolonged := false }
  else s.slide.axles.get i

/-- Axle `a` with the measurements of `b`. -/
def measuredLike (a b : AxleRecord) : AxleRecord :=
  { a with v := b.v, vPrev := b.vPrev, decel := b.decel, slip := b.slip, lastValid := b.lastValid }

/-- The measurements and the recovery are all that a sample does before the transitions. -/
theorem measuredAxle_recovered (s : State) (dt : Option Nat) (vRef : Nat) (r : AxleReading) (i : Fin 6) :
    measuredAxle dt (s.slide.speedState = .lost) vRef r (s.slide.axles.get i) = measuredLike (recoveredAxle s i)
      (measuredAxle dt (s.slide.speedState = .lost) vRef r (s.slide.axles.get i)) := by
  have hstate : (updateSpeed dt r (s.slide.axles.get i)).state = (s.slide.axles.get i).state := by
    unfold updateSpeed
    split <;> rfl
  unfold measuredAxle recoveredAxle recoverAxle
  rw [hstate]
  by_cases hlost : s.slide.speedState = .lost
  · by_cases hisolated : (s.slide.axles.get i).state = .isolated
    · simp only [hisolated, ne_eq, not_true_eq_false, and_false, if_true, if_false, ite_self]
      unfold withSlip updateSpeed
      cases r.valid
      · rfl
      · rfl
    · simp only [hlost, hisolated, ne_eq, not_false_eq_true, and_self, decide_true, if_true, if_false]
      unfold withSlip updateSpeed
      cases r.valid
      · rfl
      · rfl
  · simp only [hlost, false_and, decide_false, if_false, Bool.false_eq_true]
    unfold withSlip updateSpeed
    cases r.valid
    · rfl
    · rfl

section
variable {p : List Byte} {s t : State} (h : SampleDone p s t)
include h

theorem SampleDone.axle_step (i : Fin 6) : axleMove (sampleBegun p s) i =
    axleStep s.tables t.slide.vRef t.slide.t1 t.slide.t2 (braked s i) ((p.getD 12 0).getLsbD i.val)
      (measuredLike (recoveredAxle s i) (t.slide.axles.get i)) := by
  have hmeasured := h.measured i
  have haxle : (sampleBegun p s).slide.axles.get i = measuredAxle (sampleInterval s) (s.slide.speedState = .lost)
      t.slide.vRef ((sampleReadings p).get i) (s.slide.axles.get i) := by
    rw [h.vRef]
    exact sampleMeasure_axle _ _ i
  have hrecovered := measuredAxle_recovered s (sampleInterval s) t.slide.vRef ((sampleReadings p).get i) i
  rw [← haxle] at hmeasured hrecovered
  have hlike : measuredLike (recoveredAxle s i) (t.slide.axles.get i) = (sampleBegun p s).slide.axles.get i := by
    rw [hrecovered]
    simp only [AxleRecord.measured, Prod.mk.injEq] at hmeasured
    obtain ⟨-, hv, hprev, hdecel, hslip, hlast, -⟩ := hmeasured
    unfold measuredLike
    rw [hv, hprev, hdecel, hslip, hlast]
  have hlast : ((sampleBegun p s).slide.axles.get i).lastValid = (p.getD 12 0).getLsbD i.val := by
    have hm := congrArg (fun m => m.2.2.2.2.2.1) hmeasured
    cases hvalid : (p.getD 12 0).getLsbD i.val with
    | false => exact hm.symm.trans (congrArg (fun m => m.2.2.2.2.2.1) (h.invalid_axle i hvalid))
    | true =>
      refine hm.symm.trans ?_
      have hread := (sampleReadings_valid p i).trans hvalid
      have hall := h.measured i
      rw [measuredAxle_measured] at hall
      unfold withSlip updateSpeed at hall
      rw [if_pos hread, if_pos rfl] at hall
      exact congrArg (fun m => m.2.2.2.2.2.1) hall
  rw [hlike, ← hlast, h.vRef, h.t1, h.t2]
  rfl

theorem SampleDone.runtime (hms : 0 < lockMs s.tables) (i : Fin 6) : AxleRuntime s.tables t.slide.vRef
    ((p.getD 12 0).getLsbD i.val) (measuredLike (recoveredAxle s i) (t.slide.axles.get i)) (t.slide.axles.get i)
    (axleMove (sampleBegun p s) i).2 := by
  have hrun := axleStep_runtime s.tables t.slide.vRef t.slide.t1 t.slide.t2 (braked s i) ((p.getD 12 0).getLsbD i.val)
    (measuredLike (recoveredAxle s i) (t.slide.axles.get i)) hms
  rw [← h.axle_step i, ← h.axle i] at hrun
  exact hrun

theorem SampleDone.standing (i : Fin 6) : (t.slide.axles.get i).standing =
    (axleStep s.tables t.slide.vRef t.slide.t1 t.slide.t2 (braked s i) ((p.getD 12 0).getLsbD i.val)
      (measuredLike (recoveredAxle s i) (t.slide.axles.get i))).1.standing := by
  rw [← h.axle_step i, ← h.axle i]

theorem SampleDone.isolation (i : Fin 6) : (t.slide.axles.get i).isolation = (recoveredAxle s i).isolation := by
  have hmeasured := axleStep_measured s.tables t.slide.vRef t.slide.t1 t.slide.t2 (braked s i)
    ((p.getD 12 0).getLsbD i.val) (measuredLike (recoveredAxle s i) (t.slide.axles.get i))
  rw [← h.axle_step i, ← h.axle i] at hmeasured
  exact congrArg (fun m => m.2.2.2.2.2.2) hmeasured

theorem SampleDone.locked_flag {i : Fin 6} (hi : (axleMove (sampleBegun p s) i).2 = some .locked) :
    flagSet t .axleLocked = true :=
  (h.flags .axleLocked).1 (.inr (axleLocked_mem_reportedFlags.mpr (List.mem_map.mpr ⟨i, mem_six i, hi⟩)))

theorem SampleDone.fault_flag {i : Fin 6} (hi : (axleMove (sampleBegun p s) i).2 = some .sensorFault) :
    flagSet t .sensorFault = true :=
  (h.flags .sensorFault).1 (.inr (sensorFault_mem_reportedFlags.mpr (List.mem_map.mpr ⟨i, mem_six i, hi⟩)))

/-- A flag of the axles' reports that no axle reports stands. -/
theorem SampleDone.flag_stands {f : Flag} (hf : f ≠ .incidentLost)
    (hnot : f ∉ reportedFlags (six.map (fun i => (axleMove (sampleBegun p s) i).2))) : flagSet t f = flagSet s f := by
  obtain ⟨hup, hdown⟩ := h.flags f
  refine Bool.eq_iff_iff.mpr ⟨fun ht => ?_, fun hs => hup (.inl hs)⟩
  rcases hdown ht with hs | hs | hs
  · exact hs
  · exact absurd hs hnot
  · exact absurd (List.mem_singleton.mp hs) hf

/-- The sand request is evaluated on the moved axles (R46). -/
theorem SampleDone.sanded : (evalSand { t with slide := { t.slide with
      sandRequest := s.slide.sandRequest, sandTimer := s.slide.sandTimer } }).slide = t.slide := by
  obtain ⟨request, timer, hsand⟩ := evalSand_frame (axlesMoved (sampleBegun p s))
  rw [h.slide]
  have hbefore : ({ (evalSand (axlesMoved (sampleBegun p s))).slide with
      sandRequest := s.slide.sandRequest, sandTimer := s.slide.sandTimer } : Slide) = (axlesMoved (sampleBegun p s)).slide := by
    rw [hsand]
    rfl
  rw [hbefore]
  have htables : t.tables = s.tables := by rw [h.frame]; rfl
  have hauthority : t.authority = s.authority := by rw [h.frame]; rfl
  have hinputs : t.lines.inputs = s.lines.inputs := by rw [h.frame]; rfl
  exact evalSand_slide_congr rfl htables hauthority hinputs

end

end Sys2Proof.Machine
end

section
/-! PROOF. The state machine of the axles at a handled sample (O22), clause by clause. -/

namespace Sys2Proof.Machine

theorem braked_iff (s : State) (i : Fin 6) : braked s i = true ↔
    0 < s.blend.e.get i ∨ 0 < (if i.val < 3 then s.blend.p1 else s.blend.p2) := by
  have htruck : truckPressure s (axleTruck i) = if i.val < 3 then s.blend.p1 else s.blend.p2 := by
    unfold axleTruck
    split <;> rfl
  unfold braked
  rw [htruck, Bool.or_eq_true, decide_eq_true_iff, decide_eq_true_iff]

/-- The slide condition of R35. -/
theorem slideCondition_iff (ts : Tables) (t1 : Nat) (isBraked : Bool) (c : AxleRecord) :
    slideCondition ts t1 isBraked c = true ↔ isBraked = true ∧ (t1 < c.slip ∨ (decel1 ts : Int) < c.decel) := by
  unfold slideCondition
  rw [Bool.and_eq_true, Bool.or_eq_true, decide_eq_true_iff, decide_eq_true_iff]

/-- The previous speed of R36, at a valid reading. -/
theorem SampleDone.previous {p : List Byte} {s t : State} (h : SampleDone p s t) (hlen : 13 ≤ p.length) {i : Fin 6}
    (hvalid : (p.getD 12 0).getLsbD i.val = true) : (t.slide.axles.get i).vPrev.getD 0 = (s.slide.axles.get i).v := by
  have hall := h.valid_axle i hlen hvalid
  rw [show (t.slide.axles.get i).vPrev = some (s.slide.axles.get i).v from congrArg (fun m => m.2.2.1) hall]
  rfl

section
variable {p : List Byte} {s t : State} (h : SampleDone p s t) {i : Fin 6}
include h

theorem SampleDone.from_isolated (hs : (recoveredAxle s i).state = .isolated) :
    (t.slide.axles.get i).standing = (recoveredAxle s i).standing := by
  rw [h.standing i, axleStep_isolated _ _ _ _ _ (a := measuredLike (recoveredAxle s i) (t.slide.axles.get i)) _ hs]
  rfl

/-- A sample of an axle in SENSOR_FAULT (R42). -/
theorem SampleDone.from_fault (hs : (recoveredAxle s i).state = .sensorFault) : (t.slide.axles.get i).standing =
      if (p.getD 12 0).getLsbD i.val = true ∧ 10 ≤ (recoveredAxle s i).faultCount + 1
        then (.rolling, 1000, (recoveredAxle s i).slideCount)
      else (recoveredAxle s i).standing := by
  rw [h.standing i, axleStep_fault _ _ _ _ _ (a := measuredLike (recoveredAxle s i) (t.slide.axles.get i)) _ hs]
  by_cases hvalid : (p.getD 12 0).getLsbD i.val = true
  · rw [if_pos hvalid, if_congr (and_iff_right hvalid) rfl rfl]
    split
    · exact (if_pos (by assumption)).symm
    · exact (if_neg (by assumption)).symm
  · rw [if_neg hvalid, if_neg (fun hc => hvalid hc.1)]
    rfl

/-- An invalid sample of any other axle (R42). -/
theorem SampleDone.from_invalid (hisolated : (recoveredAxle s i).state ≠ .isolated)
    (hfault : (recoveredAxle s i).state ≠ .sensorFault) (hvalid : (p.getD 12 0).getLsbD i.val = false) :
    (t.slide.axles.get i).standing =
      if 3 ≤ (recoveredAxle s i).faultCount + 1 then (.sensorFault, 0, (recoveredAxle s i).slideCount)
      else (recoveredAxle s i).standing := by
  rw [h.standing i, hvalid, axleStep_invalid _ _ _ _ _ (a := measuredLike (recoveredAxle s i) (t.slide.axles.get i))
    hfault hisolated]
  split
  · exact (if_pos (by assumption)).symm
  · exact (if_neg (by assumption)).symm

/-- A valid sample that finds the lock timer run out (R40). -/
theorem SampleDone.to_locked (hms : 0 < lockMs s.tables) (hvalid : (p.getD 12 0).getLsbD i.val = true)
    (htested : TestedState (recoveredAxle s i).state)
    (hlocks : LockReached s.tables t.slide.vRef (measuredLike (recoveredAxle s i) (t.slide.axles.get i))) :
    (t.slide.axles.get i).standing = (.locked, 0, (recoveredAxle s i).slideCount) := by
  rw [h.standing i, hvalid]
  exact axleStep_locked _ _ _ hms htested hlocks

/-- A valid sample of an axle in LOCKED (R41). -/
theorem SampleDone.from_locked (hms : 0 < lockMs s.tables) (hvalid : (p.getD 12 0).getLsbD i.val = true)
    (hs : (recoveredAxle s i).state = .locked) : (t.slide.axles.get i).standing =
      if (t.slide.axles.get i).slip < t.slide.t1 then (.reapply, (recoveredAxle s i).f, (recoveredAxle s i).slideCount)
      else (recoveredAxle s i).standing := by
  have hnot : ¬ TestedState (recoveredAxle s i).state := by simp [TestedState, hs]
  obtain ⟨timer, hmoved⟩ := axleStep_moved (ts := s.tables) (vRef := t.slide.vRef) t.slide.t1 t.slide.t2 (braked s i)
    (a := measuredLike (recoveredAxle s i) (t.slide.axles.get i)) hms (fun hf => nomatch hs.symm.trans hf)
    (fun hi => nomatch hs.symm.trans hi) (fun hl => hnot hl.1)
  rw [h.standing i, hvalid, hmoved]
  split
  · exact inhibitedStep_locked s.tables t.slide.t1 hs
  · exact slideStep_locked s.tables t.slide.t1 t.slide.t2 (braked s i) hs

/-- A valid sample without the outcome of the locked-axle test, in a state where that test is made: without the
inhibit (R35 to R37) and with it (R38). -/
theorem SampleDone.from_tested (hms : 0 < lockMs s.tables) (hvalid : (p.getD 12 0).getLsbD i.val = true)
    (htested : TestedState (recoveredAxle s i).state)
    (hlocks : ¬ LockReached s.tables t.slide.vRef (measuredLike (recoveredAxle s i) (t.slide.axles.get i))) : ∃ timer,
    (vInhibit s.tables ≤ t.slide.vRef → (t.slide.axles.get i).standing =
      (slideStep s.tables t.slide.t1 t.slide.t2 (braked s i)
        { measuredLike (recoveredAxle s i) (t.slide.axles.get i) with faultCount := 0, lockTimer := timer }).standing)
    ∧ (t.slide.vRef < vInhibit s.tables → (t.slide.axles.get i).standing =
      (inhibitedStep s.tables t.slide.t1
        { measuredLike (recoveredAxle s i) (t.slide.axles.get i) with faultCount := 0, lockTimer := timer }).standing) := by
  have hfault : (recoveredAxle s i).state ≠ .sensorFault := by
    intro hs
    simp [TestedState, hs] at htested
  have hisolated : (recoveredAxle s i).state ≠ .isolated := by
    intro hs
    simp [TestedState, hs] at htested
  obtain ⟨timer, hmoved⟩ := axleStep_moved (ts := s.tables) (vRef := t.slide.vRef) t.slide.t1 t.slide.t2 (braked s i)
    (a := measuredLike (recoveredAxle s i) (t.slide.axles.get i)) hms hfault hisolated (fun hl => hlocks hl.2)
  rw [h.standing i, hvalid, hmoved]
  exact ⟨timer, fun hfast => if_neg (not_lt.mpr hfast), fun hslow => if_pos hslow⟩

end

/-- Settles O22, by the transition of each axle: the reports first, then its runtime fields, then state and factor. -/
theorem axleStateMachine : Obligations.AxleStateMachine := by
  intro payload s hr hlen haxle hslide hms recovered
  obtain ⟨t, hexec, h⟩ := axleSample_done hr hlen haxle hslide
  refine ⟨t, hexec, ⟨?recorder, ?locked⟩, ?fault, h.frame, h.flags.maybe.weaken (reportedFlags_sub _), ?sand, ?axles⟩
  case recorder =>
    have hreports : (fun i => decide ((axleMove (sampleBegun payload s) i).2 = some .locked)) =
        fun i => decide ((t.slide.axles.get i).state = .locked ∧ (recovered i).state ≠ .locked) :=
      funext fun i => decide_eq_decide.mpr (h.runtime hms i).locked
    rw [h.recorder, hreports]
  case locked =>
    intro hnone
    refine h.flag_stands (by decide) fun hmem => ?_
    obtain ⟨i, -, hi⟩ := List.mem_map.mp (axleLocked_mem_reportedFlags.mp hmem)
    exact List.not_mem_nil (hnone ▸ List.mem_filter.mpr ⟨mem_six i, decide_eq_true ((h.runtime hms i).locked.mp hi)⟩)
  case fault =>
    intro hnone
    refine h.flag_stands (by decide) fun hmem => ?_
    obtain ⟨i, -, hi⟩ := List.mem_map.mp (sensorFault_mem_reportedFlags.mp hmem)
    obtain ⟨hto, hfrom⟩ := (h.runtime hms i).fault.mp hi
    exact hfrom (hnone i hto)
  case sand =>
    intro sand
    have hsand : sand = t.slide := h.sanded
    rw [hsand]
    exact ⟨rfl, rfl⟩
  case axles =>
    intro i parameter old a b isBraked slides locks lowered raised more outcome stays valid tested slow faulted locked
      begins ends
    have hrun := h.runtime hms i
    have hslides : ∀ c : AxleRecord, c.slip = b.slip → c.decel = b.decel →
        (slideCondition s.tables t.slide.t1 (braked s i) c = true ↔ slides) := by
      intro c hslip hdecel
      rw [slideCondition_iff, braked_iff, hslip, hdecel]
      exact .rfl
    refine ⟨hrun.lockTimer, hrun.faultCount, hrun.episode, hrun.prolonged, hrun.stateTimer, hrun.confirm, h.isolation i,
      ?isolated, ?inFault, ?invalid, ?valid⟩
    case isolated => exact fun hs => AxleRecord.standing_eq (h.from_isolated hs)
    case inFault =>
      intro hs
      split
      next hc => exact AxleRecord.standing_eq ((h.from_fault hs).trans (if_pos hc))
      next hc => exact AxleRecord.standing_eq (x := a.standing) ((h.from_fault hs).trans (if_neg hc))
    case invalid =>
      intro hisolated hfault hvalid
      have hb := h.from_invalid hisolated hfault hvalid
      split
      next hc =>
        have hout := AxleRecord.standing_eq (hb.trans (if_pos hc))
        exact ⟨hout, h.fault_flag (hrun.fault.mpr ⟨hout.1, hfault⟩)⟩
      next hc => exact AxleRecord.standing_eq (x := a.standing) (hb.trans (if_neg hc))
    case valid =>
      intro hvalid
      refine ⟨fun hs => ?_, fun htested hlocks => ?_, fun hlocks hfast => ?_, fun hlocks hslow => ?_⟩
      · have hlocked := h.from_locked hms hvalid hs
        split
        next hslip => exact AxleRecord.standing_eq (hlocked.trans (if_pos hslip))
        next hslip => exact AxleRecord.standing_eq (x := a.standing) (hlocked.trans (if_neg hslip))
      · have hout := AxleRecord.standing_eq (h.to_locked hms hvalid htested hlocks)
        have hnot : a.state ≠ .locked := by
          intro hs
          simp [hs] at htested
        exact ⟨hout, hrun.stateTimer.trans (if_pos ⟨hout.1, hnot⟩), h.locked_flag (hrun.locked.mpr ⟨hout.1, hnot⟩)⟩
      · have hmoves := fun htested : TestedState a.state => h.from_tested hms hvalid htested hlocks
        have hconfirm : ¬ Locks a b → ¬ Faults a b → b.confirm = confirmAfter true a.confirm a.state b.state := by
          intro hl hf
          refine hrun.confirm.trans ((if_neg (not_or.mpr ⟨hf, hl⟩)).trans ?_)
          rw [hvalid]
          rfl
        refine ⟨fun hs => ?_, fun hs => ?_, fun hs => ?_, fun hs => ?_, fun hs => ?_⟩
        · obtain ⟨timer, hstep, -⟩ := hmoves (.inl hs)
          have hb := (hstep hfast).trans (slideStep_rolling _ _ _ _ hs)
          by_cases hcond : slides
          · rw [if_pos hcond]
            have hout := AxleRecord.standing_eq (hb.trans (if_pos ((hslides _ rfl rfl).mpr hcond)))
            have hstate : b.state = .suspect := hout.1
            refine ⟨hout, (hconfirm ?_ ?_).trans ?_⟩
            · exact fun hl => nomatch hstate.symm.trans hl.1
            · exact fun hf => nomatch hstate.symm.trans hf.1
            · rw [hs, hstate]
              rfl
          · rw [if_neg hcond]
            exact AxleRecord.standing_eq (x := a.standing) (hb.trans (if_neg ((hslides _ rfl rfl).not.mpr hcond)))
        · obtain ⟨timer, hstep, -⟩ := hmoves (.inr (.inl hs))
          have hb := (hstep hfast).trans (slideStep_suspect _ _ _ _ hs)
          have hcond := hslides { measuredLike a b with faultCount := 0, lockTimer := timer } rfl rfl
          by_cases hrelief : t.slide.t2 < b.slip ∨ slides ∧ parameter 9 ≤ a.confirm + 1
          · rw [if_pos hrelief]
            exact AxleRecord.standing_eq (hb.trans (if_pos (hrelief.imp_right (And.imp_left hcond.mpr))))
          · rw [if_neg hrelief]
            replace hb := hb.trans (if_neg (fun hr => hrelief (hr.imp_right (And.imp_left hcond.mp))))
            by_cases hslides' : slides
            · rw [if_pos hslides']
              have hout := AxleRecord.standing_eq (x := a.standing) (hb.trans (if_pos (hcond.mpr hslides')))
              have hstate : b.state = .suspect := hout.1.trans hs
              refine ⟨hout, (hconfirm ?_ ?_).trans ?_⟩
              · exact fun hl => nomatch hstate.symm.trans hl.1
              · exact fun hf => nomatch hstate.symm.trans hf.1
              · rw [hs, hstate]
                rfl
            · rw [if_neg hslides']
              exact AxleRecord.standing_eq (hb.trans (if_neg (hcond.not.mpr hslides')))
        · obtain ⟨timer, hstep, -⟩ := hmoves (.inr (.inr (.inl hs)))
          have hb := (hstep hfast).trans (slideStep_relief _ _ _ _ hs)
          have hprevious : b.vPrev.getD 0 = old.v := h.previous hlen hvalid
          split
          next hc => exact AxleRecord.standing_eq (hb.trans (if_pos ⟨hprevious.le.trans hc.1, hc.2⟩))
          next hc => exact AxleRecord.standing_eq (hb.trans (if_neg (fun hn => hc ⟨hprevious.ge.trans hn.1, hn.2⟩)))
        · obtain ⟨timer, hstep, -⟩ := hmoves (.inr (.inr (.inr (.inl hs))))
          have hb := (hstep hfast).trans (slideStep_hold _ _ _ _ hs)
          split
          next hc => exact AxleRecord.standing_eq (hb.trans (if_pos hc))
          next hc =>
            replace hb := hb.trans (if_neg hc)
            split
            next hc' => exact AxleRecord.standing_eq (hb.trans (if_pos hc'))
            next hc' => exact AxleRecord.standing_eq (x := a.standing) (hb.trans (if_neg hc'))
        · obtain ⟨timer, hstep, -⟩ := hmoves (.inr (.inr (.inr (.inr hs))))
          have hb := (hstep hfast).trans (slideStep_reapply _ _ _ _ hs)
          split
          next hc => exact AxleRecord.standing_eq (hb.trans (if_pos hc))
          next hc =>
            replace hb := hb.trans (if_neg hc)
            split
            next hc' => exact AxleRecord.standing_eq (hb.trans (if_pos hc'))
            next hc' => exact AxleRecord.standing_eq (hb.trans (if_neg hc'))
      · have hmoves := fun htested : TestedState a.state => h.from_tested hms hvalid htested hlocks
        refine ⟨fun hs => ?_, fun hs => ?_, fun hs => ?_, fun hs => ?_⟩
        · obtain ⟨timer, -, hstep⟩ := hmoves (.inl hs)
          have hb := hstep hslow
          rw [inhibitedStep_rolling s.tables t.slide.t1 (by exact hs)] at hb
          exact AxleRecord.standing_eq hb
        · obtain ⟨timer, -, hstep⟩ := hmoves (.inr (.inl hs))
          exact AxleRecord.standing_eq ((hstep hslow).trans (inhibitedStep_suspect s.tables t.slide.t1 hs))
        · obtain ⟨timer, -, hstep⟩ := hmoves (.inr (.inr (hs.imp_right .inl)))
          exact AxleRecord.standing_eq ((hstep hslow).trans (inhibitedStep_relieved s.tables t.slide.t1 hs))
        · obtain ⟨timer, -, hstep⟩ := hmoves (.inr (.inr (.inr (.inr hs))))
          have hb := (hstep hslow).trans (inhibitedStep_reapply s.tables t.slide.t1 hs)
          split
          next hc => exact AxleRecord.standing_eq (hb.trans (if_pos hc))
          next hc => exact AxleRecord.standing_eq (hb.trans (if_neg hc))

end Sys2Proof.Machine
end

section
/-! PROOF. TABLE_WRITE (O53): the write ranges (R170) and the entries that a write's bytes spell (R171). -/

namespace Sys2Proof.Machine

/-! ## The write ranges (R170) -/

theorem within_iff (a b v : Nat) : within a b v = true ↔ a ≤ v ∧ v ≤ b := by
  unfold within
  rw [Bool.and_eq_true, decide_eq_true_iff, decide_eq_true_iff]

theorem within_from_zero (b v : Nat) : within 0 b v = true ↔ v ≤ b := by
  rw [within_iff]
  exact and_iff_right (Nat.zero_le v)

theorem nodeRange_iff (fields : List Nat) : nodeRange fields = true ↔
    fields.getD 0 0 ≤ 1 ∧ (1 ≤ fields.getD 1 0 ∧ fields.getD 1 0 ≤ 254 ∨ fields.getD 0 0 = 0 ∧ fields.getD 1 0 = 0)
      ∧ fields.getD 2 0 ≤ 1
      ∧ (1 ≤ fields.getD 3 0 ∧ fields.getD 3 0 ≤ 12 ∨ fields.getD 0 0 = 0 ∧ fields.getD 3 0 = 0)
      ∧ (fields.getD 4 0 = 0 ∨ 20 ≤ fields.getD 4 0 ∧ fields.getD 4 0 ≤ 5000) := by
  simp only [nodeRange, Bool.and_eq_true, Bool.or_eq_true, decide_eq_true_eq, within_iff, Nat.zero_le, true_and, and_assoc]

theorem recorderRange_iff {n : Nat} (hn : n < 5) (v : Nat) : recorderRange n v = true ↔
    ([(0, 255), (1, 10), (0, 8388607), (0, 8388607), (0, 1)].getD n (0, 0)).1 ≤ v
      ∧ v ≤ ([(0, 255), (1, 10), (0, 8388607), (0, 8388607), (0, 1)].getD n (0, 0)).2 := by
  have hset : ∀ x, decide (x < 2 ^ 23) = true ↔ 0 ≤ x ∧ x ≤ 8388607 := by
    intro x
    rw [decide_eq_true_iff]
    omega
  interval_cases n
  · exact within_iff _ _ _
  · exact within_iff _ _ _
  · exact hset v
  · exact hset v
  · exact within_iff _ _ _

theorem reportingRange_iff {n : Nat} (hn : n < 3) (v : Nat) : reportingRange n v = true ↔
    ([(0, 255), (0, 524287), (0, 255)].getD n (0, 0)).1 ≤ v ∧ v ≤ ([(0, 255), (0, 524287), (0, 255)].getD n (0, 0)).2 := by
  interval_cases n
  · exact within_iff _ _ _
  · show decide (v < 2 ^ 19) = true ↔ 0 ≤ v ∧ v ≤ 524287
    rw [decide_eq_true_iff]
    omega
  · exact within_iff _ _ _

theorem curveRange_iff (n : Nat) (fields : List Nat) :
    (if n = 0 then within 0 16 (fields.getD 0 0)
      else within 0 65535 (fields.getD 0 0) && within 0 65535 (fields.getD 1 0)) = true ↔
    if n = 0 then fields.getD 0 0 ≤ 16 else fields.getD 0 0 ≤ 65535 ∧ fields.getD 1 0 ≤ 65535 := by
  split
  · exact within_from_zero _ _
  · rw [Bool.and_eq_true, within_from_zero, within_from_zero]

/-! ## The entries of a write (R171) -/

theorem beValue_eq_number (bytes : List Byte) :
    beValue bytes = bytes.foldl (fun (n : Nat) (b : Byte) => 256 * n + b.toNat) 0 := by
  unfold beValue
  refine congrArg (fun f => List.foldl f 0 bytes) ?_
  funext n b
  rw [Nat.mul_comm]

theorem readEntries_eq (id : TableId) : ∀ (count first : Nat) (bytes : List Byte), readEntries id count first bytes =
    (List.range count).map (fun j => normalEntry id (first + j)
      (readFields (fieldWidths id) ((bytes.drop (j * entrySize id)).take (entrySize id)))) := by
  intro count
  induction count with
  | zero => exact fun _ _ => rfl
  | succ n ih =>
    intro first bytes
    rw [readEntries, ih, List.range_succ_eq_map, List.map_cons, List.map_map]
    congr 1
    · rw [Nat.zero_mul]
      rfl
    · refine List.map_congr_left fun j _ => ?_
      show normalEntry id (first + 1 + j) _ = normalEntry id (first + (j + 1)) _
      rw [List.drop_drop, Nat.succ_mul, Nat.add_comm (j * entrySize id), Nat.add_assoc, Nat.add_comm 1 j]

theorem readEntries_length (id : TableId) (count first : Nat) (bytes : List Byte) :
    (readEntries id count first bytes).length = count := by
  rw [readEntries_eq, List.length_map, List.length_range]

theorem allInRange_iff (id : TableId) (l : List (List Nat)) : ∀ first, allInRange id first l = true ↔
    ∀ j, j < l.length → entryInRange id (first + j) (l.getD j []) = true := by
  induction l with
  | nil => exact fun _ => ⟨fun _ j hj => absurd hj (Nat.not_lt_zero j), fun _ => rfl⟩
  | cons x xs ih =>
    intro first
    rw [allInRange, Bool.and_eq_true, ih]
    constructor
    · rintro ⟨hx, hxs⟩ j hj
      cases j with
      | zero => exact hx
      | succ j =>
        rw [show first + (j + 1) = first + 1 + j by omega]
        exact hxs j (Nat.lt_of_succ_lt_succ hj)
    · intro h
      refine ⟨h 0 (Nat.succ_pos _), fun j hj => ?_⟩
      rw [show first + 1 + j = first + (j + 1) by omega]
      exact h (j + 1) (Nat.succ_lt_succ hj)

/-- Offset and width of each field of an entry (R170). -/
def fieldLayout : TableId → List (Nat × Nat)
  | .nodes => [(0, 1), (1, 1), (2, 1), (3, 1), (4, 2)]
  | .classSets => [(0, 1)]
  | .auto | .dbCurve | .adhPlain | .adhSanded => [(0, 2), (2, 2)]
  | .handle | .axle | .blend | .db | .slide => [(0, 2)]
  | .heat | .source | .recorder | .reporting => [(0, 4)]
  | .patterns => [(0, 1), (1, 1), (2, 1), (3, 4), (7, 2)]
  | .discrete => [(0, 1), (1, 1), (2, 1)]

theorem fieldLayout_size (id : TableId) : ((fieldLayout id).map Prod.snd).sum = entrySize id := by
  cases id <;> rfl

/-- Each field is read at its offset. -/
theorem readFields_layout (id : TableId) (raw : List Byte) : readFields (fieldWidths id) raw =
    (fieldLayout id).map (fun x => (((raw.drop x.1).take x.2).foldl (fun (n : Nat) (b : Byte) => 256 * n + b.toNat) 0)) := by
  cases id <;> simp only [fieldWidths, fieldLayout, readFields, beValue_eq_number, List.map_cons, List.map_nil,
    List.drop_drop, List.drop_zero]

theorem normalEntry_eq (id : TableId) (n : Nat) (fields : List Nat) : normalEntry id n fields =
    if (id = .auto ∨ id = .dbCurve ∨ id = .adhPlain ∨ id = .adhSanded) ∧ n = 0 then [fields.getD 0 0, 0] else fields := by
  by_cases h : n = 0 <;> cases id <;> simp [normalEntry, h]

/-! ## The refusals (R171) -/

section
variable (table count : Byte) (first : BitVec 16) (values : List Byte) {id : TableId} {s : State}

/-- The entries that the arguments of a write spell. -/
def argEntries (id : TableId) : List (List Nat) := readEntries id count.toNat first.toNat values

theorem argEntries_length : (argEntries count first values id).length = count.toNat := readEntries_length _ _ _ _

theorem ownTableWrite_eq (hid : tableOfId table.toNat = some id) :
    ownTableWrite ([table] ++ be 2 first.toNat ++ [count] ++ values) s =
      if s.control.mode = .service then (s, .answer .refusedMode [])
      else if s.control.validation.isSome then (s, .answer .busy [])
      else if count.toNat = 0 ∨ tableEntries id < first.toNat + count.toNat then (s, .answer .badArg [])
      else if !allInRange id first.toNat (argEntries count first values id) then (s, .answer .badArg [])
      else (writeTable id first.toNat (argEntries count first values id) s,
        .answer .ok ([table] ++ be 2 first.toNat ++ [count])) := by
  obtain ⟨htable, hfirst, hcount, htake, hdrop⟩ := tableArgs table count first values
  change fieldAt ([table] ++ be 2 first.toNat ++ [count] ++ values) 0 1 = _ at htable
  change fieldAt ([table] ++ be 2 first.toNat ++ [count] ++ values) 1 2 = _ at hfirst
  change fieldAt ([table] ++ be 2 first.toNat ++ [count] ++ values) 3 1 = _ at hcount
  change ([table] ++ be 2 first.toNat ++ [count] ++ values).take 4 = _ at htake
  change ([table] ++ be 2 first.toNat ++ [count] ++ values).drop 4 = _ at hdrop
  unfold ownTableWrite
  rw [htable, hid]
  dsimp only
  rw [hfirst, hcount, htake, hdrop]
  rfl

theorem argsFit_tableWrite (hid : tableOfId table.toNat = some id) (hlen : values.length = count.toNat * entrySize id) :
    argsFit .tableWrite ([table] ++ be 2 first.toNat ++ [count] ++ values) = true := by
  obtain ⟨htable, -, hcount, -, -⟩ := tableArgs table count first values
  change fieldAt ([table] ++ be 2 first.toNat ++ [count] ++ values) 0 1 = _ at htable
  change fieldAt ([table] ++ be 2 first.toNat ++ [count] ++ values) 3 1 = _ at hcount
  have hlength : ([table] ++ be 2 first.toNat ++ [count] ++ values).length = 4 + count.toNat * entrySize id := by
    simp [be, hlen]
    omega
  unfold argsFit
  dsimp only
  rw [htable, hid, hcount, hlength]
  simp

variable {src tag : Byte} (hr : Ready s) (hm : MayIssue s src .tableWrite ([table] ++ be 2 first.toNat ++ [count] ++ values))
  (hid : tableOfId table.toNat = some id) (hlen : values.length = count.toNat * entrySize id)
include hr hm hid hlen

/-- A write that is refused changes nothing but the answer. -/
theorem tableWrite_refused {r : ResultCode}
    (h : ∀ u : State, u.control = s.control →
      ownTableWrite ([table] ++ be 2 first.toNat ++ [count] ++ values) u = (u, .answer r [])) :
    exec (.tableWrite src tag table first count values) s =
      .next (answered s (responseFrame src tag .tableWrite r [])) :=
  request_unchanged s src tag .tableWrite _ r [] hr hm (argsFit_tableWrite table count first values hid hlen) (h _ rfl)

theorem tableWrite_inService (hmode : s.control.mode = .service) :
    exec (.tableWrite src tag table first count values) s =
      .next (answered s (responseFrame src tag .tableWrite .refusedMode [])) := by
  refine tableWrite_refused table count first values hr hm hid hlen fun u hu => ?_
  rw [ownTableWrite_eq table count first values hid, hu, if_pos hmode]

theorem tableWrite_busy (hmode : s.control.mode ≠ .service) (hbusy : s.control.validation ≠ none) :
    exec (.tableWrite src tag table first count values) s =
      .next (answered s (responseFrame src tag .tableWrite .busy [])) := by
  refine tableWrite_refused table count first values hr hm hid hlen fun u hu => ?_
  rw [ownTableWrite_eq table count first values hid, hu, if_neg hmode, if_pos (Option.isSome_iff_ne_none.mpr hbusy)]

theorem tableWrite_badArg (hmode : s.control.mode ≠ .service) (hfree : s.control.validation = none)
    (hbad : ¬ (1 ≤ count.toNat ∧ first.toNat + count.toNat ≤ tableEntries id)
      ∨ ¬ allInRange id first.toNat (argEntries count first values id) = true) :
    exec (.tableWrite src tag table first count values) s =
      .next (answered s (responseFrame src tag .tableWrite .badArg [])) := by
  refine tableWrite_refused table count first values hr hm hid hlen fun u hu => ?_
  rw [ownTableWrite_eq table count first values hid, hu, if_neg hmode, hfree, if_neg (by simp)]
  by_cases hfits : 1 ≤ count.toNat ∧ first.toNat + count.toNat ≤ tableEntries id
  · rw [if_neg (by omega), if_pos (by simpa using hbad.resolve_left (not_not.mpr hfits))]
  · rw [if_pos (by omega)]

end

end Sys2Proof.Machine
end

section
/-! PROOF. TABLE_WRITE (O53): what every accepted write leaves, and the writes of the plain tables, AXLE and HEAT. -/

namespace Sys2Proof.Machine

/-! ## An accepted write -/

/-- The write is permitted, outside SERVICE with no validation in flight, and names entries that fit and lie in their
ranges (R171). -/
structure AcceptedWrite (src table count : Byte) (first : BitVec 16) (values : List Byte) (id : TableId) (s : State) :
    Prop where
  ready : Ready s
  issued : MayIssue s src .tableWrite ([table] ++ be 2 first.toNat ++ [count] ++ values)
  table_id : tableOfId table.toNat = some id
  length : values.length = count.toNat * entrySize id
  mode : s.control.mode ≠ .service
  free : s.control.validation = none
  fits : 1 ≤ count.toNat ∧ first.toNat + count.toNat ≤ tableEntries id
  sound : allInRange id first.toNat (argEntries count first values id) = true

/-- The tables with the written entries (R171). -/
def writtenTables (s : State) (id : TableId) (first : Nat) (new : List (List Nat)) : Tables :=
  setTable s.tables id ⟨replaceEntries (getTable s.tables id).entries first new, true⟩

/-- The state of the write's event once the entries stand, before the derived state follows. -/
def writing (src tag table count : Byte) (first : BitVec 16) (values : List Byte) (id : TableId) (s : State) : State :=
  underRequest { s with tables := writtenTables s id first.toNat (argEntries count first values id) } src
    (requestPayload tag .tableWrite ([table] ++ be 2 first.toNat ++ [count] ++ values))

/-- Everything that a write may move beside flags and notices (R172), taken from `w`. -/
def derivedFrom (s w : State) : State :=
  { s with
    link := { s.link with nodes := w.link.nodes }
    authority := w.authority
    slide := w.slide
    brake := w.brake
    air := w.air
    lines := { s.lines with inputs := w.lines.inputs } }

section
variable {src tag table count : Byte} {first : BitVec 16} {values : List Byte} {id : TableId} {s : State}
  (h : AcceptedWrite src table count first values id s)
include h

theorem AcceptedWrite.carried : carryOut .tableWrite ([table] ++ be 2 first.toNat ++ [count] ++ values)
    (underRequest s src (requestPayload tag .tableWrite ([table] ++ be 2 first.toNat ++ [count] ++ values))) =
      (afterReporting id (raise .configChanged (afterWrite id s.tables first.toNat count.toNat
        (writing src tag table count first values id s))), .answer .ok ([table] ++ be 2 first.toNat ++ [count])) := by
  have hcarry := ownTableWrite_eq (s := underRequest s src
    (requestPayload tag .tableWrite ([table] ++ be 2 first.toNat ++ [count] ++ values))) table count first values h.table_id
  have hfits := h.fits
  have hcontrol : ∀ payload, (underRequest s src payload).control = s.control := fun _ => rfl
  rw [hcontrol, if_neg h.mode, h.free, if_neg (by simp), if_neg (by omega), h.sound, if_neg (by simp)] at hcarry
  unfold writeTable at hcarry
  rw [argEntries_length] at hcarry
  exact hcarry

/-- A write whose derived state moves with nothing but flags: the response, then the notices. -/
theorem AcceptedWrite.done (hid : id ≠ .reporting) {must may : List Flag} {w : State}
    (hw : afterWrite id s.tables first.toNat count.toNat (writing src tag table count first values id s) = w)
    (hmoves : Moves must may (derivedFrom (writing src tag table count first values id s) w) w)
    (hkept : Kept (derivedFrom (writing src tag table count first values id s) w) w) :
    ∃ t, exec (.tableWrite src tag table first count values) s = .next t
      ∧ RaisedFrom (must ++ [.configChanged]) may (answered
        (derivedFrom { s with tables := writtenTables s id first.toNat (argEntries count first values id) } w)
        (responseFrame src tag .tableWrite .ok ([table] ++ be 2 first.toNat ++ [count]))) t := by
  have hcarry := h.carried (tag := tag)
  have hplain : ∀ u : State, afterReporting id u = u := by
    intro u
    unfold afterReporting
    rw [decide_eq_false hid]
    rfl
  rw [hplain, hw] at hcarry
  obtain ⟨t, hexec, hfrom, -⟩ := request_moved (must := must ++ [.configChanged]) (may := may)
    (x := derivedFrom { s with tables := writtenTables s id first.toNat (argEntries count first values id) } w)
    h.ready h.issued (argsFit_tableWrite table count first values h.table_id h.length) rfl hcarry
    ((hmoves.trans (raise_moves .configChanged w)).weaken (by simp)) (hkept.trans (raise_kept _ _))
  refine ⟨t, hexec, hfrom.raisedFrom_outside ?_⟩
  rw [answered_mode]
  exact h.mode

/-- A write whose derived state moves without a flag. -/
theorem AcceptedWrite.quiet (hid : id ≠ .reporting) {w : State}
    (hw : afterWrite id s.tables first.toNat count.toNat (writing src tag table count first values id s) = w)
    (hquiet : w = derivedFrom (writing src tag table count first values id s) w) :
    ∃ t, exec (.tableWrite src tag table first count values) s = .next t
      ∧ RaisedFrom [.configChanged] [] (answered
        (derivedFrom { s with tables := writtenTables s id first.toNat (argEntries count first values id) } w)
        (responseFrame src tag .tableWrite .ok ([table] ++ be 2 first.toNat ++ [count]))) t :=
  h.done hid (must := []) (may := []) hw (hquiet ▸ Moves.refl w) (hquiet ▸ Kept.refl w)

end

/-! ## What a write leaves -/

/-- The blocks that no write moves, with the tables as written and CONFIG_CHANGED set (R171). -/
structure WriteKeeps (s t : State) (ts : Tables) : Prop where
  tables : t.tables = ts
  config : flagSet t .configChanged = true
  control : t.control = s.control
  blend : t.blend = s.blend
  ePort : t.link.ePort = s.link.ePort
  own : t.link.own = s.link.own
  recorder : t.recorder = s.recorder

section
variable {must may : List Flag} {x t : State} {f : OriginatedFrame} (h : RaisedFrom must may (answered x f) t)
include h

theorem RaisedFrom.answered_frame : t = withNotices (answered x f) t := h.1

theorem RaisedFrom.answered_authority : t.authority = x.authority := by
  rw [h.answered_frame]
  unfold answered
  rw [enterResponse_eq]
  rfl

theorem RaisedFrom.answered_slide : t.slide = x.slide := by
  rw [h.answered_frame]
  unfold answered
  rw [enterResponse_eq]
  rfl

theorem RaisedFrom.answered_brake : t.brake = x.brake := by
  rw [h.answered_frame]
  unfold answered
  rw [enterResponse_eq]
  rfl

theorem RaisedFrom.answered_air : t.air = x.air := by
  rw [h.answered_frame]
  unfold answered
  rw [enterResponse_eq]
  rfl

theorem RaisedFrom.answered_nodes : t.link.nodes = x.link.nodes := by
  rw [h.answered_frame]
  unfold answered
  rw [enterResponse_eq]
  show (setPort x .c _).link.nodes = _
  rfl

theorem RaisedFrom.answered_inputs : t.lines.inputs = x.lines.inputs := by
  rw [h.answered_frame]
  exact Machine.answered_inputs x f

theorem RaisedFrom.answered_flag {g : Flag} : (flagSet x g = true ∨ g ∈ must → flagSet t g = true)
    ∧ (flagSet t g = true → flagSet x g = true ∨ g ∈ must ∨ g ∈ may) := by
  have hflag := h.2.1 g
  rw [flagSet_congr (Machine.answered_flags x f)] at hflag
  exact hflag

theorem RaisedFrom.keeps {s : State} (hconfig : Flag.configChanged ∈ must) (hcontrol : x.control = s.control)
    (hblend : x.blend = s.blend) (hePort : x.link.ePort = s.link.ePort) (hown : x.link.own = s.link.own)
    (hrecorder : x.recorder = s.recorder) : WriteKeeps s t x.tables := by
  have hframe := h.answered_frame
  unfold answered at hframe
  rw [enterResponse_eq] at hframe
  refine ⟨?_, (h.answered_flag).1 (.inr hconfig), ?_, ?_, ?_, ?_, ?_⟩
  · rw [hframe]
    rfl
  · rw [hframe]
    exact hcontrol
  · rw [hframe]
    exact hblend
  · rw [hframe]
    exact hePort
  · rw [hframe]
    exact hown
  · rw [hframe]
    exact hrecorder

end

/-! ## The plain tables -/

section
variable {src tag table count : Byte} {first : BitVec 16} {values : List Byte} {id : TableId} {s : State}
  (h : AcceptedWrite src table count first values id s)
include h

theorem AcceptedWrite.plain (hid : id = .classSets ∨ id = .handle ∨ id = .auto ∨ id = .dbCurve ∨ id = .adhPlain
      ∨ id = .adhSanded ∨ id = .blend ∨ id = .db ∨ id = .recorder ∨ id = .patterns) :
    ∃ t, exec (.tableWrite src tag table first count values) s = .next t
      ∧ RaisedFrom [.configChanged] [] (answered
        { s with tables := writtenTables s id first.toNat (argEntries count first values id) }
        (responseFrame src tag .tableWrite .ok ([table] ++ be 2 first.toNat ++ [count]))) t := by
  have hw : afterWrite id s.tables first.toNat count.toNat (writing src tag table count first values id s)
      = writing src tag table count first values id s := by
    rcases hid with rfl | rfl | rfl | rfl | rfl | rfl | rfl | rfl | rfl | rfl <;> rfl
  have hne : id ≠ .reporting := by
    rintro rfl
    simp at hid
  obtain ⟨t, hexec, hraised⟩ := h.quiet (tag := tag) hne hw rfl
  exact ⟨t, hexec, hraised⟩

end

section
variable {src tag table count : Byte} {first : BitVec 16} {values : List Byte} {s : State}

/-! ## AXLE (R25) -/

theorem AcceptedWrite.axle (h : AcceptedWrite src table count first values .axle s) :
    let tables := writtenTables s .axle first.toNat (argEntries count first values .axle)
    ∃ t, exec (.tableWrite src tag table first count values) s = .next t
      ∧ RaisedFrom [.configChanged] [] (answered
        { s with
          tables := tables
          slide := { s.slide with axles := Six.ofFn (fun i => { s.slide.axles.get i with
            circumference := some ((tableField tables.axle i.val 0 * 355 + 56) / 113) }) } }
        (responseFrame src tag .tableWrite .ok ([table] ++ be 2 first.toNat ++ [count]))) t :=
  h.quiet nofun rfl rfl

/-! ## HEAT (R62) -/

theorem recomputeG_kept (u : State) : Kept { u with brake := (recomputeG u).brake } (recomputeG u) := by
  unfold recomputeG
  dsimp only
  split
  · rw [raise_brake]
    exact raise_kept _ _
  · exact Kept.refl _

theorem recomputeG_moves (u : State) : Moves
    (if u.brake.g = 1000 ∧ thermalFactor u.tables u.brake.heat < 1000 then [.thermalDerate] else []) []
    { u with brake := { u.brake with g := thermalFactor u.tables u.brake.heat } } (recomputeG u) := by
  unfold recomputeG
  dsimp only
  split
  · exact raise_moves _ _
  · exact Moves.refl _

theorem recomputeG_brake (u : State) :
    (recomputeG u).brake = { u.brake with g := thermalFactor u.tables u.brake.heat } := by
  unfold recomputeG
  dsimp only
  split
  · rw [raise_brake]
  · rfl

/-- The rise of THERMAL_DERATE moves nothing but flags and notices. -/
theorem recomputeG_derived (u : State) : derivedFrom u (recomputeG u) =
    { u with brake := { u.brake with g := thermalFactor u.tables u.brake.heat } } := by
  have hframe := (recomputeG_moves u).frame
  unfold derivedFrom
  rw [hframe]
  rfl

theorem AcceptedWrite.heat (h : AcceptedWrite src table count first values .heat s) :
    let tables := writtenTables s .heat first.toNat (argEntries count first values .heat)
    let g := thermalFactor tables s.brake.heat
    ∃ t, exec (.tableWrite src tag table first count values) s = .next t
      ∧ RaisedFrom (if s.brake.g = 1000 ∧ g < 1000 then [.thermalDerate, .configChanged] else [.configChanged]) []
        (answered { s with tables := tables, brake := { s.brake with g := g } }
        (responseFrame src tag .tableWrite .ok ([table] ++ be 2 first.toNat ++ [count]))) t := by
  intro tables g
  have hmoves := recomputeG_moves (writing src tag table count first values .heat s)
  have hkept := recomputeG_kept (writing src tag table count first values .heat s)
  rw [recomputeG_brake] at hkept
  rw [← recomputeG_derived] at hmoves hkept
  obtain ⟨t, hexec, hraised⟩ := h.done nofun rfl hmoves hkept
  refine ⟨t, hexec, ?_⟩
  have hlist : (if s.brake.g = 1000 ∧ g < 1000 then [Flag.thermalDerate, .configChanged] else [.configChanged]) =
      (if s.brake.g = 1000 ∧ g < 1000 then [Flag.thermalDerate] else []) ++ [.configChanged] := by
    split <;> rfl
  have hderived : derivedFrom { s with tables := tables } (recomputeG (writing src tag table count first values .heat s))
      = { s with tables := tables, brake := { s.brake with g := g } } := by
    unfold derivedFrom
    rw [hmoves.frame]
    rw [recomputeG_derived]
    rfl
  rw [hlist, ← hderived]
  exact hraised

end

end Sys2Proof.Machine
end

section
/-! PROOF. The write of REPORTING (O53): a pending notice is formed once, and follows the response (R154, R172). -/

namespace Sys2Proof.Machine

/-- A write leaves the mark set where it was set, or where its CONFIG_CHANGED rises into NOTICE_ENABLE (R154). -/
def noticeAsked (s : State) (ts : Tables) : Bool :=
  s.lines.noticePending || !flagSet s .configChanged && noticeEnabled ts .configChanged

/-- The state of a REPORTING write with its flag and its mark. -/
def reportingMarked (u : State) : State :=
  { u with
    lines := { u.lines with
      flags := u.lines.flags ||| flagMask .configChanged
      noticePending := noticeAsked u u.tables } }

theorem flags_or_set {u : State} (h : flagSet u .configChanged = true) :
    u.lines.flags ||| flagMask .configChanged = u.lines.flags := by
  refine BitVec.eq_of_getLsbD_eq fun i hi => ?_
  rw [BitVec.getLsbD_or, flagMask, BitVec.getLsbD_ofNat]
  by_cases h18 : flagBit .configChanged = i
  · rw [← h18, show u.lines.flags.getLsbD (flagBit .configChanged) = true from h, Bool.true_or]
  · rw [Nat.testBit_two_pow_of_ne h18, Bool.and_false, Bool.or_false]

/-- A notice that the mark asks for, with nothing kept back yet. -/
theorem afterReporting_forms {v : State} (hheld : v.deferred = some []) : afterReporting .reporting v =
    { v with
      deferred := some (if v.lines.noticePending = true ∧ noticeNode v.tables ≠ 0 then [formNotice v] else []) } := by
  unfold afterReporting noticeFormed notify
  rw [hheld]
  cases hpending : v.lines.noticePending
  · rw [if_neg (by simp), if_neg (by simp), ← hheld]
  · rw [if_pos (by simp)]
    by_cases hnode : noticeNode v.tables = 0
    · rw [if_pos hnode, if_neg (by simp [hnode]), ← hheld]
    · rw [if_neg hnode, if_pos ⟨rfl, hnode⟩]
      rfl

/-- The notice that the rise has formed is the one that the mark asks for. -/
theorem afterReporting_formed {v : State} {n : OriginatedFrame} (hheld : v.deferred = some [n]) :
    afterReporting .reporting v = v := by
  unfold afterReporting noticeFormed
  rw [hheld]
  simp

/-- With nothing kept back yet, the rise and the pending mark together form one notice (R154). -/
theorem reporting_formed {u : State} (hheld : u.deferred = some []) :
    afterReporting .reporting (raise .configChanged u) =
      { reportingMarked u with
        deferred := some
          (if noticeAsked u u.tables = true ∧ noticeNode u.tables ≠ 0 then [formNotice (reportingMarked u)] else []) } := by
  by_cases hset : flagSet u .configChanged = true
  · have hmarked : reportingMarked u = u := by
      unfold reportingMarked noticeAsked
      rw [flags_or_set hset, hset, Bool.not_true, Bool.false_and, Bool.or_false]
    have hasked : noticeAsked u u.tables = u.lines.noticePending := by
      unfold noticeAsked
      rw [hset, Bool.not_true, Bool.false_and, Bool.or_false]
    rw [raise_of_set hset, hmarked, hasked]
    exact afterReporting_forms hheld
  · have hclear : flagSet u .configChanged = false := Bool.eq_false_iff.mpr hset
    cases henabled : noticeEnabled u.tables .configChanged with
    | false =>
      have hasked : noticeAsked u u.tables = u.lines.noticePending := by
        unfold noticeAsked
        rw [henabled, Bool.and_false, Bool.or_false]
      have hraise : raise .configChanged u = reportingMarked u := by
        unfold reportingMarked
        rw [hasked]
        exact raise_unnoticed henabled
      rw [hraise]
      exact afterReporting_forms hheld
    | true =>
      have hasked : noticeAsked u u.tables = true := by
        unfold noticeAsked
        rw [hclear, henabled, Bool.not_false, Bool.true_and, Bool.or_true]
      have hraise : raise .configChanged u = notify (reportingMarked u) := by
        unfold reportingMarked
        rw [hasked]
        exact raise_noticed hclear henabled
      rw [hraise]
      by_cases hnode : noticeNode u.tables = 0
      · have hnone : notify (reportingMarked u) = reportingMarked u := if_pos hnode
        rw [hnone]
        exact afterReporting_forms hheld
      · have hone : notify (reportingMarked u) = { reportingMarked u with deferred := some [formNotice (reportingMarked u)] } := by
          unfold notify
          rw [if_neg (by exact hnode), show (reportingMarked u).deferred = some [] from hheld]
          rfl
        rw [hone, afterReporting_formed rfl, if_pos ⟨hasked, hnode⟩]

theorem syncOutputs_noticedAnew (u : State) : syncOutputs (noticedAnew u) = noticedAnew (syncOutputs u) := by
  unfold noticedAnew
  dsimp only
  rw [handOver_c, handOver_c]
  rfl

section
variable {src tag table count : Byte} {first : BitVec 16} {values : List Byte} {s : State}
  (h : AcceptedWrite src table count first values .reporting s)
include h

theorem AcceptedWrite.reporting :
    let tables := writtenTables s .reporting first.toNat (argEntries count first values .reporting)
    let asked := noticeAsked s tables
    let after := answered (reportingMarked { s with tables := tables })
      (responseFrame src tag .tableWrite .ok ([table] ++ be 2 first.toNat ++ [count]))
    ∃ t, exec (.tableWrite src tag table first count values) s = .next t
      ∧ (asked = false ∨ noticeNode tables = 0 → t = after)
      ∧ (asked = true → noticeNode tables ≠ 0 → t = noticedAnew after) := by
  intro tables asked after
  have hcarry := h.carried (tag := tag)
  rw [show afterWrite .reporting s.tables first.toNat count.toNat (writing src tag table count first values .reporting s)
    = writing src tag table count first values .reporting s from rfl, reporting_formed rfl] at hcarry
  have hexec := request_answered s src tag .tableWrite ([table] ++ be 2 first.toNat ++ [count] ++ values) _ .ok _ h.ready
    h.issued (argsFit_tableWrite table count first values h.table_id h.length) hcarry rfl
  refine ⟨_, hexec, fun hno => ?_, fun hasked hnode => ?_⟩
  · rw [if_neg (fun hc => hno.elim (fun ha => Bool.false_ne_true (ha.symm.trans hc.1)) (fun hn => hc.2 hn))]
    rw [enterResponse_eq]
    show _ = syncOutputs { enterResponse _ _ with management := _, deferred := none }
    rw [enterResponse_eq]
    rfl
  · rw [if_pos ⟨hasked, hnode⟩, enterResponse_eq]
    have hafter : after = syncOutputs { enterResponse _ _ with management := _, deferred := none } := rfl
    rw [enterResponse_eq] at hafter
    rw [hafter, ← syncOutputs_noticedAnew]
    refine congrArg syncOutputs ?_
    exact handNotice_formNotice hasked

end

end Sys2Proof.Machine
end

section
/-! PROOF. The write of SOURCE (O53): the HOLD and emergency reset timers against their new limits (R13, R20). -/

namespace Sys2Proof.Machine

/-- R20 fixes where the timer stands. -/
theorem ResetTimerFollows.unique {before : Timer} {s t : State} (hs : ResetTimerFollows before s)
    (ht : ResetTimerFollows before t) (hpresent : EmergencyPresent t ↔ EmergencyPresent s)
    (hlatch : t.authority.latch = s.authority.latch) (hloaded : t.tables.source.loaded = s.tables.source.loaded) :
    t.authority.resetTimer = s.authority.resetTimer := by
  obtain ⟨hstop, hstart, hstay⟩ := hs
  obtain ⟨hstop', hstart', hstay'⟩ := ht
  rw [hpresent, hlatch] at hstop' hstart' hstay'
  rw [hloaded] at hstart'
  by_cases hidle : s.authority.latch = false ∨ EmergencyPresent s
  · rw [hstop hidle, hstop' hidle]
  · rw [not_or, Bool.not_eq_false] at hidle
    by_cases hbefore : before = .stopped
    · rw [hstart hidle.1 hidle.2 hbefore, hstart' hidle.1 hidle.2 hbefore]
    · rw [hstay hidle.1 hidle.2 hbefore, hstay' hidle.1 hidle.2 hbefore]

theorem evalEmergency_eq (u : State) : evalEmergency u =
    { u with authority := { u.authority with resetTimer := (evalEmergency u).authority.resetTimer } } := by
  obtain ⟨timer, h⟩ := evalEmergency_frame u
  rw [h]

theorem emergencyExpiry_eq (u : State) : emergencyExpiry u =
    { u with authority := { u.authority with
      resetTimer := if u.authority.resetTimer.reached (emergResetMs u.tables) then .expired else u.authority.resetTimer } } := by
  unfold emergencyExpiry
  split <;> rfl

/-- The HOLD timer's expiry, if it is due (R13). -/
theorem holdExpiry_due {u : State} (h : u.authority.holdTimer.reached (holdMs u.tables) = true) : holdExpiry u =
    evalSand { u with authority := { u.authority with phase := .penalty, holdTimer := .stopped } } := if_pos h

theorem holdExpiry_not_due {u : State} (h : ¬ u.authority.holdTimer.reached (holdMs u.tables) = true) :
    holdExpiry u = u := if_neg h

/-- The HOLD timer's expiry moves its phase, its timer and the sand request. -/
theorem holdExpiry_frame (u : State) : holdExpiry u =
    { withSand u (holdExpiry u) with authority := { u.authority with
      phase := (holdExpiry u).authority.phase, holdTimer := (holdExpiry u).authority.holdTimer } } := by
  by_cases h : u.authority.holdTimer.reached (holdMs u.tables) = true
  · rw [holdExpiry_due h]
    obtain ⟨request, timer, hsand⟩ := evalSand_frame
      { u with authority := { u.authority with phase := .penalty, holdTimer := .stopped } }
    rw [hsand]
    rfl
  · rw [holdExpiry_not_due h]
    rfl

/-- The sand request does not look at the emergency reset timer (R46). -/
theorem evalSand_slide_resetTimer (u : State) (timer : Timer) :
    (evalSand { u with authority := { u.authority with resetTimer := timer } }).slide = (evalSand u).slide := by
  have hcalled : sandCalled { u with authority := { u.authority with resetTimer := timer } } = sandCalled u := rfl
  unfold evalSand
  rw [hcalled]
  split
  · rfl
  · split
    · rfl
    · split
      · rfl
      · split <;> rfl

theorem afterSourceWrite_eq (u : State) : afterSourceWrite u =
    { withSand u (holdExpiry u) with authority := { u.authority with
      phase := (holdExpiry u).authority.phase
      holdTimer := (holdExpiry u).authority.holdTimer
      resetTimer := (afterSourceWrite u).authority.resetTimer } } := by
  unfold afterSourceWrite
  rw [emergencyExpiry_eq, evalEmergency_eq]
  dsimp only
  rw [holdExpiry_frame]
  rfl

/-- The evaluation of R20 leaves its conditions. -/
theorem afterSourceWrite_timer (u : State) : ∃ timer, (afterSourceWrite u).authority.resetTimer =
      (if timer.reached (emergResetMs u.tables) then .expired else timer)
    ∧ ResetTimerFollows u.authority.resetTimer
      { afterSourceWrite u with authority := { (afterSourceWrite u).authority with resetTimer := timer } } := by
  have hhold := holdExpiry_frame u
  have hfollows := evalEmergency_follows (holdExpiry u)
  have hbefore : (holdExpiry u).authority.resetTimer = u.authority.resetTimer := by
    rw [hhold]
  have htables : (evalEmergency (holdExpiry u)).tables = u.tables := by
    rw [evalEmergency_eq, hhold]
    rfl
  rw [hbefore] at hfollows
  refine ⟨(evalEmergency (holdExpiry u)).authority.resetTimer, ?_, ?_⟩
  · unfold afterSourceWrite
    rw [emergencyExpiry_eq, htables]
  · refine hfollows.congr ?_ ?_ ?_ <;> unfold afterSourceWrite <;> rw [emergencyExpiry_eq]

section
variable {src tag table count : Byte} {first : BitVec 16} {values : List Byte} {s : State}
  (h : AcceptedWrite src table count first values .source s)
include h

theorem AcceptedWrite.source :
    let tables := writtenTables s .source first.toNat (argEntries count first values .source)
    let ends := s.authority.holdTimer.reached (holdMs tables) = true
    ∃ t, exec (.tableWrite src tag table first count values) s = .next t
      ∧ RaisedFrom [.configChanged] [] (answered
        (withSand { s with
          tables := tables
          authority := { s.authority with
            phase := t.authority.phase
            holdTimer := t.authority.holdTimer
            resetTimer := t.authority.resetTimer } } t)
        (responseFrame src tag .tableWrite .ok ([table] ++ be 2 first.toNat ++ [count]))) t
      ∧ (ends → t.authority.phase = .penalty ∧ t.authority.holdTimer = .stopped
          ∧ t.slide = (evalSand { s with tables := tables, authority := t.authority }).slide)
      ∧ (¬ ends → t.authority.phase = s.authority.phase ∧ t.authority.holdTimer = s.authority.holdTimer
          ∧ t.slide = s.slide)
      ∧ ∃ timer, t.authority.resetTimer = (if timer.reached (emergResetMs tables) then .expired else timer)
        ∧ ResetTimerFollows s.authority.resetTimer { t with authority := { t.authority with resetTimer := timer } } := by
  intro tables ends
  have hw : afterWrite .source s.tables first.toNat count.toNat (writing src tag table count first values .source s)
      = afterSourceWrite (writing src tag table count first values .source s) := rfl
  have heq := afterSourceWrite_eq (writing src tag table count first values .source s)
  obtain ⟨timer, htimer, hfollows⟩ := afterSourceWrite_timer (writing src tag table count first values .source s)
  have hdue : ends → _ := holdExpiry_due (u := writing src tag table count first values .source s)
  have hnot : ¬ ends → _ := holdExpiry_not_due (u := writing src tag table count first values .source s)
  generalize afterSourceWrite (writing src tag table count first values .source s) = w at hw heq htimer hfollows
  generalize holdExpiry (writing src tag table count first values .source s) = v at heq hdue hnot
  have hquiet : w = derivedFrom (writing src tag table count first values .source s) w := by
    rw [heq]
    rfl
  obtain ⟨t, hexec, hraised⟩ := h.quiet nofun hw hquiet
  have hauthority : t.authority = w.authority := hraised.answered_authority
  have hslide : t.slide = w.slide := hraised.answered_slide
  have htables : t.tables = tables :=
    (hraised.keeps (List.mem_singleton.mpr rfl) rfl rfl rfl rfl rfl).tables
  have hwtables : w.tables = tables := by
    rw [heq]
    rfl
  have hinputs : t.lines.inputs = w.lines.inputs := hraised.answered_inputs
  refine ⟨t, hexec, ?_, fun hends => ?_, fun hends => ?_, timer, ?_, ?_⟩
  · rw [heq] at hraised hauthority hslide
    unfold withSand
    rw [hauthority, hslide]
    exact hraised
  · obtain ⟨request, sandTimer, hsand⟩ := evalSand_frame { writing src tag table count first values .source s with
      authority := { s.authority with phase := .penalty, holdTimer := .stopped } }
    have hv : v = evalSand { writing src tag table count first values .source s with
      authority := { s.authority with phase := .penalty, holdTimer := .stopped } } := hdue hends
    have hphase : w.authority = { s.authority with
        phase := .penalty, holdTimer := .stopped, resetTimer := w.authority.resetTimer } := by
      rw [heq, hv, hsand]
      rfl
    have hsanded : w.slide = (evalSand { writing src tag table count first values .source s with
        authority := { s.authority with phase := .penalty, holdTimer := .stopped } }).slide := by
      rw [heq, hv, hsand]
      rfl
    rw [hauthority, hslide, hsanded, hphase]
    refine ⟨rfl, rfl, ?_⟩
    rw [← evalSand_slide_resetTimer _ w.authority.resetTimer]
    exact evalSand_slide_congr rfl rfl rfl rfl
  · rw [hnot hends] at heq
    rw [hauthority, hslide, heq]
    exact ⟨rfl, rfl, rfl⟩
  · rw [hauthority]
    exact htimer
  · exact hfollows.congr hinputs (by rw [hauthority]) (htables.trans hwtables.symm)

end

end Sys2Proof.Machine
end

section
/-! PROOF. What a write's derived state does outside SERVICE: other records, and flags with their notices (R172). -/

namespace Sys2Proof.Machine

/-- State `w` is `u` with other records, after the rise of flags whose notices are kept back. -/
structure Derives (must may : List Flag) (u w : State) : Prop where
  moves : Moves must may (derivedFrom u w) w
  kept : Kept (derivedFrom u w) w

theorem Derives.refl (u : State) : Derives [] [] u u := ⟨Moves.refl u, Kept.refl u⟩

/-- Other records alone. -/
theorem Derives.quiet {u w : State} (h : w = derivedFrom u w) : Derives [] [] u w := by
  refine ⟨?_, ?_⟩ <;> rw [← h]
  · exact Moves.refl w
  · exact Kept.refl w

/-- The same records in both states leave what an event did otherwise. -/
theorem Moves.derived {must may : List Flag} {s t : State} (h : Moves must may s t) (w : State) :
    Moves must may (derivedFrom s w) (derivedFrom t w) := by
  obtain ⟨hframe, hflags, hnotices, hsent, hdeferred, hrecorder⟩ := h
  refine ⟨?_, hflags, hnotices, hsent, hdeferred, hrecorder⟩
  rw [hframe]
  rfl

theorem Derives.trans {m1 y1 m2 y2 : List Flag} {a b c : State} (h : Derives m1 y1 a b) (k : Derives m2 y2 b c) :
    Derives (m1 ++ m2) (y1 ++ y2) a c :=
  ⟨(h.moves.derived c).trans k.moves, (show Kept (derivedFrom a c) (derivedFrom b c) from h.kept).trans k.kept⟩

theorem Derives.weaken {must may may' : List Flag} {s t : State} (h : Derives must may s t)
    (hmay : ∀ f ∈ may, f ∈ may') : Derives must may' s t := ⟨h.moves.weaken hmay, h.kept⟩

/-- What must rise may be counted among what may. -/
theorem Derives.maybe {must may may' : List Flag} {s t : State} (h : Derives must may s t)
    (hmay : ∀ f ∈ must ++ may, f ∈ may') : Derives [] may' s t :=
  ⟨{ h.moves with flags := h.moves.flags.maybe.weaken hmay }, h.kept⟩

theorem Derives.then {may : List Flag} {a b c : State} (h : Derives [] may a b) (k : Derives [] may b c) :
    Derives [] may a c := (h.trans k).weaken fun _ hf => (List.mem_append.mp hf).elim id id

theorem Derives.raise (f : Flag) (u : State) : Derives [f] [] u (raise f u) := by
  have hmoves := raise_moves f u
  have hsame : derivedFrom u (Machine.raise f u) = u := by
    unfold derivedFrom
    rw [hmoves.frame]
    rfl
  refine ⟨?_, ?_⟩ <;> rw [hsame]
  · exact hmoves
  · exact raise_kept f u

section
variable {must may : List Flag} {u w : State} (h : Derives must may u w)
include h

theorem Derives.control : w.control = u.control := h.moves.mode

theorem Derives.tables : w.tables = u.tables := h.moves.tables

theorem Derives.flag_stays {f : Flag} (hf : flagSet u f = true) : flagSet w f = true := (h.moves.flags f).1 (.inl hf)

theorem Derives.flag_must {f : Flag} (hf : f ∈ must) : flagSet w f = true := (h.moves.flags f).1 (.inr hf)

theorem Derives.flag_kept {f : Flag} (hmust : f ∉ must) (hmay : f ∉ may) : flagSet w f = flagSet u f :=
  h.moves.flags.unchanged hmust hmay

end

/-- The flags that rose are those of the list that stand. -/
theorem Derives.exact {may : List Flag} {u w : State} (h : Derives [] may u w) :
    Derives (may.filter (fun f => flagSet w f)) [] u w := by
  refine ⟨{ h.moves with flags := fun f => ?_ }, h.kept⟩
  obtain ⟨hup, hdown⟩ := h.moves.flags f
  refine ⟨fun hf => ?_, fun hf => ?_⟩
  · rcases hf with hf | hf
    · exact hup (.inl hf)
    · exact (List.mem_filter.mp hf).2
  · rcases hdown hf with hu | hmust | hmay
    · exact .inl hu
    · exact absurd hmust List.not_mem_nil
    · exact .inr (.inl (List.mem_filter.mpr ⟨hmay, hf⟩))

/-- A write whose derived state follows so: what may rise, and which flags then stand. -/
theorem AcceptedWrite.derives {src tag table count : Byte} {first : BitVec 16} {values : List Byte} {id : TableId}
    {s : State} (h : AcceptedWrite src table count first values id s) (hid : id ≠ .reporting) {may : List Flag} {w : State}
    (hw : afterWrite id s.tables first.toNat count.toNat (writing src tag table count first values id s) = w)
    (hderives : Derives [] may (writing src tag table count first values id s) w) :
    ∃ t, exec (.tableWrite src tag table first count values) s = .next t
      ∧ RaisedFrom [.configChanged] may (answered
        (derivedFrom { s with tables := writtenTables s id first.toNat (argEntries count first values id) } w)
        (responseFrame src tag .tableWrite .ok ([table] ++ be 2 first.toNat ++ [count]))) t
      ∧ (∀ f, flagSet t f = true ↔ flagSet w f = true ∨ f = .configChanged) := by
  obtain ⟨t, hexec, hraised⟩ := h.done hid hw hderives.exact.moves hderives.exact.kept
  have hwriting : ∀ f, flagSet (derivedFrom { s with
      tables := writtenTables s id first.toNat (argEntries count first values id) } w) f
      = flagSet (writing src tag table count first values id s) f := fun _ => rfl
  have hmem : ∀ f, f ∈ may.filter (fun f => flagSet w f) ++ [Flag.configChanged] ↔
      (f ∈ may ∧ flagSet w f = true) ∨ f = .configChanged := by
    intro f
    rw [List.mem_append, List.mem_filter, List.mem_singleton]
  refine ⟨t, hexec, ⟨hraised.1, fun f => ?_, hraised.2.2⟩, fun f => ?_⟩
  · obtain ⟨hup, hdown⟩ := hraised.2.1 f
    refine ⟨fun hf => hup (hf.imp_right fun hc => (hmem f).mpr (.inr (List.mem_singleton.mp hc))), fun hf => ?_⟩
    rcases hdown hf with hs | hmust | hnone
    · exact .inl hs
    · rcases (hmem f).mp hmust with hm | hc
      · exact .inr (.inr hm.1)
      · exact .inr (.inl (List.mem_singleton.mpr hc))
    · exact absurd hnone List.not_mem_nil
  · obtain ⟨hup, hdown⟩ := hraised.answered_flag (g := f)
    rw [hwriting, hmem] at hup hdown
    obtain ⟨wup, wdown⟩ := hderives.moves.flags f
    constructor
    · intro hf
      rcases hdown hf with hs | hmust | hnone
      · exact .inl (wup (.inl hs))
      · exact hmust.imp_left And.right
      · exact absurd hnone List.not_mem_nil
    · rintro (hf | hf)
      · refine hup ((wdown hf).imp_right fun hm => .inl ⟨?_, hf⟩)
        exact hm.resolve_left List.not_mem_nil
      · exact hup (.inr (.inr hf))

end Sys2Proof.Machine
end

section
/-! PROOF. The write of SLIDE (O53): the episode, stale and sand hold timers against their new limits (R28, R39, R46). -/

namespace Sys2Proof.Machine

/-! ## The sand request -/

theorem evalSand_derives (u : State) : Derives [] [] u (evalSand u) := by
  refine Derives.quiet ?_
  rw [evalSand_eq]
  rfl

theorem evalSand_called {u : State} (hloaded : u.tables.slide.loaded = true) (h : sandCalled u = true) :
    evalSand u = { u with slide := { u.slide with sandRequest := true, sandTimer := .stopped } } :=
  (if_neg (by simp [hloaded])).trans (if_pos h)

theorem activeDemand_congr {s t : State} (htables : t.tables = s.tables) (hauthority : t.authority = s.authority)
    (hinputs : t.lines.inputs = s.lines.inputs) : activeDemand t = activeDemand s := by
  unfold activeDemand clampDemand applyPenalty presentedDemand penaltyActive
  rw [htables, hauthority, hinputs]

/-! ## The episodes (R39) -/

/-- Axle `i` with its episode marked prolonged. -/
def prolongedAxle (u : State) (i : Fin 6) : AxleRecord :=
  { u.slide.axles.get i with episode := .stopped, prolonged := true }

theorem episodeExpiry_due {u : State} {i : Fin 6} (hmode : u.control.mode ≠ .service)
    (hloaded : u.tables.slide.loaded = true) (hdue : episodeDue u i = true) : episodeExpiry i u =
      let v := raise .slideProlonged (setAxle u i (prolongedAxle u i))
      { v with slide := { v.slide with sandRequest := true, sandTimer := .stopped } } := by
  have hexpiry : episodeExpiry i u = evalSand (trigger .slideProlonged (raise .slideProlonged
      (setAxle u i (prolongedAxle u i)))) := if_pos hdue
  rw [hexpiry, trigger_ignored _ _ (by rw [(raise_moves _ _).mode]; exact hmode)]
  refine evalSand_called ?_ ((sandCalled_iff _).mpr (.inr (.inl ⟨i, ?_⟩)))
  · rw [(raise_moves _ _).tables]
    exact hloaded
  · rw [raise_slide]
    show ((u.slide.axles.set i (prolongedAxle u i)).get i).prolonged = true
    rw [Six.get_set_same]
    rfl

theorem episodeExpiry_not_due {u : State} {i : Fin 6} (h : ¬ episodeDue u i = true) : episodeExpiry i u = u := if_neg h

/-- A write of SLIDE moves no other records than the speed unit's and the standstill timer. -/
structure SpeedAlone (u a : State) : Prop where
  nodes : a.link.nodes = u.link.nodes
  authority : a.authority = u.authority
  brake : a.brake = u.brake
  inputs : a.lines.inputs = u.lines.inputs

theorem SpeedAlone.trans {u a b : State} (h : SpeedAlone u a) (k : SpeedAlone a b) : SpeedAlone u b :=
  ⟨k.nodes.trans h.nodes, k.authority.trans h.authority, k.brake.trans h.brake, k.inputs.trans h.inputs⟩

theorem speedAlone_raise (f : Flag) (u : State) : SpeedAlone u (raise f u) := by
  refine ⟨?_, ?_, ?_, ?_⟩ <;> rw [raise_frame] <;> rfl

/-- State `a` is `u` after the episode expiries of the axles of `l`. -/
structure EpisodesPassed (l : List (Fin 6)) (u a : State) : Prop where
  derives : Derives [] [.slideProlonged] u a
  axle : ∀ i, a.slide.axles.get i = if i ∈ l ∧ episodeDue u i = true then prolongedAxle u i else u.slide.axles.get i
  slide : a.slide = { u.slide with
    axles := a.slide.axles, sandRequest := a.slide.sandRequest, sandTimer := a.slide.sandTimer }
  air : a.air = u.air
  apart : SpeedAlone u a
  flag : (∃ i ∈ l, episodeDue u i = true) → flagSet a .slideProlonged = true
  called : (∃ i ∈ l, episodeDue u i = true) → a.slide.sandRequest = true ∧ a.slide.sandTimer = .stopped
  stands : (∀ i ∈ l, ¬ episodeDue u i = true) → a = u

theorem EpisodesPassed.next {l : List (Fin 6)} {u a : State} (h : EpisodesPassed l u a) {i : Fin 6} (hi : i ∉ l)
    (hmode : u.control.mode ≠ .service) (hloaded : u.tables.slide.loaded = true) :
    EpisodesPassed (l ++ [i]) u (episodeExpiry i a) := by
  have haxle : a.slide.axles.get i = u.slide.axles.get i := (h.axle i).trans (if_neg fun hc => hi hc.1)
  have hsame : episodeDue a i = episodeDue u i := by
    unfold episodeDue
    rw [haxle, h.derives.tables, h.slide]
  by_cases hdue : episodeDue u i = true
  · have hexpiry := episodeExpiry_due (u := a) (i := i) (by rw [h.derives.control]; exact hmode)
      (by rw [h.derives.tables]; exact hloaded) (hsame.trans hdue)
    have hprolonged : prolongedAxle a i = prolongedAxle u i := by
      unfold prolongedAxle
      rw [haxle]
    rw [hprolonged] at hexpiry
    have hset : Derives [] [] a (setAxle a i (prolongedAxle u i)) := .quiet rfl
    have hraise := Derives.raise .slideProlonged (setAxle a i (prolongedAxle u i))
    have hslide : (raise .slideProlonged (setAxle a i (prolongedAxle u i))).slide =
        { a.slide with axles := a.slide.axles.set i (prolongedAxle u i) } := raise_slide _ _
    have hair : (raise .slideProlonged (setAxle a i (prolongedAxle u i))).air = a.air := by
      rw [raise_frame]
      rfl
    have hsetApart : SpeedAlone a (setAxle a i (prolongedAxle u i)) := ⟨rfl, rfl, rfl, rfl⟩
    have hapart := hsetApart.trans (speedAlone_raise .slideProlonged (setAxle a i (prolongedAxle u i)))
    have hflag := hraise.flag_must (List.mem_singleton.mpr rfl)
    generalize raise .slideProlonged (setAxle a i (prolongedAxle u i)) = v at hexpiry hraise hslide hair hapart hflag
    have hsanded : Derives [] [] v { v with slide := { v.slide with sandRequest := true, sandTimer := .stopped } } :=
      .quiet rfl
    rw [hexpiry]
    refine ⟨h.derives.then ((hset.trans (hraise.trans hsanded)).maybe (by simp)), fun j => ?_, ?_, ?_, ?_,
      fun _ => hflag, fun _ => ⟨rfl, rfl⟩, fun hnone => absurd hdue (hnone i (by simp))⟩
    · dsimp only
      rw [hslide]
      show (a.slide.axles.set i (prolongedAxle u i)).get j = _
      by_cases hij : j = i
      · rw [hij, Six.get_set_same, if_pos ⟨by simp, hdue⟩]
      · have hmem : j ∈ l ++ [i] ↔ j ∈ l := by simp [hij]
        rw [Six.get_set_other _ _ _ _ (Ne.symm hij), h.axle j, if_congr (and_congr_left fun _ => hmem) rfl rfl]
    · dsimp only
      rw [hslide, h.slide]
    · exact hair.trans h.air
    · exact h.apart.trans (hapart.trans ⟨rfl, rfl, rfl, rfl⟩)
  · rw [episodeExpiry_not_due (by rw [hsame]; exact hdue)]
    have hmem : ∀ j, j ∈ l ++ [i] ∧ episodeDue u j = true ↔ j ∈ l ∧ episodeDue u j = true := by
      intro j
      rw [List.mem_append, List.mem_singleton]
      constructor
      · rintro ⟨hj | hj, hd⟩
        · exact ⟨hj, hd⟩
        · exact absurd (hj ▸ hd) hdue
      · exact fun hj => ⟨.inl hj.1, hj.2⟩
    have hexists : (∃ j ∈ l ++ [i], episodeDue u j = true) → ∃ j ∈ l, episodeDue u j = true :=
      fun ⟨j, hj⟩ => ⟨j, (hmem j).mp hj⟩
    exact ⟨h.derives, fun j => (h.axle j).trans (if_congr (hmem j).symm rfl rfl), h.slide, h.air, h.apart,
      fun hc => h.flag (hexists hc), fun hc => h.called (hexists hc),
      fun hnone => h.stands fun j hj => hnone j (List.mem_append_left _ hj)⟩

theorem episodes_passed {u : State} (hmode : u.control.mode ≠ .service) (hloaded : u.tables.slide.loaded = true)
    (l : List (Fin 6)) : l.Nodup → EpisodesPassed l u (l.foldl (fun s i => episodeExpiry i s) u) := by
  induction l using List.reverseRecOn with
  | nil =>
    intro _
    exact ⟨(Derives.refl u).weaken (by simp), fun i => (if_neg (by simp)).symm, rfl, rfl, ⟨rfl, rfl, rfl, rfl⟩, by simp,
      by simp, fun _ => rfl⟩
  | append_singleton l i ih =>
    intro hnodup
    rw [List.foldl_append]
    have hsplit := List.nodup_append.mp hnodup
    exact (ih hsplit.1).next (fun hi => hsplit.2.2 i hi i (List.mem_singleton.mpr rfl) rfl) hmode hloaded

end Sys2Proof.Machine
end

section
/-! PROOF. The write of SLIDE (O53), continued: the stale timer, the sand request, and the whole of it. -/

namespace Sys2Proof.Machine

/-! ## The stale timer (R28, R29) -/

/-- The speed data is stale by the limit of the tables (R28). -/
def StaleDue (u : State) : Prop :=
  u.slide.speedState = .valid ∧ ∃ e, u.slide.staleTimer = .running e ∧ tableField u.tables.slide 0 0 < e

theorem staleDue_iff (u : State) :
    (u.slide.speedState = .valid && u.slide.staleTimer.exceeded (speedStaleMs u.tables)) = true ↔ StaleDue u := by
  rw [Bool.and_eq_true, decide_eq_true_iff, Timer.exceeded_iff]
  exact .rfl

/-- State `b` is `a` after the stale timer's expiry, if it is due. -/
structure StalePassed (a b : State) : Prop where
  derives : Derives [] [.speedLost] a b
  slide : b.slide = { a.slide with speedState := b.slide.speedState, staleTimer := b.slide.staleTimer }
  air : b.air = { a.air with standstill := b.air.standstill }
  apart : SpeedAlone a b
  stale : StaleDue a → b.slide.speedState = .lost ∧ b.slide.staleTimer = .stopped ∧ b.air.standstill = .stopped
    ∧ flagSet b .speedLost = true
  fresh : ¬ StaleDue a → b = a

theorem stale_passed {a : State} (hmode : a.control.mode ≠ .service) : StalePassed a (staleExpiry a) := by
  by_cases hdue : StaleDue a
  · have hexpiry : staleExpiry a = raise .speedLost { a with
        slide := { a.slide with speedState := .lost, staleTimer := .stopped }
        air := { a.air with standstill := .stopped } } := by
      unfold staleExpiry
      rw [if_pos ((staleDue_iff a).mpr hdue), loseSpeed_valid hdue.1, trigger_ignored _ _ (by
        rw [(raise_moves _ _).mode]
        exact hmode)]
    have hset : Derives [] [] a { a with
        slide := { a.slide with speedState := .lost, staleTimer := .stopped }
        air := { a.air with standstill := .stopped } } := .quiet rfl
    have hraise := Derives.raise .speedLost { a with
        slide := { a.slide with speedState := .lost, staleTimer := .stopped }
        air := { a.air with standstill := .stopped } }
    have hframe := raise_frame { a with
        slide := { a.slide with speedState := .lost, staleTimer := .stopped }
        air := { a.air with standstill := .stopped } } .speedLost
    rw [← hexpiry] at hraise hframe
    have hflag := hraise.flag_must (List.mem_singleton.mpr rfl)
    have hslide : (staleExpiry a).slide = { a.slide with speedState := .lost, staleTimer := .stopped } := by
      rw [hframe]
      rfl
    have hair : (staleExpiry a).air = { a.air with standstill := .stopped } := by
      rw [hframe]
      rfl
    have hapart : SpeedAlone a (staleExpiry a) := by
      rw [hexpiry]
      refine SpeedAlone.trans (a := { a with
        slide := { a.slide with speedState := .lost, staleTimer := .stopped }
        air := { a.air with standstill := .stopped } }) ⟨rfl, rfl, rfl, rfl⟩ (speedAlone_raise .speedLost _)
    refine ⟨(hset.trans hraise).maybe (by simp), ?_, ?_, hapart, fun _ => ⟨?_, ?_, ?_, hflag⟩,
      fun hfresh => absurd hdue hfresh⟩
    · rw [hslide]
    · rw [hair]
    · rw [hslide]
    · rw [hslide]
    · rw [hair]
  · have hexpiry : staleExpiry a = a := if_neg (mt (staleDue_iff a).mp hdue)
    rw [hexpiry]
    exact ⟨(Derives.refl a).weaken (by simp), rfl, rfl, ⟨rfl, rfl, rfl, rfl⟩, fun h => absurd h hdue, fun _ => rfl⟩

/-! ## The sand hold timer (R46) -/

/-- State `d` is `b` after the sand hold timer's expiry, if it is due, and the sand conditions. -/
structure SandPassed (b d : State) : Prop where
  frame : d = { b with slide := { b.slide with sandRequest := d.slide.sandRequest, sandTimer := d.slide.sandTimer } }
  called : sandCalled b = true → d.slide.sandRequest = true ∧ d.slide.sandTimer = .stopped
  expired : ¬ sandCalled b = true → b.slide.sandTimer.reached (sandHoldMs b.tables) = true →
    d.slide.sandRequest = false ∧ d.slide.sandTimer = .stopped
  off : ¬ sandCalled b = true → ¬ b.slide.sandTimer.reached (sandHoldMs b.tables) = true → b.slide.sandRequest = false →
    d.slide.sandRequest = false ∧ d.slide.sandTimer = b.slide.sandTimer
  held : ¬ sandCalled b = true → ¬ b.slide.sandTimer.reached (sandHoldMs b.tables) = true → b.slide.sandRequest = true →
    if sandHoldMs b.tables = 0 then d.slide.sandRequest = false ∧ d.slide.sandTimer = .stopped
    else d.slide.sandRequest = true ∧ d.slide.sandTimer = b.slide.sandTimer.startIfStopped

theorem sand_passed {b : State} (hloaded : b.tables.slide.loaded = true) : SandPassed b (evalSand (sandExpiry b)) := by
  have hframe : ∀ c : State, c = { b with slide := { b.slide with
        sandRequest := c.slide.sandRequest, sandTimer := c.slide.sandTimer } } →
      evalSand c = { b with slide := { b.slide with
        sandRequest := (evalSand c).slide.sandRequest, sandTimer := (evalSand c).slide.sandTimer } } := by
    intro c hc
    obtain ⟨request, timer, hsand⟩ := evalSand_frame c
    rw [hsand, hc]
  by_cases hreached : b.slide.sandTimer.reached (sandHoldMs b.tables) = true
  · have hexpiry : sandExpiry b = { b with slide := { b.slide with sandRequest := false, sandTimer := .stopped } } :=
      if_pos hreached
    rw [hexpiry]
    refine ⟨hframe _ rfl, fun hcalled => ?_, fun hcalled _ => ?_, fun _ h => absurd hreached h, fun _ h => absurd hreached h⟩
    · rw [evalSand_called (by exact hloaded) (by exact hcalled)]
      exact ⟨rfl, rfl⟩
    · rw [evalSand_uncalled (by exact hloaded) (by exact Bool.eq_false_iff.mpr hcalled), if_pos rfl]
      exact ⟨rfl, rfl⟩
  · have hexpiry : sandExpiry b = b := if_neg hreached
    rw [hexpiry]
    refine ⟨hframe _ rfl, fun hcalled => ?_, fun _ h => absurd h hreached, fun hcalled _ hoff => ?_,
      fun hcalled _ hon => ?_⟩
    · rw [evalSand_called hloaded hcalled]
      exact ⟨rfl, rfl⟩
    · rw [evalSand_uncalled hloaded (Bool.eq_false_iff.mpr hcalled), if_pos hoff]
      exact ⟨hoff, rfl⟩
    · have huncalled := evalSand_uncalled hloaded (Bool.eq_false_iff.mpr hcalled)
      rw [hon, if_neg (by simp)] at huncalled
      by_cases hzero : sandHoldMs b.tables = 0
      · rw [if_pos hzero, huncalled, if_pos (by exact hzero)]
        exact ⟨rfl, rfl⟩
      · rw [if_neg hzero, huncalled, if_neg (by exact hzero)]
        exact ⟨hon, rfl⟩

/-! ## The whole write -/

/-- What the sand conditions are once the prolonged episodes are marked (R39, R46). -/
def SandCalledBy (u : State) : Prop :=
  tableField u.tables.slide 18 0 ≤ (six.filter (fun i =>
      decide ((u.slide.axles.get i).state = .relief ∨ (u.slide.axles.get i).state = .hold))).length
    ∨ (∃ i, (u.slide.axles.get i).prolonged = true) ∨ (∃ i, episodeDue u i = true) ∨ (activeDemand u).sand = true

theorem sandCalled_passed {u a b : State} (ha : EpisodesPassed six u a) (hb : StalePassed a b) :
    sandCalled b = true ↔ SandCalledBy u := by
  have hstate : ∀ i, (b.slide.axles.get i).state = (u.slide.axles.get i).state := by
    intro i
    rw [hb.slide]
    show (a.slide.axles.get i).state = _
    rw [ha.axle i]
    split <;> rfl
  have hprolonged : (∃ i, (b.slide.axles.get i).prolonged = true) ↔
      (∃ i, (u.slide.axles.get i).prolonged = true) ∨ ∃ i, episodeDue u i = true := by
    have heach : ∀ i, (b.slide.axles.get i).prolonged = true ↔
        (u.slide.axles.get i).prolonged = true ∨ episodeDue u i = true := by
      intro i
      rw [hb.slide]
      show (a.slide.axles.get i).prolonged = true ↔ _
      rw [ha.axle i]
      by_cases hdue : episodeDue u i = true
      · rw [if_pos ⟨mem_six i, hdue⟩]
        exact ⟨fun _ => .inr hdue, fun _ => rfl⟩
      · rw [if_neg (fun h => hdue h.2)]
        exact ⟨.inl, fun h => h.resolve_right hdue⟩
    simp only [heach, exists_or]
  rw [sandCalled_iff, hprolonged, hb.derives.tables, ha.derives.tables,
    activeDemand_congr (hb.derives.tables.trans ha.derives.tables) (ha.apart.trans hb.apart).authority
      (ha.apart.trans hb.apart).inputs, or_assoc]
  simp only [hstate]
  exact .rfl

section
variable {u : State} (hmode : u.control.mode ≠ .service) (hloaded : u.tables.slide.loaded = true)
include hmode hloaded

/-- What a write of SLIDE brings about (R172). -/
structure SlideWritten (u d : State) : Prop where
  derives : Derives [] [.slideProlonged, .speedLost] u d
  apart : SpeedAlone u d
  slide : d.slide = { u.slide with
    axles := d.slide.axles, speedState := d.slide.speedState, staleTimer := d.slide.staleTimer
    sandRequest := d.slide.sandRequest, sandTimer := d.slide.sandTimer }
  air : d.air = { u.air with standstill := d.air.standstill }
  axle : ∀ i, (episodeDue u i = true → d.slide.axles.get i = prolongedAxle u i ∧ flagSet d .slideProlonged = true)
    ∧ (¬ episodeDue u i = true → d.slide.axles.get i = u.slide.axles.get i)
  stale : StaleDue u → d.slide.speedState = .lost ∧ d.slide.staleTimer = .stopped ∧ d.air.standstill = .stopped
    ∧ flagSet d .speedLost = true
  fresh : ¬ StaleDue u → d.slide.speedState = u.slide.speedState ∧ d.slide.staleTimer = u.slide.staleTimer
    ∧ d.air = u.air ∧ flagSet d .speedLost = flagSet u .speedLost
  called : SandCalledBy u → d.slide.sandRequest = true ∧ d.slide.sandTimer = .stopped
  expired : ¬ SandCalledBy u → u.slide.sandTimer.reached (sandHoldMs u.tables) = true →
    d.slide.sandRequest = false ∧ d.slide.sandTimer = .stopped
  off : ¬ SandCalledBy u → ¬ u.slide.sandTimer.reached (sandHoldMs u.tables) = true → u.slide.sandRequest = false →
    d.slide.sandRequest = false ∧ d.slide.sandTimer = u.slide.sandTimer
  held : ¬ SandCalledBy u → ¬ u.slide.sandTimer.reached (sandHoldMs u.tables) = true → u.slide.sandRequest = true →
    if sandHoldMs u.tables = 0 then d.slide.sandRequest = false ∧ d.slide.sandTimer = .stopped
    else d.slide.sandRequest = true ∧ d.slide.sandTimer = u.slide.sandTimer.startIfStopped

theorem afterSlideWrite_written : SlideWritten u (afterSlideWrite u) := by
  have ha := episodes_passed hmode hloaded six (by decide)
  unfold afterSlideWrite
  generalize six.foldl (fun s i => episodeExpiry i s) u = a at ha
  have hb := stale_passed (a := a) (by rw [ha.derives.control]; exact hmode)
  generalize staleExpiry a = b at hb
  have htables : b.tables = u.tables := hb.derives.tables.trans ha.derives.tables
  have hd := sand_passed (b := b) (by rw [htables]; exact hloaded)
  generalize evalSand (sandExpiry b) = d at hd
  have hcalled := sandCalled_passed ha hb
  have hstale : StaleDue a ↔ StaleDue u := by
    unfold StaleDue
    rw [ha.slide, ha.derives.tables]
  have hfound : ¬ SandCalledBy u → ∀ i ∈ six, ¬ episodeDue u i = true :=
    fun hn i _ hi => hn (.inr (.inr (.inl ⟨i, hi⟩)))
  have hsame : ¬ SandCalledBy u → b.slide.sandRequest = u.slide.sandRequest ∧ b.slide.sandTimer = u.slide.sandTimer := by
    intro hn
    rw [hb.slide, ha.stands (hfound hn)]
    exact ⟨rfl, rfl⟩
  have hquiet : Derives [] [] b d := by
    refine .quiet ?_
    rw [hd.frame]
    rfl
  have hflags : ∀ f, flagSet d f = flagSet b f := fun f => flagSet_congr (by rw [hd.frame]) f
  have hdair : d.air = b.air := by rw [hd.frame]
  have hdslide := congrArg State.slide hd.frame
  dsimp only at hdslide
  have haxles : d.slide.axles = a.slide.axles := by rw [hdslide, hb.slide]
  have hspeed : d.slide.speedState = b.slide.speedState := by rw [hdslide]
  have htimer : d.slide.staleTimer = b.slide.staleTimer := by rw [hdslide]
  refine ⟨?_, ?_, ?_, ?_, fun i => ⟨fun hdue => ⟨?_, ?_⟩, fun hnot => ?_⟩, fun hs => ?_, fun hf => ?_, fun hc => ?_,
    fun hc hr => ?_, fun hc hr ho => ?_, fun hc hr ho => ?_⟩
  · exact ((ha.derives.trans (hb.derives.trans hquiet))).weaken (by simp)
  · refine (ha.apart.trans hb.apart).trans ⟨?_, ?_, ?_, ?_⟩ <;> rw [hd.frame]
  · rw [hdslide, hb.slide, ha.slide]
  · rw [hdair, hb.air, ha.air]
  · rw [haxles, ha.axle i, if_pos ⟨mem_six i, hdue⟩]
  · rw [hflags]
    exact hb.derives.flag_stays (ha.flag ⟨i, mem_six i, hdue⟩)
  · rw [haxles, ha.axle i, if_neg fun h => hnot h.2]
  · rw [hflags, hdair, hspeed, htimer]
    exact hb.stale (hstale.mpr hs)
  · rw [hflags, hdair, hspeed, htimer, hb.fresh (mt hstale.mp hf), ha.derives.flag_kept (by simp) (by simp), ha.slide, ha.air]
    exact ⟨rfl, rfl, rfl, rfl⟩
  · exact hd.called (hcalled.mpr hc)
  · obtain ⟨-, htimer⟩ := hsame hc
    exact hd.expired (mt hcalled.mp hc) (by rw [htimer, htables]; exact hr)
  · obtain ⟨hrequest, htimer⟩ := hsame hc
    rw [← htimer]
    exact hd.off (mt hcalled.mp hc) (by rw [htimer, htables]; exact hr) (by rw [hrequest]; exact ho)
  · obtain ⟨hrequest, htimer⟩ := hsame hc
    rw [← htimer, ← htables]
    exact hd.held (mt hcalled.mp hc) (by rw [htimer, htables]; exact hr) (by rw [hrequest]; exact ho)

end

end Sys2Proof.Machine
end

section
/-! PROOF. The write of DISCRETE (O53): one written line (R150). -/

namespace Sys2Proof.Machine

/-! ## An accepted level outside SERVICE -/

theorem evalEmergency_derives (u : State) : Derives [] [] u (evalEmergency u) := by
  refine .quiet ?_
  rw [evalEmergency_eq]
  rfl

theorem setLatch_derives {u : State} (hmode : u.control.mode ≠ .service) : Derives [] [.emergency] u (setLatch u) := by
  cases hlatch : u.authority.latch with
  | true =>
    rw [setLatch_of_set hlatch]
    exact (Derives.refl u).weaken (by simp)
  | false =>
    rw [setLatch_of_clear hlatch, trigger_ignored _ _ (by rw [(raise_moves _ _).mode]; exact hmode)]
    have hset : Derives [] [] u (latched u) := .quiet rfl
    exact (hset.trans (Derives.raise .emergency (latched u))).maybe (by simp)

/-- The consumer of a line raises PENALTY or EMERGENCY at most. -/
theorem deliverLine_derives {u : State} (hmode : u.control.mode ≠ .service) (n : Fin 6) (active : Bool) :
    Derives [] [.penalty, .emergency] u (deliverLine n active u) := by
  rcases line_cases n with rfl | rfl | rfl | hplain
  · cases active
    · exact (evalEmergency_derives u).weaken (by simp)
    · exact ((setLatch_derives hmode).trans (evalEmergency_derives _)).weaken (by simp)
  · cases active
    · exact (Derives.refl u).weaken (by simp)
    · exact (Derives.raise .penalty u).maybe (by simp)
  · refine Derives.weaken (Derives.quiet ?_) (by simp)
    cases active
    · show leaveCutout u = derivedFrom u (leaveCutout u)
      unfold leaveCutout
      split <;> rfl
    · show enterCutout u = derivedFrom u (enterCutout u)
      unfold enterCutout
      split <;> rfl
  · rw [deliverLine_plain hplain]
    exact (Derives.refl u).weaken (by simp)

/-- Outside SERVICE an edge gives its flag alone (R102, R149). -/
theorem edgeGiven_outside {s : State} {n : Fin 6} (hmode : s.control.mode ≠ .service)
    (h : edgeMatches s.tables n (s.lines.inputs.get n).present = true) :
    edgeGiven s n = raise .discreteEdge (lineAccepted s n) := by
  rw [edgeGiven_matches s n h, trigger_ignored _ _ (by rw [(raise_moves _ _).mode]; exact hmode)]

theorem edgeGiven_derives {s : State} (hmode : s.control.mode ≠ .service) (n : Fin 6) :
    Derives [] [.discreteEdge] s (edgeGiven s n) := by
  have haccepted : Derives [] [] s (lineAccepted s n) := .quiet rfl
  by_cases h : edgeMatches s.tables n (s.lines.inputs.get n).present = true
  · rw [edgeGiven_outside hmode h]
    exact (haccepted.trans (Derives.raise .discreteEdge _)).maybe (by simp)
  · rw [edgeGiven_else s n h]
    exact haccepted.weaken (by simp)

/-- A write of DISCRETE moves no records of the nodes, the speed unit or the trucks. -/
structure LinesAlone (u v : State) : Prop where
  nodes : v.link.nodes = u.link.nodes
  slide : v.slide = u.slide
  air : v.air = u.air

theorem LinesAlone.trans {u a v : State} (h : LinesAlone u a) (k : LinesAlone a v) : LinesAlone u v :=
  ⟨k.nodes.trans h.nodes, k.slide.trans h.slide, k.air.trans h.air⟩

/-- State `v` is `u` after line `n` accepted the level `active`. -/
structure LineTaken (n : Fin 6) (active : Bool) (u v : State) : Prop where
  derives : Derives [] [.discreteEdge, .penalty, .emergency] u v
  apart : LinesAlone u v
  inputs : v.lines.inputs = u.lines.inputs.set n (acceptedRecord u n)
  edge : edgeMatches u.tables n active = true → flagSet v .discreteEdge = true
  authority : v.authority = { u.authority with
    latch := u.authority.latch || (decide (n = 0) && active), resetTimer := v.authority.resetTimer }
  stands : n ≠ 0 → v.authority.resetTimer = u.authority.resetTimer
  follows : n = 0 → ResetTimerFollows u.authority.resetTimer v
  emergency : n = 0 → active = true → u.authority.latch = false → flagSet v .emergency = true
  penalty : n = 1 → active = true → flagSet v .penalty = true
  brake : v.brake = if n = 2 then
      (if active then if u.brake.state = .cutout then u.brake else broughtOut u.brake .cutout none
      else if u.brake.state = .cutout then { u.brake with state := .off } else u.brake)
    else u.brake

theorem acceptLine_taken {u : State} (hmode : u.control.mode ≠ .service) (n : Fin 6) :
    LineTaken n (u.lines.inputs.get n).present u (acceptLine n u) := by
  rw [acceptLine_eq]
  have hedge := edgeGiven_derives hmode n
  have hedgeFlag : edgeMatches u.tables n (u.lines.inputs.get n).present = true →
      flagSet (edgeGiven u n) .discreteEdge = true := by
    intro h
    rw [edgeGiven_outside hmode h]
    exact (raise_flagsRaised _ .discreteEdge .discreteEdge).1 (.inr (by simp))
  have hframe := (edgeGiven_moves u n).frame
  have hauthority : (edgeGiven u n).authority = u.authority := by
    rw [hframe]
    rfl
  have hbrake : (edgeGiven u n).brake = u.brake := by
    rw [hframe]
    rfl
  have hinputs : (edgeGiven u n).lines.inputs = u.lines.inputs.set n (acceptedRecord u n) := by
    rw [hframe]
    rfl
  have hapart : LinesAlone u (edgeGiven u n) := by
    refine ⟨?_, ?_, ?_⟩ <;> rw [hframe] <;> rfl
  have hdeliver := deliverLine_derives (u := edgeGiven u n) (by rw [hedge.control]; exact hmode) n
    (u.lines.inputs.get n).present
  have hdelivered : LineDelivered n (u.lines.inputs.get n).present (edgeGiven u n)
      (deliverLine n (u.lines.inputs.get n).present (edgeGiven u n)) := deliverLine_delivered _ _ _ fun h0 ha => by
    subst h0
    unfold emergActive
    rw [hinputs]
    exact ha
  generalize deliverLine n (u.lines.inputs.get n).present (edgeGiven u n) = v at hdeliver hdelivered
  generalize edgeGiven u n = w at hedge hedgeFlag hauthority hbrake hinputs hapart hdeliver hdelivered
  have hvapart : LinesAlone w v := by
    refine ⟨?_, ?_, ?_⟩ <;> rw [hdelivered.moves.frame] <;> rfl
  have hvinputs : v.lines.inputs = w.lines.inputs := by
    rw [hdelivered.moves.frame]
    rfl
  refine ⟨(hedge.trans hdeliver).weaken (by simp), hapart.trans hvapart, hvinputs.trans hinputs,
    fun h => hdeliver.flag_stays (hedgeFlag h), ?_, fun h => ?_, fun h => ?_, fun h0 ha hl => ?_, hdelivered.penalty, ?_⟩
  · rw [← hauthority]
    exact hdelivered.authority
  · rw [← hauthority]
    exact hdelivered.stands h
  · rw [← hauthority]
    exact hdelivered.follows h
  · exact hdelivered.emergency ⟨h0, ha, by rw [hauthority]; exact hl⟩
  · rw [← hbrake]
    exact hdelivered.brake

end Sys2Proof.Machine
end

section
/-! PROOF. The write of DISCRETE (O53): each written line, and all of them in ascending number (R150). -/

namespace Sys2Proof.Machine

/-! ## One written line -/

section
variable (old ts : Tables) (n : Fin 6) (r : InputRecord)

/-- The write turns the line's polarity over. -/
def lineInverts : Bool := lineActiveLow old n != lineActiveLow ts n

/-- The line's present level after the write. -/
def lineLevel : Bool := if lineInverts old ts n then (if lineActiveLow ts n then !r.pin else r.pin) else r.present

/-- The write accepts the line's level (R147, R148, R150). -/
def LineAccepts : Prop :=
  lineInverts old ts n = true ∧ lineLevel old ts n r ≠ r.accepted ∧ lineDebounce ts n = 0
    ∨ lineInverts old ts n = false ∧ lineDebounce old n ≠ lineDebounce ts n
      ∧ r.debounce.reached (lineDebounce ts n) = true

/-- The record of a written line that is not accepted. -/
def lineCompared : InputRecord :=
  if lineInverts old ts n then
    { r with
      present := lineLevel old ts n r
      debounce := if lineLevel old ts n r = r.accepted then .stopped else .running 0 }
  else r

/-- The record of a written line that is accepted. -/
def lineTaken : InputRecord :=
  ⟨r.pin, lineLevel old ts n r, lineLevel old ts n r, .stopped, r.edge || edgeMatches ts n (lineLevel old ts n r)⟩

/-- The line's record with the level it reads as. -/
def linePresented : InputRecord := { r with present := lineLevel old ts n r }

end

theorem Six.set_get {α : Type} (x : Six α) (n : Fin 6) : x.set n (x.get n) = x := by
  fin_cases n <;> rfl

theorem Six.set_set {α : Type} (x : Six α) (n : Fin 6) (a b : α) : (x.set n a).set n b = x.set n b := by
  fin_cases n <;> rfl

theorem setInput_same (s : State) (n : Fin 6) : setInput s n (s.lines.inputs.get n) = s := by
  unfold setInput
  rw [Six.set_get]

/-- What a DISCRETE write does to one written line: its level is accepted, or its record is compared. -/
theorem rewriteLine_cases (old : Tables) {s : State} (hmode : s.control.mode ≠ .service) (n : Fin 6) :
    LineAccepts old s.tables n (s.lines.inputs.get n) ∧ rewriteLine old s n =
        acceptLine n (setInput s n (linePresented old s.tables n (s.lines.inputs.get n)))
    ∨ ¬ LineAccepts old s.tables n (s.lines.inputs.get n) ∧ rewriteLine old s n =
        setInput s n (lineCompared old s.tables n (s.lines.inputs.get n)) := by
  have hget : ∀ r, (setInput s n r).lines.inputs.get n = r := fun r => Six.get_set_same _ n r
  cases hinverts : lineInverts old s.tables n with
  | false =>
    have hsame : lineActiveLow old n = lineActiveLow s.tables n := by simpa [lineInverts] using hinverts
    have hlevel : lineLevel old s.tables n (s.lines.inputs.get n) = (s.lines.inputs.get n).present := by
      unfold lineLevel
      rw [hinverts]
      rfl
    have haccepts : LineAccepts old s.tables n (s.lines.inputs.get n) ↔
        lineDebounce old n ≠ lineDebounce s.tables n ∧ debounceDue s n = true := by
      unfold LineAccepts
      rw [hinverts]
      simp [debounceDue]
    have hpresented : setInput s n (linePresented old s.tables n (s.lines.inputs.get n)) = s := by
      unfold linePresented
      rw [hlevel]
      exact setInput_same s n
    have hcompared : setInput s n (lineCompared old s.tables n (s.lines.inputs.get n)) = s := by
      unfold lineCompared
      rw [hinverts]
      exact setInput_same s n
    have hrewrite : rewriteLine old s n =
        if lineDebounce old n = lineDebounce s.tables n then s else debounceExpired n s := by
      unfold rewriteLine
      rw [if_pos hsame]
    rw [hpresented, hcompared, hrewrite, haccepts]
    by_cases hdebounce : lineDebounce old n = lineDebounce s.tables n
    · exact .inr ⟨fun h => h.1 hdebounce, if_pos hdebounce⟩
    · rw [if_neg hdebounce]
      by_cases hdue : debounceDue s n = true
      · exact .inl ⟨⟨hdebounce, hdue⟩, if_pos hdue⟩
      · exact .inr ⟨fun h => hdue h.2, if_neg hdue⟩
  | true =>
    have hother : lineActiveLow old n ≠ lineActiveLow s.tables n := by simpa [lineInverts] using hinverts
    have hlevel : lineLevel old s.tables n (s.lines.inputs.get n) = presentLevel s n (s.lines.inputs.get n).pin := by
      unfold lineLevel
      rw [hinverts]
      rfl
    have haccepts : LineAccepts old s.tables n (s.lines.inputs.get n) ↔
        lineLevel old s.tables n (s.lines.inputs.get n) ≠ (s.lines.inputs.get n).accepted ∧ lineDebounce s.tables n = 0 := by
      unfold LineAccepts
      rw [hinverts]
      simp
    have hrewrite : ∀ v, compareLine n (setInput s n (linePresented old s.tables n (s.lines.inputs.get n))) = v →
        v.tables = s.tables → debounceDue v n = false → rewriteLine old s n = v := by
      intro v hv htables hdue
      unfold rewriteLine
      rw [if_neg hother]
      unfold linePresented at hv
      rw [hlevel] at hv
      dsimp only
      rw [hv]
      split
      · rfl
      · unfold debounceExpired
        rw [hdue]
        rfl
    by_cases hequal : lineLevel old s.tables n (s.lines.inputs.get n) = (s.lines.inputs.get n).accepted
    · refine .inr ⟨fun h => (haccepts.mp h).1 hequal, hrewrite _ ?_ rfl ?_⟩
      · rw [compareLine_equal (by rw [hget]; exact hequal), hget, setInput_setInput]
        unfold lineCompared linePresented
        rw [hinverts, if_pos rfl, if_pos hequal]
      · unfold debounceDue lineCompared
        rw [hget, hinverts, if_pos rfl, if_pos hequal]
        rfl
    · by_cases hzero : lineDebounce s.tables n = 0
      · have htaken := acceptLine_taken
          (u := setInput s n (linePresented old s.tables n (s.lines.inputs.get n))) (by exact hmode) n
        refine .inl ⟨haccepts.mpr ⟨hequal, hzero⟩, hrewrite _ (compareLine_accepted (by rw [hget]; exact hequal) hzero)
          htaken.derives.tables ?_⟩
        unfold debounceDue
        rw [htaken.inputs, Six.get_set_same]
        rfl
      · refine .inr ⟨fun h => hzero (haccepts.mp h).2, hrewrite _ ?_ rfl ?_⟩
        · rw [compareLine_debounced (s := setInput s n (linePresented old s.tables n (s.lines.inputs.get n)))
            (by rw [hget]; exact hequal) hzero, hget, setInput_setInput]
          unfold lineCompared linePresented
          rw [hinverts, if_pos rfl, if_neg hequal]
        · unfold debounceDue lineCompared
          rw [hget, hinverts, if_pos rfl, if_neg hequal]
          exact decide_eq_false (fun h => hzero (Nat.le_zero.mp h))

/-! ## The written lines in ascending number -/

/-- The reset timer follows by the accepted level of line 0, the authority and the SOURCE table (R20). -/
theorem ResetTimerFollows.lines {before : Timer} {s t : State} (h : ResetTimerFollows before s)
    (haccepted : (t.lines.inputs.get 0).accepted = (s.lines.inputs.get 0).accepted)
    (hauthority : t.authority = s.authority) (htables : t.tables = s.tables) : ResetTimerFollows before t := by
  have hpresent : EmergencyPresent t ↔ EmergencyPresent s := by
    unfold EmergencyPresent
    rw [haccepted, hauthority]
  unfold ResetTimerFollows at *
  rwa [hpresent, hauthority, htables]

section
variable (old : Tables) (u : State)

/-- Line `n` of `u` is accepted by the write. -/
def Accepts (n : Fin 6) : Prop := LineAccepts old u.tables n (u.lines.inputs.get n)

/-- The level of line `n` of `u` after the write. -/
def levelAfter (n : Fin 6) : Bool := lineLevel old u.tables n (u.lines.inputs.get n)

/-- The channel after DB_CUTOUT was accepted at a level (R57). -/
def cutoutBrake (active : Bool) (b : Brake) : Brake :=
  if active then (if b.state = .cutout then b else broughtOut b .cutout none)
  else if b.state = .cutout then { b with state := .off } else b

end

/-- State `v` is `u` after a DISCRETE write's effect on the lines of `l`. -/
structure LinesRewritten (old : Tables) (l : List (Fin 6)) (u v : State) : Prop where
  derives : Derives [] [.discreteEdge, .penalty, .emergency] u v
  apart : LinesAlone u v
  other : ∀ n, n ∉ l → v.lines.inputs.get n = u.lines.inputs.get n
  taken : ∀ n ∈ l, Accepts old u n → v.lines.inputs.get n = lineTaken old u.tables n (u.lines.inputs.get n)
  compared : ∀ n ∈ l, ¬ Accepts old u n → v.lines.inputs.get n = lineCompared old u.tables n (u.lines.inputs.get n)
  edge : ∀ n ∈ l, Accepts old u n → edgeMatches u.tables n (levelAfter old u n) = true → flagSet v .discreteEdge = true
  authority : 0 ∈ l → Accepts old u 0 → v.authority = { u.authority with
      latch := u.authority.latch || levelAfter old u 0, resetTimer := v.authority.resetTimer }
    ∧ ResetTimerFollows u.authority.resetTimer v
    ∧ (levelAfter old u 0 = true → u.authority.latch = false → flagSet v .emergency = true)
  stands : ¬ (0 ∈ l ∧ Accepts old u 0) → v.authority = u.authority
  penalty : 1 ∈ l → Accepts old u 1 → levelAfter old u 1 = true → flagSet v .penalty = true
  brake : 2 ∈ l → Accepts old u 2 → v.brake = cutoutBrake (levelAfter old u 2) u.brake
  keeps : ¬ (2 ∈ l ∧ Accepts old u 2) → v.brake = u.brake
  quiet : (∀ n ∈ l, ¬ Accepts old u n) → v = derivedFrom u v

section
variable {old : Tables} {l : List (Fin 6)} {u a : State} (h : LinesRewritten old l u a) {n : Fin 6} (hn : n ∉ l)
include h hn

/-- One more line, whose record is compared. -/
theorem LinesRewritten.next_compared (haccepts : ¬ Accepts old u n) : LinesRewritten old (l ++ [n]) u
    (setInput a n (lineCompared old u.tables n (u.lines.inputs.get n))) := by
  have hset : Derives [] [] a (setInput a n (lineCompared old u.tables n (u.lines.inputs.get n))) := .quiet rfl
  have hmem : ∀ m, m ∈ l ++ [n] ∧ Accepts old u m → m ∈ l ∧ Accepts old u m := by
    rintro m ⟨hm, hacc⟩
    rcases List.mem_append.mp hm with hm | hm
    · exact ⟨hm, hacc⟩
    · exact absurd (List.mem_singleton.mp hm ▸ hacc) haccepts
  have hother : ∀ m, m ≠ n →
      (a.lines.inputs.set n (lineCompared old u.tables n (u.lines.inputs.get n))).get m = a.lines.inputs.get m :=
    fun m hm => Six.get_set_other _ _ _ _ (Ne.symm hm)
  refine ⟨(h.derives.trans hset).weaken (by simp), h.apart.trans ⟨rfl, rfl, rfl⟩, fun m hm => ?_, fun m hm hacc => ?_, fun m hm hacc => ?_,
    fun m hm hacc => ?_, fun hm hacc => ?_, fun hnot => ?_, fun hm hacc => ?_, fun hm hacc => ?_, fun hnot => ?_,
    fun hnone => ?_⟩
  · rw [List.mem_append, List.mem_singleton, not_or] at hm
    exact (hother m hm.2).trans (h.other m hm.1)
  · obtain ⟨hml, -⟩ := hmem m ⟨hm, hacc⟩
    exact (hother m fun he => hn (he ▸ hml)).trans (h.taken m hml hacc)
  · by_cases he : m = n
    · rw [he]
      exact Six.get_set_same _ _ _
    · have hml : m ∈ l := (List.mem_append.mp hm).resolve_right fun hs => he (List.mem_singleton.mp hs)
      exact (hother m he).trans (h.compared m hml hacc)
  · exact h.edge m (hmem m ⟨hm, hacc⟩).1 hacc
  · obtain ⟨hml, -⟩ := hmem 0 ⟨hm, hacc⟩
    obtain ⟨hauthority, hfollows, hemergency⟩ := h.authority hml hacc
    refine ⟨hauthority, hfollows.lines ?_ rfl rfl, hemergency⟩
    exact congrArg InputRecord.accepted (hother 0 fun he => hn (he ▸ hml))
  · exact h.stands fun hc => hnot ⟨List.mem_append_left _ hc.1, hc.2⟩
  · exact h.penalty (hmem 1 ⟨hm, hacc⟩).1 hacc
  · exact h.brake (hmem 2 ⟨hm, hacc⟩).1 hacc
  · exact h.keeps fun hc => hnot ⟨List.mem_append_left _ hc.1, hc.2⟩
  · rw [h.quiet fun m hm => hnone m (List.mem_append_left _ hm)]
    rfl

end

end Sys2Proof.Machine
end

section
/-! PROOF. The write of DISCRETE (O53), continued: an accepted line, and all the written lines. -/

namespace Sys2Proof.Machine

section
variable {old : Tables} {l : List (Fin 6)} {u a : State} (h : LinesRewritten old l u a) {n : Fin 6} (hn : n ∉ l)
include h hn

/-- One more line, whose level is accepted. -/
theorem LinesRewritten.next_taken (hmode : u.control.mode ≠ .service) (haccepts : Accepts old u n) :
    LinesRewritten old (l ++ [n]) u
      (acceptLine n (setInput a n (linePresented old u.tables n (u.lines.inputs.get n)))) := by
  have hset : Derives [] [] a (setInput a n (linePresented old u.tables n (u.lines.inputs.get n))) := .quiet rfl
  have htaken := acceptLine_taken (u := setInput a n (linePresented old u.tables n (u.lines.inputs.get n)))
    (by rw [hset.control, h.derives.control]; exact hmode) n
  have hget : (setInput a n (linePresented old u.tables n (u.lines.inputs.get n))).lines.inputs.get n =
      linePresented old u.tables n (u.lines.inputs.get n) := Six.get_set_same _ _ _
  have hrecord : acceptedRecord (setInput a n (linePresented old u.tables n (u.lines.inputs.get n))) n =
      lineTaken old u.tables n (u.lines.inputs.get n) := by
    unfold acceptedRecord
    rw [hget, hset.tables, h.derives.tables]
    rfl
  obtain ⟨hderives, hapart, hinputs, hedge, hauthority, hstands, hfollows, hemergency, hpenalty, hbrake⟩ := htaken
  rw [hget, hset.tables, h.derives.tables] at hedge
  rw [hrecord] at hinputs
  rw [hget] at hauthority hemergency hpenalty hbrake
  generalize acceptLine n (setInput a n (linePresented old u.tables n (u.lines.inputs.get n))) = v
    at hderives hapart hinputs hedge hauthority hstands hfollows hemergency hpenalty hbrake
  have hderived : Derives [] [.discreteEdge, .penalty, .emergency] a v := (hset.trans hderives).weaken (by simp)
  have hsame : v.lines.inputs.get n = lineTaken old u.tables n (u.lines.inputs.get n) := by
    rw [hinputs]
    exact Six.get_set_same _ _ _
  have hother : ∀ m, m ≠ n → v.lines.inputs.get m = a.lines.inputs.get m := by
    intro m hm
    rw [hinputs, Six.get_set_other _ _ _ _ (Ne.symm hm)]
    exact Six.get_set_other _ _ _ _ (Ne.symm hm)
  have hcases : ∀ m, m ∈ l ++ [n] → m = n ∨ m ≠ n ∧ m ∈ l := by
    intro m hm
    rcases List.mem_append.mp hm with hm | hm
    · exact .inr ⟨fun he => hn (he ▸ hm), hm⟩
    · exact .inl (List.mem_singleton.mp hm)
  have hauthorityOther : n ≠ 0 → v.authority = a.authority := by
    intro h0
    rw [hauthority, hstands h0, decide_eq_false h0, Bool.false_and, Bool.or_false]
    rfl
  have hbrakeOther : n ≠ 2 → v.brake = a.brake := fun h2 => hbrake.trans (if_neg h2)
  have hsetApart : LinesAlone a (setInput a n (linePresented old u.tables n (u.lines.inputs.get n))) := ⟨rfl, rfl, rfl⟩
  refine ⟨h.derives.then hderived, h.apart.trans (hsetApart.trans hapart), fun m hm => ?_, fun m hm hacc => ?_, fun m hm hacc => ?_,
    fun m hm hacc hedges => ?_, fun hm hacc => ?_, fun hnot => ?_, fun hm hacc hl => ?_, fun hm hacc => ?_, fun hnot => ?_,
    fun hnone => absurd haccepts (hnone n (by simp))⟩
  · rw [List.mem_append, List.mem_singleton, not_or] at hm
    exact (hother m hm.2).trans (h.other m hm.1)
  · rcases hcases m hm with rfl | ⟨hne, hml⟩
    · exact hsame
    · exact (hother m hne).trans (h.taken m hml hacc)
  · rcases hcases m hm with rfl | ⟨hne, hml⟩
    · exact absurd haccepts hacc
    · exact (hother m hne).trans (h.compared m hml hacc)
  · rcases hcases m hm with rfl | ⟨hne, hml⟩
    · exact hedge hedges
    · exact hderived.flag_stays (h.edge m hml hacc hedges)
  · rcases hcases 0 hm with h0 | ⟨hne, hml⟩
    · have hbefore : a.authority = u.authority := h.stands fun hc => hn (h0 ▸ hc.1)
      subst h0
      have hlatch : (setInput a 0 (linePresented old u.tables 0 (u.lines.inputs.get 0))).authority = u.authority := hbefore
      rw [hlatch] at hauthority hemergency hfollows
      refine ⟨hauthority.trans ?_, hfollows rfl, fun hl hclear => hemergency rfl hl hclear⟩
      rw [decide_eq_true (rfl : (0 : Fin 6) = 0), Bool.true_and]
      rfl
    · obtain ⟨hauthority0, hfollows0, hemergency0⟩ := h.authority hml hacc
      have hkept := hauthorityOther (Ne.symm hne)
      refine ⟨?_, ?_, fun hl hclear => hderived.flag_stays (hemergency0 hl hclear)⟩
      · rw [hkept]
        exact hauthority0
      · exact hfollows0.lines (congrArg InputRecord.accepted (hother 0 hne)) hkept hderived.tables
  · have h0 : n ≠ 0 := fun he => hnot (he ▸ ⟨by simp, haccepts⟩)
    rw [hauthorityOther h0]
    exact h.stands fun hc => hnot ⟨List.mem_append_left _ hc.1, hc.2⟩
  · rcases hcases 1 hm with h1 | ⟨hne, hml⟩
    · subst h1
      exact hpenalty rfl hl
    · exact hderived.flag_stays (h.penalty hml hacc hl)
  · rcases hcases 2 hm with h2 | ⟨hne, hml⟩
    · have hbefore : a.brake = u.brake := h.keeps fun hc => hn (h2 ▸ hc.1)
      subst h2
      refine hbrake.trans ((if_pos rfl).trans ?_)
      rw [show (setInput a 2 (linePresented old u.tables 2 (u.lines.inputs.get 2))).brake = u.brake from hbefore]
      rfl
    · rw [hbrakeOther (Ne.symm hne)]
      exact h.brake hml hacc
  · have h2 : n ≠ 2 := fun he => hnot (he ▸ ⟨by simp, haccepts⟩)
    rw [hbrakeOther h2]
    exact h.keeps fun hc => hnot ⟨List.mem_append_left _ hc.1, hc.2⟩

end

theorem lines_rewritten (old : Tables) {u : State} (hmode : u.control.mode ≠ .service) (l : List (Fin 6)) :
    l.Nodup → LinesRewritten old l u (l.foldl (rewriteLine old) u) := by
  induction l using List.reverseRecOn with
  | nil =>
    intro _
    exact ⟨(Derives.refl u).weaken (by simp), ⟨rfl, rfl, rfl⟩, fun _ _ => rfl, by simp, by simp, by simp, by simp, fun _ => rfl, by simp,
      by simp, fun _ => rfl, fun _ => rfl⟩
  | append_singleton l n ih =>
    intro hnodup
    have hsplit := List.nodup_append.mp hnodup
    have hn : n ∉ l := fun hn => hsplit.2.2 n hn n (List.mem_singleton.mpr rfl) rfl
    have ha := ih hsplit.1
    rw [List.foldl_append]
    generalize l.foldl (rewriteLine old) u = a at ha
    have hget : a.lines.inputs.get n = u.lines.inputs.get n := ha.other n hn
    have hcases := rewriteLine_cases old (s := a) (by rw [ha.derives.control]; exact hmode) n
    rw [hget, ha.derives.tables] at hcases
    show LinesRewritten old (l ++ [n]) u (rewriteLine old a n)
    rcases hcases with ⟨hacc, heq⟩ | ⟨hacc, heq⟩ <;> rw [heq]
    · exact ha.next_taken hn hmode hacc
    · exact ha.next_compared hn hacc

theorem mem_writtenLines (first count : Nat) (n : Fin 6) :
    n ∈ writtenLines first count ↔ first ≤ n.val ∧ n.val < first + count := by
  unfold writtenLines
  rw [List.mem_filter, Bool.and_eq_true, decide_eq_true_iff, decide_eq_true_iff]
  exact and_iff_right (mem_six n)

theorem writtenLines_nodup (first count : Nat) : (writtenLines first count).Nodup :=
  List.Nodup.filter _ (by decide)

end Sys2Proof.Machine
end

section
/-! PROOF. The write of NODES (O53): the losses that it may deliver, outside SERVICE (R143, R3). -/

namespace Sys2Proof.Machine

/-- What no loss takes back: speed data that is not VALID, a missing radar sample, a valve node lost, a silent
monitor; and the records of the nodes and the lines. -/
structure LossKeeps (u v : State) : Prop where
  speed : u.slide.speedState ≠ .valid → v.slide.speedState ≠ .valid
  radar : u.slide.radar = none → v.slide.radar = none
  truck1 : u.air.truck1.condition = .link → v.air.truck1.condition = .link
  truck2 : u.air.truck2.condition = .link → v.air.truck2.condition = .link
  silent : ∀ k, u.authority.monitors.get k = ⟨.silent, 0⟩ → v.authority.monitors.get k = ⟨.silent, 0⟩
  inputs : v.lines.inputs = u.lines.inputs

theorem LossKeeps.refl (u : State) : LossKeeps u u := ⟨id, id, id, id, fun _ => id, rfl⟩

theorem LossKeeps.trans {a b c : State} (h : LossKeeps a b) (k : LossKeeps b c) : LossKeeps a c :=
  ⟨fun x => k.speed (h.speed x), fun x => k.radar (h.radar x), fun x => k.truck1 (h.truck1 x),
    fun x => k.truck2 (h.truck2 x), fun j x => k.silent j (h.silent j x), k.inputs.trans h.inputs⟩

/-! ## A source silenced -/

/-- State `v` is `u` after the monitor of source `k` was silenced outside SERVICE (R3, R12). -/
structure Silenced (k : Source) (u v : State) : Prop where
  derives : Derives [] [.sourceLoss] u v
  keeps : LossKeeps u v
  nodes : v.link.nodes = u.link.nodes
  authority : v.authority = { silencedAuthority k u.authority with resetTimer := v.authority.resetTimer }
  follows : (u.authority.monitors.get k).state = .valid → ResetTimerFollows u.authority.resetTimer v
  stands : (u.authority.monitors.get k).state ≠ .valid → v.authority.resetTimer = u.authority.resetTimer
  slide : v.slide = if (u.authority.monitors.get k).state = .valid then
    (evalSand { u with authority := v.authority }).slide else u.slide
  brake : v.brake = u.brake
  air : v.air = u.air
  flag : (u.authority.monitors.get k).state = .valid → u.authority.active = .source k → flagSet v .sourceLoss = true

theorem silencedAuthority_monitors (k : Source) (a : Authority) :
    (silencedAuthority k a).monitors = a.monitors.set k ⟨.silent, 0⟩ := by
  unfold silencedAuthority
  split <;> rfl

theorem silencedState_derives {k : Source} {u : State} (hmode : u.control.mode ≠ .service) :
    Derives [] [.sourceLoss] u (silencedState k u)
    ∧ ((u.authority.monitors.get k).state = .valid → u.authority.active = .source k →
      flagSet (silencedState k u) .sourceLoss = true) := by
  have hset : Derives [] [] u { u with authority := silencedAuthority k u.authority } := .quiet rfl
  unfold silencedState
  dsimp only
  split
  next hc =>
    rw [trigger_ignored _ _ (by rw [(raise_moves _ _).mode]; exact hmode)]
    have hraise := Derives.raise .sourceLoss { u with authority := silencedAuthority k u.authority }
    exact ⟨(hset.trans hraise).maybe (by simp), fun _ _ => hraise.flag_must (by simp)⟩
  next hc => exact ⟨hset.weaken (by simp), fun hv ha => absurd ⟨hv, ha⟩ hc⟩

theorem silencedState_nodes {k : Source} {u : State} (hmode : u.control.mode ≠ .service) :
    (silencedState k u).link.nodes = u.link.nodes := by
  unfold silencedState
  dsimp only
  split
  · rw [trigger_ignored _ _ (by rw [(raise_moves _ _).mode]; exact hmode), raise_frame]
    rfl
  · rfl

theorem silenceMonitor_done {k : Source} {u : State} (hmode : u.control.mode ≠ .service) :
    Silenced k u (silenceMonitor k u) := by
  obtain ⟨timer, hauthority, htimer⟩ := silenceMonitor_authority k u
  obtain ⟨hderives, hflag⟩ := silencedState_derives (k := k) hmode
  have hreset : (silencedAuthority k u.authority).resetTimer = u.authority.resetTimer := by
    unfold silencedAuthority
    split <;> rfl
  have hshape : silenceMonitor k u = if (u.authority.monitors.get k).state = .valid then
      evalSand (evalEmergency (silencedState k u)) else silencedState k u := silenceMonitor_eq k u
  have heval := evalEmergency_eq (silencedState k u)
  have hfollows := evalEmergency_follows (silencedState k u)
  rw [silencedState_authority, hreset] at hfollows
  have hafter : Derives [] [] (silencedState k u) (silenceMonitor k u) := by
    rw [hshape]
    split
    · exact (evalEmergency_derives _).trans (evalSand_derives _)
    · exact .refl _
  have hinputs : (silenceMonitor k u).lines.inputs = u.lines.inputs := by
    rw [hshape]
    split
    · rw [evalSand_lines, heval, silencedState_inputs]
    · exact silencedState_inputs k u
  have hnodes : (silenceMonitor k u).link.nodes = u.link.nodes := by
    rw [hshape]
    split
    · rw [evalSand_eq, heval]
      exact silencedState_nodes hmode
    · exact silencedState_nodes hmode
  have hslide : (silenceMonitor k u).slide = if (u.authority.monitors.get k).state = .valid then
      (evalSand { u with authority := (silenceMonitor k u).authority }).slide else u.slide := by
    have hsame : (u.authority.monitors.get k).state = .valid → silenceMonitor k u
        = evalSand (evalEmergency (silencedState k u)) := fun hv => hshape.trans (if_pos hv)
    by_cases hv : (u.authority.monitors.get k).state = .valid
    · rw [if_pos hv, hsame hv]
      refine evalSand_slide_congr ?_ ?_ ?_ ?_
      · rw [heval, silencedState_slide]
      · rw [heval, silencedState_tables]
      · rw [evalSand_authority]
      · rw [heval, silencedState_inputs]
    · rw [if_neg hv, hshape, if_neg hv, silencedState_slide]
  have hbrake : (silenceMonitor k u).brake = u.brake := by
    rw [hshape]
    split
    · rw [evalSand_brake, heval, silencedState_brake]
    · exact silencedState_brake k u
  have hair : (silenceMonitor k u).air = u.air := by
    rw [hshape]
    split
    · rw [evalSand_air, heval, silencedState_air]
    · exact silencedState_air k u
  have hrest : (silenceMonitor k u).slide.speedState = u.slide.speedState
      ∧ (silenceMonitor k u).slide.radar = u.slide.radar := by
    rw [hslide]
    split
    · obtain ⟨request, timer', hsand⟩ := evalSand_frame { u with authority := (silenceMonitor k u).authority }
      rw [hsand]
      exact ⟨rfl, rfl⟩
    · exact ⟨rfl, rfl⟩
  refine ⟨(hderives.trans hafter).weaken (by simp), ⟨?_, ?_, ?_, ?_, fun j hj => ?_, hinputs⟩, hnodes, ?_, fun hv => ?_,
    fun hv => ?_, hslide, hbrake, hair, fun hv ha => hafter.flag_stays (hflag hv ha)⟩
  · rw [hrest.1]
    exact id
  · rw [hrest.2]
    exact id
  · rw [hair]
    exact id
  · rw [hair]
    exact id
  · rw [hauthority]
    show (silencedAuthority k u.authority).monitors.get j = _
    rw [silencedAuthority_monitors]
    by_cases hkj : k = j
    · rw [hkj, PerSource.get_set_same]
    · rw [PerSource.get_set_other _ _ _ _ hkj]
      exact hj
  · rw [hauthority]
  · rw [hshape, if_pos hv]
    refine hfollows.congr ?_ ?_ ?_
    · rw [evalSand_lines]
    · rw [evalSand_authority]
    · rw [evalSand_tables]
  · rw [hauthority]
    exact htimer hv

theorem Silenced.silent {k : Source} {u v : State} (h : Silenced k u v) : v.authority.monitors.get k = ⟨.silent, 0⟩ := by
  rw [h.authority]
  show (silencedAuthority k u.authority).monitors.get k = _
  rw [silencedAuthority_monitors, PerSource.get_set_same]

end Sys2Proof.Machine
end

section
/-! PROOF. The write of NODES (O53): a loss delivered to the owner of the role (R143), and one written entry (R144). -/

namespace Sys2Proof.Machine

/-! ## The owners -/

/-- State `v` is `x` with at most a flag more. -/
structure AtMostRaised (f : Flag) (x v : State) : Prop where
  derives : Derives [] [f] x v
  slide : v.slide = x.slide
  air : v.air = x.air
  authority : v.authority = x.authority
  nodes : v.link.nodes = x.link.nodes
  inputs : v.lines.inputs = x.lines.inputs

theorem atMostRaised_self (f : Flag) (x : State) : AtMostRaised f x x :=
  ⟨(Derives.refl x).weaken (by simp), rfl, rfl, rfl, rfl, rfl⟩

theorem atMostRaised_triggered (f : Flag) (kind : TriggerKind) {x : State} (hmode : x.control.mode ≠ .service) :
    AtMostRaised f x (trigger kind (raise f x)) := by
  have hframe := raise_frame x f
  rw [trigger_ignored _ _ (by rw [(raise_moves _ _).mode]; exact hmode)]
  refine ⟨(Derives.raise f x).maybe (by simp), ?_, ?_, ?_, ?_, ?_⟩ <;> rw [hframe] <;> rfl

/-- What the loss of the node of a role leaves (R143). -/
structure LossDelivered (r : Role) (u v : State) : Prop where
  derives : Derives [] [.sourceLoss, .speedLost, .dbTrip, .valveLost] u v
  keeps : LossKeeps u v
  nodes : v.link.nodes = u.link.nodes
  speed : r = .axleConc → v.slide.speedState ≠ .valid
  radar : r = .radar → v.slide.radar = none
  truck1 : r = .valveT1 → v.air.truck1.condition = .link
  truck2 : r = .valveT2 → v.air.truck2.condition = .link
  silent : ∀ k, r = sourceRole k → v.authority.monitors.get k = ⟨.silent, 0⟩

theorem sourceRole_injective : Function.Injective sourceRole := by
  intro j k h
  cases j <;> cases k <;> simp_all [sourceRole]

section
variable {u : State} (hmode : u.control.mode ≠ .service)
include hmode

theorem loseSpeed_raised : ∃ x, AtMostRaised .speedLost x (loseSpeed u) ∧ x = derivedFrom u x
    ∧ x.slide.speedState ≠ .valid ∧ x.slide.radar = u.slide.radar ∧ x.air.truck1 = u.air.truck1
    ∧ x.air.truck2 = u.air.truck2 ∧ x.authority = u.authority ∧ x.lines.inputs = u.lines.inputs
    ∧ x.link.nodes = u.link.nodes := by
  by_cases hvalid : u.slide.speedState = .valid
  · rw [loseSpeed_valid hvalid]
    exact ⟨_, atMostRaised_triggered .speedLost .speedLost hmode, rfl, nofun, rfl, rfl, rfl, rfl, rfl, rfl⟩
  · rw [loseSpeed_not_valid hvalid]
    exact ⟨u, atMostRaised_self _ _, rfl, hvalid, rfl, rfl, rfl, rfl, rfl, rfl⟩

theorem tractionLost_raised : ∃ x, AtMostRaised .dbTrip x (tractionLost u) ∧ x = derivedFrom u x
    ∧ x.slide = u.slide ∧ x.air = u.air ∧ x.authority = u.authority ∧ x.lines.inputs = u.lines.inputs
    ∧ x.link.nodes = u.link.nodes := by
  by_cases hactive : u.brake.state = .active
  · rw [tractionLost_active hactive]
    exact ⟨_, atMostRaised_triggered .dbTrip .dbTrip hmode, rfl, rfl, rfl, rfl, rfl, rfl⟩
  · rw [tractionLost_not_active hactive]
    exact ⟨u, atMostRaised_self _ _, rfl, rfl, rfl, rfl, rfl, rfl⟩

theorem valveNodeLost_raised (tr : Truck) : AtMostRaised .valveLost
    (setTruck u tr { getTruck u tr with condition := .link }) (valveNodeLost tr u) := by
  unfold valveNodeLost
  by_cases hclear : (getTruck u tr).condition = .clear
  · rw [loseValve_clear hclear]
    refine atMostRaised_triggered .valveLost .valveLost ?_
    cases tr <;> exact hmode
  · rw [loseValve_not_clear hclear]
    exact atMostRaised_self _ _

theorem silenceMonitor_delivered (k : Source) : LossDelivered (sourceRole k) u (silenceMonitor k u) := by
  have h := silenceMonitor_done (k := k) hmode
  refine ⟨h.derives.weaken (by simp), h.keeps, h.nodes, ?_, ?_, ?_, ?_, fun j hj => ?_⟩
  · cases k <;> exact nofun
  · cases k <;> exact nofun
  · cases k <;> exact nofun
  · cases k <;> exact nofun
  · rw [← sourceRole_injective hj]
    exact h.silent

theorem loseSpeed_delivered : LossDelivered .axleConc u (loseSpeed u) := by
  obtain ⟨x, hx, hquiet, hspeed, hradar, htruck1, htruck2, hauthority, hinputs, hnodes⟩ := loseSpeed_raised hmode
  refine ⟨((Derives.quiet hquiet).trans hx.derives).weaken (by simp), ⟨fun _ => ?_, fun h => ?_, fun h => ?_, fun h => ?_,
    fun k h => ?_, hx.inputs.trans hinputs⟩, hx.nodes.trans hnodes, fun _ => ?_, nofun, nofun, nofun, fun k => ?_⟩
  · rw [hx.slide]
    exact hspeed
  · rw [hx.slide, hradar]
    exact h
  · rw [hx.air, htruck1]
    exact h
  · rw [hx.air, htruck2]
    exact h
  · rw [hx.authority, hauthority]
    exact h
  · rw [hx.slide]
    exact hspeed
  · cases k <;> exact nofun

omit hmode in
theorem dropRadar_delivered : LossDelivered .radar u (dropRadar u) := by
  refine ⟨(Derives.quiet rfl).weaken (by simp), ⟨id, fun _ => rfl, id, id, fun _ => id, rfl⟩, rfl, nofun, fun _ => rfl, nofun,
    nofun, fun k => ?_⟩
  cases k <;> exact nofun

theorem tractionLost_delivered : LossDelivered .traction u (tractionLost u) := by
  obtain ⟨x, hx, hquiet, hslide, hair, hauthority, hinputs, hnodes⟩ := tractionLost_raised hmode
  refine ⟨((Derives.quiet hquiet).trans hx.derives).weaken (by simp), ⟨?_, ?_, ?_, ?_, fun k => ?_,
    hx.inputs.trans hinputs⟩, hx.nodes.trans hnodes, nofun, nofun, nofun, nofun, fun k => ?_⟩
  · rw [hx.slide, hslide]
    exact id
  · rw [hx.slide, hslide]
    exact id
  · rw [hx.air, hair]
    exact id
  · rw [hx.air, hair]
    exact id
  · rw [hx.authority, hauthority]
    exact id
  · cases k <;> exact nofun

theorem valveNodeLost_delivered (tr : Truck) : LossDelivered (valveRole tr) u (valveNodeLost tr u) := by
  have hx := valveNodeLost_raised hmode tr
  have hquiet : setTruck u tr { getTruck u tr with condition := .link } = derivedFrom u
      (setTruck u tr { getTruck u tr with condition := .link }) := by
    cases tr <;> rfl
  refine ⟨((Derives.quiet hquiet).trans hx.derives).weaken (by simp), ⟨?_, ?_, ?_, ?_, fun k => ?_, ?_⟩, ?_, ?_, ?_, ?_, ?_,
    fun k => ?_⟩
  · rw [hx.slide]
    cases tr <;> exact id
  · rw [hx.slide]
    cases tr <;> exact id
  · rw [hx.air]
    cases tr
    · exact fun _ => rfl
    · exact id
  · rw [hx.air]
    cases tr
    · exact id
    · exact fun _ => rfl
  · rw [hx.authority]
    cases tr <;> exact id
  · rw [hx.inputs]
    cases tr <;> rfl
  · rw [hx.nodes]
    cases tr <;> rfl
  · cases tr <;> exact nofun
  · cases tr <;> exact nofun
  · rw [hx.air]
    cases tr
    · exact fun _ => rfl
    · exact nofun
  · rw [hx.air]
    cases tr
    · exact nofun
    · exact fun _ => rfl
  · cases tr <;> cases k <;> exact nofun

theorem deliverLoss_delivered (r : Role) : LossDelivered r u (deliverLoss r u) := by
  cases r
  case cabA => exact silenceMonitor_delivered hmode .cabA
  case cabB => exact silenceMonitor_delivered hmode .cabB
  case dp => exact silenceMonitor_delivered hmode .dp
  case axleConc => exact loseSpeed_delivered hmode
  case radar => exact dropRadar_delivered
  case traction => exact tractionLost_delivered hmode
  case valveT1 => exact valveNodeLost_delivered hmode .t1
  case valveT2 => exact valveNodeLost_delivered hmode .t2
  all_goals exact ⟨(Derives.refl u).weaken (by simp), .refl u, rfl, nofun, nofun, nofun, nofun, fun k => by
    cases k <;> exact nofun⟩

end

end Sys2Proof.Machine
end

section
/-! PROOF. The write of NODES (O53): the runtime fields of the written entries (R144). -/

namespace Sys2Proof.Machine

/-! ## The record of one entry -/

/-- With its new timeout the node of an entry that is otherwise the same is LOST (R142, R144). -/
def nodeExpires (ts : Tables) (i : Nat) (r : NodeRuntime) : Bool :=
  nodeUsed ts i && (retime (nodeTimeout ts i) r).liveness = .live
    && (retime (nodeTimeout ts i) r).timer.reached (nodeTimeout ts i)

/-- The write makes a node LOST. -/
def NodeExpires (old ts : Tables) (i : Nat) (r : NodeRuntime) : Prop :=
  sameNode old ts i = true ∧ nodeTimeout old i ≠ nodeTimeout ts i ∧ nodeExpires ts i r = true

/-- The runtime fields of a written entry (R144). -/
def nodeAfter (old ts : Tables) (i : Nat) (r : NodeRuntime) : NodeRuntime :=
  if sameNode old ts i then
    if nodeTimeout old i = nodeTimeout ts i then r
    else if nodeExpires ts i r then { r with liveness := .lost, timer := .stopped }
    else retime (nodeTimeout ts i) r
  else NodeRuntime.fresh

/-- A record stands where it was written, or is the fresh one of an entry that does not exist. -/
theorem getNode_setNode_kept {u : State} {i : Nat} {r : NodeRuntime} (h : u.link.nodes.length ≤ i → r = NodeRuntime.fresh) :
    getNode (setNode u i r) i = r := by
  by_cases hi : i < u.link.nodes.length
  · exact getNode_setNode_same u i r hi
  · rw [h (not_lt.mp hi)]
    unfold getNode setNode
    rw [List.set_eq_of_length_le (not_lt.mp hi), List.getD_eq_default _ _ (not_lt.mp hi)]

theorem getNode_absent {u : State} {i : Nat} (h : u.link.nodes.length ≤ i) : getNode u i = NodeRuntime.fresh :=
  List.getD_eq_default _ _ h

theorem getNode_retimed (u : State) (i : Nat) (limit : Nat) :
    getNode (setNode u i (retime limit (getNode u i))) i = retime limit (getNode u i) := by
  refine getNode_setNode_kept fun hi => ?_
  rw [getNode_absent hi]
  rfl

/-- What the loss of entry `i` has left, where the entry binds a role (R143). -/
def LossLeft (ts : Tables) (i : Nat) (v : State) : Prop :=
  ∀ r, nodeRole ts i = some r → binding ts r = some i →
    (r = .axleConc → v.slide.speedState ≠ .valid) ∧ (r = .radar → v.slide.radar = none)
    ∧ (r = .valveT1 → v.air.truck1.condition = .link) ∧ (r = .valveT2 → v.air.truck2.condition = .link)
    ∧ ∀ k, r = sourceRole k → v.authority.monitors.get k = ⟨.silent, 0⟩

theorem LossLeft.kept {ts : Tables} {i : Nat} {v w : State} (h : LossLeft ts i v) (k : LossKeeps v w) :
    LossLeft ts i w := by
  intro r hrole hbound
  obtain ⟨hspeed, hradar, htruck1, htruck2, hsilent⟩ := h r hrole hbound
  exact ⟨fun x => k.speed (hspeed x), fun x => k.radar (hradar x), fun x => k.truck1 (htruck1 x),
    fun x => k.truck2 (htruck2 x), fun j x => k.silent j (hsilent j x)⟩

/-! ## The loss of a node -/

/-- The flags that a write of NODES may raise beside CONFIG_CHANGED. -/
def nodesFlags : List Flag := [.nodeLost, .sourceLoss, .speedLost, .dbTrip, .valveLost]

/-- State `v` is `u` after entry `i` became LOST, with what its role's owner makes of it. -/
structure NodeLossDone (i : Nat) (u v : State) : Prop where
  derives : Derives [] nodesFlags u v
  keeps : LossKeeps u v
  node : v.link.nodes = u.link.nodes.set i { getNode u i with liveness := .lost, timer := .stopped }
  flag : flagSet v .nodeLost = true
  left : LossLeft u.tables i v

theorem nodeMarked_keeps (i : Nat) (u : State) : LossKeeps u (nodeMarked i u) := by
  have hframe : nodeMarked i u = withNotices _ (nodeMarked i u) := raise_frame _ _
  refine ⟨?_, ?_, ?_, ?_, fun k => ?_, ?_⟩ <;> rw [hframe]
  · exact id
  · exact id
  · exact id
  · exact id
  · exact id
  · rfl

theorem nodeMarked_derives (i : Nat) (u : State) : Derives [] [.nodeLost] u (nodeMarked i u) := by
  have hset : Derives [] [] u (setNode u i { getNode u i with liveness := .lost, timer := .stopped }) := .quiet rfl
  exact (hset.trans (Derives.raise .nodeLost _)).maybe (by simp)

theorem nodeMarked_nodes (i : Nat) (u : State) : (nodeMarked i u).link.nodes =
    u.link.nodes.set i { getNode u i with liveness := .lost, timer := .stopped } := by
  unfold nodeMarked
  rw [raise_frame]
  rfl

theorem loseNode_done {u : State} (hmode : u.control.mode ≠ .service) (i : Nat) : NodeLossDone i u (loseNode i u) := by
  have hmarked := nodeMarked_derives i u
  have hflag : flagSet (nodeMarked i u) .nodeLost = true := (nodeMarked_flags i u .nodeLost).1 (.inr (by simp))
  have hmode' : (nodeMarked i u).control.mode ≠ .service := by
    rw [hmarked.control]
    exact hmode
  by_cases hbinds : ∃ r, nodeRole u.tables i = some r ∧ binding u.tables r = some i
  · obtain ⟨r, hrole, hbound⟩ := hbinds
    rw [loseNode_delivered hrole hbound]
    have h := deliverLoss_delivered hmode' r
    refine ⟨(hmarked.trans h.derives).weaken (by simp [nodesFlags]), (nodeMarked_keeps i u).trans h.keeps,
      h.nodes.trans (nodeMarked_nodes i u), h.derives.flag_stays hflag, fun r' hrole' _ => ?_⟩
    obtain rfl : r = r' := Option.some.inj (hrole.symm.trans hrole')
    exact ⟨h.speed, h.radar, h.truck1, h.truck2, h.silent⟩
  · rw [loseNode_undelivered fun r hr => .inr (.inr (.inr (.inr fun hb => hbinds ⟨r, hr, hb⟩)))]
    exact ⟨hmarked.weaken (by simp [nodesFlags]), nodeMarked_keeps i u, nodeMarked_nodes i u, hflag,
      fun r hrole hbound => absurd ⟨r, hrole, hbound⟩ hbinds⟩

/-! ## One written entry -/

/-- State `v` is `u` after a NODES write's effect on entry `i`. -/
structure NodeRewritten (old : Tables) (i : Nat) (u v : State) : Prop where
  derives : Derives [] nodesFlags u v
  keeps : LossKeeps u v
  same : getNode v i = nodeAfter old u.tables i (getNode u i)
  other : ∀ j, j ≠ i → getNode v j = getNode u j
  lost : NodeExpires old u.tables i (getNode u i) → flagSet v .nodeLost = true ∧ LossLeft u.tables i v
  quiet : ¬ NodeExpires old u.tables i (getNode u i) → v = { u with link := { u.link with nodes := v.link.nodes } }

/-- A record alone. -/
theorem nodeRewritten_set {old : Tables} {i : Nat} {u : State} {r : NodeRuntime}
    (hr : getNode (setNode u i r) i = nodeAfter old u.tables i (getNode u i))
    (hnot : ¬ NodeExpires old u.tables i (getNode u i)) : NodeRewritten old i u (setNode u i r) :=
  ⟨(Derives.quiet rfl).weaken (by simp), ⟨id, id, id, id, fun _ => id, rfl⟩, hr,
    fun j hj => getNode_setNode_other u i j r (Ne.symm hj), fun h => absurd h hnot, fun _ => rfl⟩

theorem rewriteNode_done (old : Tables) {u : State} (hmode : u.control.mode ≠ .service) (i : Nat) :
    NodeRewritten old i u (rewriteNode old u i) := by
  unfold rewriteNode
  cases hsame : sameNode old u.tables i with
  | false =>
    rw [if_pos (by rfl)]
    refine nodeRewritten_set ?_ fun h => Bool.false_ne_true (hsame.symm.trans h.1)
    rw [getNode_setNode_kept fun _ => rfl]
    unfold nodeAfter
    rw [hsame]
    rfl
  | true =>
    rw [if_neg (by simp)]
    by_cases htimeout : nodeTimeout old i = nodeTimeout u.tables i
    · rw [if_pos htimeout]
      refine ⟨(Derives.refl u).weaken (by simp), .refl u, ?_, fun _ _ => rfl, fun h => absurd htimeout h.2.1, fun _ => rfl⟩
      unfold nodeAfter
      rw [hsame, if_pos rfl, if_pos htimeout]
    · rw [if_neg htimeout]
      have hretimed := getNode_retimed u i (nodeTimeout u.tables i)
      have hdue : livenessDue (setNode u i (retime (nodeTimeout u.tables i) (getNode u i))) i
          = nodeExpires u.tables i (getNode u i) := by
        unfold livenessDue nodeExpires
        rw [hretimed]
        rfl
      unfold livenessExpired
      rw [hdue]
      by_cases hexpires : nodeExpires u.tables i (getNode u i) = true
      · rw [if_pos hexpires]
        have hset : Derives [] [] u (setNode u i (retime (nodeTimeout u.tables i) (getNode u i))) := .quiet rfl
        have h := loseNode_done (u := setNode u i (retime (nodeTimeout u.tables i) (getNode u i))) hmode i
        have hlive : (getNode u i).liveness = .live := by
          unfold nodeExpires at hexpires
          simp only [Bool.and_eq_true, decide_eq_true_eq] at hexpires
          obtain ⟨⟨-, hl⟩, -⟩ := hexpires
          unfold retime at hl
          split at hl
          next hl' => exact hl'
          next => exact hl
        have hrecord : ({ getNode (setNode u i (retime (nodeTimeout u.tables i) (getNode u i))) i with
            liveness := .lost, timer := .stopped } : NodeRuntime) =
            { getNode u i with liveness := .lost, timer := .stopped } := by
          rw [hretimed]
          unfold retime
          rw [if_pos hlive]
        have hnodes := h.node
        rw [hrecord] at hnodes
        have hlength : i < u.link.nodes.length := by
          by_contra hle
          rw [getNode_absent (not_lt.mp hle)] at hlive
          cases hlive
        have hget : ∀ j, getNode (loseNode i (setNode u i (retime (nodeTimeout u.tables i) (getNode u i)))) j =
            getNode (setNode u i { getNode u i with liveness := .lost, timer := .stopped }) j := by
          intro j
          have hset2 : (setNode u i (retime (nodeTimeout u.tables i) (getNode u i))).link.nodes.set i
              { getNode u i with liveness := .lost, timer := .stopped } =
              u.link.nodes.set i { getNode u i with liveness := .lost, timer := .stopped } := List.set_set _
          rw [hset2] at hnodes
          exact congrArg (fun nodes => nodes.getD j NodeRuntime.fresh) hnodes
        have hkeeps : LossKeeps u (setNode u i (retime (nodeTimeout u.tables i) (getNode u i))) :=
          ⟨id, id, id, id, fun _ => id, rfl⟩
        refine ⟨(hset.trans h.derives).weaken (by simp), hkeeps.trans h.keeps, ?_, fun j hj => ?_,
          fun _ => ⟨h.flag, h.left⟩, fun hnot => absurd ⟨hsame, htimeout, hexpires⟩ hnot⟩
        · rw [hget, getNode_setNode_same u i _ hlength]
          unfold nodeAfter
          rw [hsame, if_pos rfl, if_neg htimeout, if_pos hexpires]
        · rw [hget, getNode_setNode_other u i j _ (Ne.symm hj)]
      · rw [if_neg hexpires]
        refine nodeRewritten_set ?_ fun h => hexpires h.2.2
        rw [hretimed]
        unfold nodeAfter
        rw [hsame, if_pos rfl, if_neg htimeout, if_neg hexpires]

/-! ## All written entries -/

/-- State `v` is `u` after a NODES write's effect on the entries of `l`. -/
structure NodesRewritten (old : Tables) (l : List Nat) (u v : State) : Prop where
  derives : Derives [] nodesFlags u v
  keeps : LossKeeps u v
  same : ∀ i ∈ l, getNode v i = nodeAfter old u.tables i (getNode u i)
  other : ∀ i, i ∉ l → getNode v i = getNode u i
  lost : ∀ i ∈ l, NodeExpires old u.tables i (getNode u i) → flagSet v .nodeLost = true ∧ LossLeft u.tables i v
  quiet : (∀ i ∈ l, ¬ NodeExpires old u.tables i (getNode u i)) → v = { u with link := { u.link with nodes := v.link.nodes } }

theorem nodes_rewritten (old : Tables) {u : State} (hmode : u.control.mode ≠ .service) (l : List Nat) :
    l.Nodup → NodesRewritten old l u (l.foldl (rewriteNode old) u) := by
  induction l using List.reverseRecOn with
  | nil =>
    intro _
    exact ⟨(Derives.refl u).weaken (by simp), .refl u, by simp, fun _ _ => rfl, by simp, fun _ => rfl⟩
  | append_singleton l n ih =>
    intro hnodup
    have hsplit := List.nodup_append.mp hnodup
    have hn : n ∉ l := fun hn => hsplit.2.2 n hn n (List.mem_singleton.mpr rfl) rfl
    have ha := ih hsplit.1
    rw [List.foldl_append]
    generalize l.foldl (rewriteNode old) u = a at ha
    have hstep := rewriteNode_done old (u := a) (by rw [ha.derives.control]; exact hmode) n
    show NodesRewritten old (l ++ [n]) u (rewriteNode old a n)
    generalize rewriteNode old a n = v at hstep
    obtain ⟨hderives, hkeeps, hsame, hother, hlost, hquiet⟩ := hstep
    rw [ha.derives.tables, ha.other n hn] at hsame hlost hquiet
    have hcases : ∀ m, m ∈ l ++ [n] → m = n ∨ m ≠ n ∧ m ∈ l := by
      intro m hm
      rcases List.mem_append.mp hm with hm | hm
      · exact .inr ⟨fun he => hn (he ▸ hm), hm⟩
      · exact .inl (List.mem_singleton.mp hm)
    refine ⟨ha.derives.then hderives, ha.keeps.trans hkeeps, fun m hm => ?_, fun m hm => ?_, fun m hm hexp => ?_,
      fun hnone => ?_⟩
    · rcases hcases m hm with rfl | ⟨hne, hml⟩
      · exact hsame
      · exact (hother m hne).trans (ha.same m hml)
    · rw [List.mem_append, List.mem_singleton, not_or] at hm
      exact (hother m hm.2).trans (ha.other m hm.1)
    · rcases hcases m hm with rfl | ⟨hne, hml⟩
      · exact hlost hexp
      · obtain ⟨hflag, hleft⟩ := ha.lost m hml hexp
        exact ⟨hderives.flag_stays hflag, hleft.kept hkeeps⟩
    · have hau := ha.quiet fun m hm => hnone m (List.mem_append_left _ hm)
      have hva := hquiet (hnone n (by simp))
      rw [hau] at hva
      exact hva

end Sys2Proof.Machine
end

section
/-! PROOF. The write of NODES (O53), continued: the source monitors whose bound node changed (R3). -/

namespace Sys2Proof.Machine

/-- Another node, or another place of it, holds the role of source `k` (R3). -/
def Rebound (old ts : Tables) (k : Source) : Prop := boundNode old (sourceRole k) ≠ boundNode ts (sourceRole k)

theorem rebindMonitor_rebound {old : Tables} {s : State} {k : Source} (h : Rebound old s.tables k) :
    rebindMonitor old s k = silenceMonitor k s := if_neg h

theorem rebindMonitor_same {old : Tables} {s : State} {k : Source} (h : ¬ Rebound old s.tables k) :
    rebindMonitor old s k = s := if_pos (not_not.mp h)

/-- The loss of the commanding source's monitor (R12). -/
def FellBack (k : Source) (v : State) : Prop :=
  v.authority.active = .fallback ∧ v.authority.phase = .hold ∧ v.authority.lost = some k
    ∧ v.authority.holdTimer = .running 0 ∧ flagSet v .sourceLoss = true

theorem silencedAuthority_commands {k : Source} {a : Authority} (hvalid : (a.monitors.get k).state = .valid)
    (hactive : a.active = .source k) : silencedAuthority k a = lostAuthority k a := if_pos ⟨hvalid, hactive⟩

theorem silencedAuthority_idle {k : Source} {a : Authority} (h : a.active ≠ .source k) :
    silencedAuthority k a = { a with monitors := a.monitors.set k ⟨.silent, 0⟩ } := if_neg fun hc => h hc.2

/-- State `v` is `u` after the rebinding of the monitors of `ks`. -/
structure MonitorsRebound (old : Tables) (ks : List Source) (u v : State) : Prop where
  derives : Derives [] [.sourceLoss] u v
  keeps : LossKeeps u v
  nodes : v.link.nodes = u.link.nodes
  silent : ∀ k ∈ ks, Rebound old u.tables k → v.authority.monitors.get k = ⟨.silent, 0⟩
  other : ∀ k, ¬ (k ∈ ks ∧ Rebound old u.tables k) → v.authority.monitors.get k = u.authority.monitors.get k
  commands : ∀ k ∈ ks, Rebound old u.tables k → (u.authority.monitors.get k).state = .valid →
    u.authority.active = .source k → FellBack k v
  active : ∀ k, k ∉ ks → u.authority.active = .source k → v.authority.active = .source k
  quiet : (∀ k ∈ ks, ¬ Rebound old u.tables k) → v = u

/-- A later silencing leaves the fallback as it is. -/
theorem FellBack.silenced {k j : Source} {a v : State} (h : FellBack j a) (hv : Silenced k a v) : FellBack j v := by
  obtain ⟨hactive, hphase, hlost, hhold, hflag⟩ := h
  have hauthority := hv.authority
  rw [silencedAuthority_idle (fun hc => nomatch hactive.symm.trans hc)] at hauthority
  refine ⟨?_, ?_, ?_, ?_, hv.derives.flag_stays hflag⟩ <;> rw [hauthority]
  · exact hactive
  · exact hphase
  · exact hlost
  · exact hhold

theorem MonitorsRebound.next {old : Tables} {ks : List Source} {u a v : State} (h : MonitorsRebound old ks u a)
    {k : Source} (hk : k ∉ ks) (hrebound : Rebound old u.tables k) (hv : Silenced k a v) :
    MonitorsRebound old (ks ++ [k]) u v := by
  have hcases : ∀ j, j ∈ ks ++ [k] → j = k ∨ j ≠ k ∧ j ∈ ks := by
    intro j hj
    rcases List.mem_append.mp hj with hj | hj
    · exact .inr ⟨fun he => hk (he ▸ hj), hj⟩
    · exact .inl (List.mem_singleton.mp hj)
  have hmonitor : a.authority.monitors.get k = u.authority.monitors.get k := h.other k fun hc => hk hc.1
  refine ⟨h.derives.then hv.derives, h.keeps.trans hv.keeps, hv.nodes.trans h.nodes, fun j hj hr => ?_, fun j hj => ?_,
    fun j hj hr hvalid hactive => ?_, fun j hj hactive => ?_, fun hnone => absurd hrebound (hnone k (by simp))⟩
  · rcases hcases j hj with rfl | ⟨-, hjl⟩
    · exact hv.silent
    · exact hv.keeps.silent j (h.silent j hjl hr)
  · have hjk : k ≠ j := fun he => hj (he ▸ ⟨by simp, hrebound⟩)
    rw [hv.authority]
    show (silencedAuthority k a.authority).monitors.get j = _
    rw [silencedAuthority_monitors, PerSource.get_set_other _ _ _ _ hjk]
    exact h.other j fun hc => hj ⟨List.mem_append_left _ hc.1, hc.2⟩
  · rcases hcases j hj with rfl | ⟨-, hjl⟩
    · have hcommands := h.active j hk hactive
      rw [← hmonitor] at hvalid
      have hauthority := hv.authority
      rw [silencedAuthority_commands hvalid hcommands] at hauthority
      refine ⟨?_, ?_, ?_, ?_, hv.flag hvalid hcommands⟩ <;> rw [hauthority] <;> rfl
    · exact (h.commands j hjl hr hvalid hactive).silenced hv
  · rw [List.mem_append, List.mem_singleton, not_or] at hj
    have hcommands := h.active j hj.1 hactive
    have hidle : a.authority.active ≠ .source k := by
      rw [hcommands]
      exact fun he => hj.2 (ActiveSource.source.inj he)
    rw [hv.authority, silencedAuthority_idle hidle]
    exact hcommands

theorem monitors_rebound (old : Tables) {u : State} (hmode : u.control.mode ≠ .service) (ks : List Source) :
    ks.Nodup → MonitorsRebound old ks u (ks.foldl (rebindMonitor old) u) := by
  induction ks using List.reverseRecOn with
  | nil =>
    intro _
    exact ⟨(Derives.refl u).weaken (by simp), .refl u, rfl, by simp, fun _ _ => rfl, by simp, fun _ _ => id, fun _ => rfl⟩
  | append_singleton ks k ih =>
    intro hnodup
    have hsplit := List.nodup_append.mp hnodup
    have hk : k ∉ ks := fun hk => hsplit.2.2 k hk k (List.mem_singleton.mpr rfl) rfl
    have ha := ih hsplit.1
    rw [List.foldl_append]
    generalize ks.foldl (rebindMonitor old) u = a at ha
    show MonitorsRebound old (ks ++ [k]) u (rebindMonitor old a k)
    have htables := ha.derives.tables
    by_cases hrebound : Rebound old u.tables k
    · rw [rebindMonitor_rebound (by rw [htables]; exact hrebound)]
      exact ha.next hk hrebound (silenceMonitor_done (by rw [ha.derives.control]; exact hmode))
    · rw [rebindMonitor_same (by rw [htables]; exact hrebound)]
      have hmem : ∀ j, j ∈ ks ++ [k] ∧ Rebound old u.tables j → j ∈ ks := by
        rintro j ⟨hj, hr⟩
        rcases List.mem_append.mp hj with hj | hj
        · exact hj
        · exact absurd (List.mem_singleton.mp hj ▸ hr) hrebound
      exact ⟨ha.derives, ha.keeps, ha.nodes, fun j hj hr => ha.silent j (hmem j ⟨hj, hr⟩) hr,
        fun j hj => ha.other j fun hc => hj ⟨List.mem_append_left _ hc.1, hc.2⟩,
        fun j hj hr => ha.commands j (hmem j ⟨hj, hr⟩) hr,
        fun j hj => ha.active j fun hc => hj (List.mem_append_left _ hc),
        fun hnone => ha.quiet fun j hj => hnone j (List.mem_append_left _ hj)⟩

theorem mem_sources (k : Source) : k ∈ sources := by
  cases k <;> decide

/-- Where one monitor alone is rebound, it is silenced and nothing else happens. -/
theorem monitors_alone (old : Tables) {u : State} (hmode : u.control.mode ≠ .service) {k : Source}
    (hrebound : Rebound old u.tables k) (halone : ∀ j, j ≠ k → ¬ Rebound old u.tables j) :
    sources.foldl (rebindMonitor old) u = silenceMonitor k u := by
  have htables : (silenceMonitor k u).tables = u.tables := (silenceMonitor_done (k := k) hmode).derives.tables
  have hself := rebindMonitor_rebound hrebound
  have hbefore : ∀ j, j ≠ k → rebindMonitor old u j = u := fun j hj => rebindMonitor_same (halone j hj)
  have hafter : ∀ j, j ≠ k → rebindMonitor old (silenceMonitor k u) j = silenceMonitor k u := by
    intro j hj
    refine rebindMonitor_same ?_
    rw [htables]
    exact halone j hj
  show rebindMonitor old (rebindMonitor old (rebindMonitor old u .cabA) .cabB) .dp = _
  cases k
  · rw [hself, hafter .cabB (by decide), hafter .dp (by decide)]
  · rw [hbefore .cabA (by decide), hself, hafter .dp (by decide)]
  · rw [hbefore .cabA (by decide), hbefore .cabB (by decide), hself]

/-! ## The whole write -/

/-- What a write of NODES brings about (R172); `l` holds the written entries. -/
structure NodesWritten (old : Tables) (l : List Nat) (u w : State) : Prop where
  derives : Derives [] nodesFlags u w
  inputs : w.lines.inputs = u.lines.inputs
  same : ∀ i ∈ l, getNode w i = nodeAfter old u.tables i (getNode u i)
  other : ∀ i, i ∉ l → getNode w i = getNode u i
  lost : ∀ i ∈ l, NodeExpires old u.tables i (getNode u i) → flagSet w .nodeLost = true ∧ LossLeft u.tables i w
  silent : ∀ k, Rebound old u.tables k → w.authority.monitors.get k = ⟨.silent, 0⟩
  kept : (∀ i ∈ l, ¬ NodeExpires old u.tables i (getNode u i)) → ∀ k, ¬ Rebound old u.tables k →
    w.authority.monitors.get k = u.authority.monitors.get k
  alone : (∀ i ∈ l, ¬ NodeExpires old u.tables i (getNode u i)) → ∀ k, Rebound old u.tables k →
    (∀ j, j ≠ k → ¬ Rebound old u.tables j) → Silenced k { u with link := { u.link with nodes := w.link.nodes } } w
  commands : (∀ i ∈ l, ¬ NodeExpires old u.tables i (getNode u i)) → ∀ k, Rebound old u.tables k →
    (u.authority.monitors.get k).state = .valid → u.authority.active = .source k → FellBack k w
  quiet : (∀ i ∈ l, ¬ NodeExpires old u.tables i (getNode u i)) → (∀ k, ¬ Rebound old u.tables k) →
    w = { u with link := { u.link with nodes := w.link.nodes } }

theorem afterNodesWrite_written (old : Tables) {u : State} (hmode : u.control.mode ≠ .service) (first count : Nat) :
    NodesWritten old (List.range' first count) u (afterNodesWrite old first count u) := by
  have ha := nodes_rewritten old hmode (List.range' first count) List.nodup_range'
  unfold afterNodesWrite
  generalize (List.range' first count).foldl (rewriteNode old) u = a at ha
  have hmode' : a.control.mode ≠ .service := by
    rw [ha.derives.control]
    exact hmode
  have hw := monitors_rebound old hmode' sources (by decide)
  have halone := fun k => monitors_alone old hmode' (k := k)
  generalize sources.foldl (rebindMonitor old) a = w at hw halone
  have hget : ∀ i, getNode w i = getNode a i := fun i => congrArg (fun nodes => nodes.getD i NodeRuntime.fresh) hw.nodes
  obtain ⟨hderives, hkeeps, hnodes, hsilent, hother, hcommands, -, hquiet⟩ := hw
  rw [ha.derives.tables] at hsilent hother hcommands hquiet halone
  refine ⟨(ha.derives.trans hderives).weaken (by simp [nodesFlags]), hkeeps.inputs.trans ha.keeps.inputs,
    fun i hi => (hget i).trans (ha.same i hi), fun i hi => (hget i).trans (ha.other i hi), fun i hi hexp => ?_,
    fun k hr => hsilent k (mem_sources k) hr, fun hnone k hr => ?_, fun hnone k hr hj => ?_, fun hnone k hr => ?_,
    fun hnone hr => ?_⟩
  · obtain ⟨hflag, hleft⟩ := ha.lost i hi hexp
    exact ⟨hderives.flag_stays hflag, hleft.kept hkeeps⟩
  · rw [hother k fun hc => hr hc.2, ha.quiet hnone]
  · have hdone := silenceMonitor_done (k := k) hmode'
    rw [← halone k hr hj] at hdone
    rw [hnodes, ← ha.quiet hnone]
    exact hdone
  · have hfell := hcommands k (mem_sources k) hr
    rw [ha.quiet hnone] at hfell
    exact hfell
  · rw [hquiet fun k _ => hr k]
    exact ha.quiet hnone

end Sys2Proof.Machine
end

section
/-! PROOF. The write of SLIDE (O53): what its obligation reads off. -/

namespace Sys2Proof.Machine

section
variable {src tag table count : Byte} {first : BitVec 16} {values : List Byte} {s : State}

/-- The written SLIDE table, with the axles, the timers and the sand request as they stood. -/
theorem writing_slideWritten (tag : Byte) (h : AcceptedWrite src table count first values .slide s) :
    SlideWritten (writing src tag table count first values .slide s)
      (afterSlideWrite (writing src tag table count first values .slide s)) :=
  afterSlideWrite_written h.mode rfl

/-- The active demand does not look at SLIDE. -/
theorem activeDemand_writing : activeDemand (writing src tag table count first values .slide s) = activeDemand s := rfl

theorem AcceptedWrite.slide (h : AcceptedWrite src table count first values .slide s) :
    let tables := writtenTables s .slide first.toNat (argEntries count first values .slide)
    let reached := fun (x : Timer) (limit : Nat) => ∃ e, x = .running e ∧ limit ≤ e
    let passed := fun (x : Timer) (limit : Nat) => ∃ e, x = .running e ∧ limit < e
    let axle := fun i : Fin 6 => s.slide.axles.get i
    let long := fun i : Fin 6 =>
      s.slide.speedState ≠ .lost ∧ passed (axle i).episode (tableField tables.slide 12 0)
    let stale := s.slide.speedState = .valid ∧ passed s.slide.staleTimer (tableField tables.slide 0 0)
    let hold := tableField tables.slide 19 0
    let called := tableField tables.slide 18 0 ≤ (six.filter (fun i =>
        decide ((axle i).state = .relief ∨ (axle i).state = .hold))).length
      ∨ (∃ i, (axle i).prolonged = true) ∨ (∃ i, long i) ∨ (activeDemand s).sand = true
    ∃ t, exec (.tableWrite src tag table first count values) s = .next t
      ∧ RaisedFrom [.configChanged] [.slideProlonged, .speedLost] (answered
        { s with
          tables := tables
          slide := { s.slide with
            axles := t.slide.axles
            speedState := t.slide.speedState
            staleTimer := t.slide.staleTimer
            sandRequest := t.slide.sandRequest
            sandTimer := t.slide.sandTimer }
          air := { s.air with standstill := t.air.standstill } }
        (responseFrame src tag .tableWrite .ok ([table] ++ be 2 first.toNat ++ [count]))) t
      ∧ (∀ i, (long i → t.slide.axles.get i = { axle i with episode := .stopped, prolonged := true }
          ∧ flagSet t .slideProlonged = true)
        ∧ (¬ long i → t.slide.axles.get i = axle i))
      ∧ (stale → t.slide.speedState = .lost ∧ t.slide.staleTimer = .stopped ∧ t.air.standstill = .stopped
        ∧ flagSet t .speedLost = true)
      ∧ (¬ stale → t.slide.speedState = s.slide.speedState ∧ t.slide.staleTimer = s.slide.staleTimer
        ∧ t.air = s.air ∧ flagSet t .speedLost = flagSet s .speedLost)
      ∧ (called → t.slide.sandRequest = true ∧ t.slide.sandTimer = .stopped)
      ∧ (¬ called → reached s.slide.sandTimer hold → t.slide.sandRequest = false ∧ t.slide.sandTimer = .stopped)
      ∧ (¬ called → ¬ reached s.slide.sandTimer hold → s.slide.sandRequest = false →
        t.slide.sandRequest = false ∧ t.slide.sandTimer = s.slide.sandTimer)
      ∧ (¬ called → ¬ reached s.slide.sandTimer hold → s.slide.sandRequest = true →
        if hold = 0 then t.slide.sandRequest = false ∧ t.slide.sandTimer = .stopped
        else t.slide.sandRequest = true ∧ t.slide.sandTimer = s.slide.sandTimer.startIfStopped) := by
  intro tables reached passed axle long stale hold called
  have hwritten := writing_slideWritten tag h
  have hw : afterWrite .slide s.tables first.toNat count.toNat (writing src tag table count first values .slide s) =
    afterSlideWrite (writing src tag table count first values .slide s) := rfl
  generalize afterSlideWrite (writing src tag table count first values .slide s) = w at hwritten hw
  obtain ⟨t, hexec, hraised, hflag⟩ := h.derives nofun hw hwritten.derives
  have hlong : ∀ i, long i ↔ episodeDue (writing src tag table count first values .slide s) i = true :=
    fun i => (episodeDue_iff (writing src tag table count first values .slide s) i).symm
  have hreached : ∀ x : Timer, reached x hold ↔ x.reached (sandHoldMs tables) = true :=
    fun x => (Timer.reached_iff x _).symm
  have hcalled : called ↔ SandCalledBy (writing src tag table count first values .slide s) := by
    unfold SandCalledBy
    simp only [← hlong]
    exact .rfl
  have hslide : t.slide = w.slide := hraised.answered_slide
  have hair : t.air = w.air := hraised.answered_air
  have hstay : ∀ {f}, flagSet w f = true → flagSet t f = true := fun hf => (hflag _).mpr (.inl hf)
  have hframe : derivedFrom { s with tables := tables } w = { s with
      tables := tables
      slide := { s.slide with
        axles := t.slide.axles
        speedState := t.slide.speedState
        staleTimer := t.slide.staleTimer
        sandRequest := t.slide.sandRequest
        sandTimer := t.slide.sandTimer }
      air := { s.air with standstill := t.air.standstill } } := by
    rw [hslide, hair]
    unfold derivedFrom
    rw [hwritten.apart.nodes, hwritten.apart.authority, hwritten.apart.brake, hwritten.apart.inputs,
      hwritten.slide, hwritten.air]
    rfl
  rw [hframe] at hraised
  refine ⟨t, hexec, hraised, fun i => ⟨fun hi => ?_, fun hi => ?_⟩, fun hs => ?_, fun hs => ?_, fun hc => ?_,
    fun hc hr => ?_, fun hc hr ho => ?_, fun hc hr ho => ?_⟩
  · obtain ⟨haxle, hf⟩ := (hwritten.axle i).1 ((hlong i).mp hi)
    rw [hslide]
    exact ⟨haxle, hstay hf⟩
  · rw [hslide]
    exact (hwritten.axle i).2 (mt (hlong i).mpr hi)
  · obtain ⟨hstate, htimer, hstand, hf⟩ := hwritten.stale hs
    rw [hslide, hair]
    exact ⟨hstate, htimer, hstand, hstay hf⟩
  · obtain ⟨hstate, htimer, hstand, hf⟩ := hwritten.fresh hs
    rw [hslide, hair]
    refine ⟨hstate, htimer, hstand, Bool.eq_iff_iff.mpr ?_⟩
    rw [hflag, hf]
    exact or_iff_left nofun
  · rw [hslide]
    exact hwritten.called (hcalled.mp hc)
  · rw [hslide]
    exact hwritten.expired (mt hcalled.mpr hc) ((hreached _).mp hr)
  · rw [hslide]
    exact hwritten.off (mt hcalled.mpr hc) (mt (hreached _).mpr hr) ho
  · rw [hslide]
    exact hwritten.held (mt hcalled.mpr hc) (mt (hreached _).mpr hr) ho

end

end Sys2Proof.Machine
end

section
/-! PROOF. The write of DISCRETE (O53): what its obligation reads off. -/

namespace Sys2Proof.Machine

theorem lineInverts_iff (old ts : Tables) (n : Fin 6) : lineInverts old ts n = true ↔
    ¬ (tableField old.discrete n.val 0 = 1 ↔ tableField ts.discrete n.val 0 = 1) := by
  unfold lineInverts lineActiveLow
  rw [bne_iff_ne, ne_eq, decide_eq_decide]

section
variable {src tag table count : Byte} {first : BitVec 16} {values : List Byte} {s : State}

theorem writing_linesRewritten (tag : Byte) (h : AcceptedWrite src table count first values .discrete s) :
    LinesRewritten s.tables (writtenLines first.toNat count.toNat) (writing src tag table count first values .discrete s)
      ((writtenLines first.toNat count.toNat).foldl (rewriteLine s.tables)
        (writing src tag table count first values .discrete s)) :=
  lines_rewritten s.tables (u := writing src tag table count first values .discrete s) h.mode _ (writtenLines_nodup _ _)

theorem AcceptedWrite.discrete (h : AcceptedWrite src table count first values .discrete s) :
    let tables := writtenTables s .discrete first.toNat (argEntries count first values .discrete)
    let done := responseFrame src tag .tableWrite .ok ([table] ++ be 2 first.toNat ++ [count])
    let written := fun i : Nat => first.toNat ≤ i ∧ i < first.toNat + count.toNat
    let reached := fun (x : Timer) (limit : Nat) => ∃ e, x = .running e ∧ limit ≤ e
    let setting := fun (ts : Tables) (n : Fin 6) (k : Nat) => tableField ts.discrete n.val k
    let line := fun n : Fin 6 => s.lines.inputs.get n
    let inverted := fun n : Fin 6 => written n.val
      ∧ ¬ (setting s.tables n 0 = 1 ↔ setting tables n 0 = 1)
    let level := fun n : Fin 6 => if inverted n then
        (if setting tables n 0 = 1 then !(line n).pin else (line n).pin)
      else (line n).present
    let accepts := fun n : Fin 6 =>
      inverted n ∧ level n ≠ (line n).accepted ∧ setting tables n 1 = 0
      ∨ written n.val ∧ ¬ inverted n ∧ setting s.tables n 1 ≠ setting tables n 1
        ∧ reached (line n).debounce (setting tables n 1)
    let matches_ := fun n : Fin 6 => setting tables n 2 = 1 ∧ level n = true
      ∨ setting tables n 2 = 2 ∧ level n = false ∨ setting tables n 2 = 3
    ∃ t, exec (.tableWrite src tag table first count values) s = .next t
      ∧ RaisedFrom [.configChanged] [.discreteEdge, .penalty, .emergency] (answered
        { s with
          tables := tables
          lines := { s.lines with inputs := t.lines.inputs }
          authority := t.authority
          brake := t.brake } done) t
      ∧ (∀ n,
        (¬ accepts n → ¬ inverted n → t.lines.inputs.get n = line n)
        ∧ (¬ accepts n → inverted n → t.lines.inputs.get n = { line n with
          present := level n
          debounce := if level n = (line n).accepted then .stopped else .running 0 })
        ∧ (accepts n → matches_ n → t.lines.inputs.get n = ⟨(line n).pin, level n, level n, .stopped, true⟩
          ∧ flagSet t .discreteEdge = true)
        ∧ (accepts n → ¬ matches_ n →
          t.lines.inputs.get n = ⟨(line n).pin, level n, level n, .stopped, (line n).edge⟩))
      ∧ (accepts 0 → t.authority = { s.authority with
          latch := s.authority.latch || level 0, resetTimer := t.authority.resetTimer }
        ∧ ResetTimerFollows s.authority.resetTimer t
        ∧ (level 0 = true → s.authority.latch = false → flagSet t .emergency = true))
      ∧ (¬ accepts 0 → t.authority = s.authority)
      ∧ (accepts 1 → level 1 = true → flagSet t .penalty = true)
      ∧ (accepts 2 → t.brake = (if level 2 then
            if s.brake.state = .cutout then s.brake else broughtOut s.brake .cutout none
          else if s.brake.state = .cutout then { s.brake with state := .off } else s.brake))
      ∧ (¬ accepts 2 → t.brake = s.brake)
      ∧ FlagsRaised [.configChanged] [.discreteEdge, .penalty, .emergency] s t
      ∧ ((∀ n, ¬ accepts n) → RaisedFrom [.configChanged] [] (answered
        { s with tables := tables, lines := { s.lines with inputs := t.lines.inputs } } done) t) := by
  intro tables done written reached setting line inverted level accepts matches_
  have hwritten := writing_linesRewritten tag h
  have hw : afterWrite .discrete s.tables first.toNat count.toNat (writing src tag table count first values .discrete s) =
    (writtenLines first.toNat count.toNat).foldl (rewriteLine s.tables)
      (writing src tag table count first values .discrete s) := rfl
  generalize (writtenLines first.toNat count.toNat).foldl (rewriteLine s.tables)
    (writing src tag table count first values .discrete s) = w at hwritten hw
  obtain ⟨t, hexec, hraised, hflag⟩ := h.derives nofun hw hwritten.derives
  have hmem : ∀ n : Fin 6, n ∈ writtenLines first.toNat count.toNat ↔ written n.val := mem_writtenLines _ _
  have hinverted : ∀ n, inverted n ↔ written n.val ∧ lineInverts s.tables tables n = true :=
    fun n => and_congr_right fun _ => (lineInverts_iff s.tables tables n).symm
  have hlevel : ∀ n, written n.val → level n = lineLevel s.tables tables n (line n) := by
    intro n hn
    by_cases hi : inverted n
    · refine (if_pos hi).trans ?_
      unfold lineLevel lineActiveLow
      rw [if_pos ((hinverted n).mp hi).2]
      simp only [decide_eq_true_eq]
      rfl
    · refine (if_neg hi).trans ?_
      unfold lineLevel
      rw [if_neg fun hc => hi ((hinverted n).mpr ⟨hn, hc⟩)]
  have haccepts : ∀ n, accepts n ↔ n ∈ writtenLines first.toNat count.toNat ∧
      Accepts s.tables (writing src tag table count first values .discrete s) n := by
    intro n
    rw [hmem]
    have htables : (writing src tag table count first values .discrete s).tables = tables := rfl
    have hinputs : (writing src tag table count first values .discrete s).lines.inputs = s.lines.inputs := rfl
    unfold Accepts LineAccepts
    rw [htables, hinputs, Timer.reached_iff, ← Bool.not_eq_true]
    show inverted n ∧ _ ∨ _ ↔ _
    rw [hinverted]
    constructor
    · rintro (⟨⟨hn, hi⟩, hne, hzero⟩ | ⟨hn, hi, hdebounce, hdue⟩)
      · exact ⟨hn, .inl ⟨hi, by rw [← hlevel n hn]; exact hne, hzero⟩⟩
      · exact ⟨hn, .inr ⟨fun hc => hi ⟨hn, hc⟩, hdebounce, hdue⟩⟩
    · rintro ⟨hn, ⟨hi, hne, hzero⟩ | ⟨hi, hdebounce, hdue⟩⟩
      · exact .inl ⟨⟨hn, hi⟩, by rw [hlevel n hn]; exact hne, hzero⟩
      · exact .inr ⟨hn, fun hc => hi hc.2, hdebounce, hdue⟩
  have hlevelAfter : ∀ n, accepts n →
      levelAfter s.tables (writing src tag table count first values .discrete s) n = level n :=
    fun n hn => (hlevel n ((hmem n).mp ((haccepts n).mp hn).1)).symm
  have hmatches : ∀ n, matches_ n ↔ edgeMatches tables n (level n) = true :=
    fun n => (edgeMatches_iff tables n (level n)).symm
  have hinputs : t.lines.inputs = w.lines.inputs := hraised.answered_inputs
  have hauthority : t.authority = w.authority := hraised.answered_authority
  have hbrake : t.brake = w.brake := hraised.answered_brake
  have htables : t.tables = tables := (hraised.keeps (List.mem_singleton.mpr rfl) rfl rfl rfl rfl rfl).tables
  have hstay : ∀ {f}, flagSet w f = true → flagSet t f = true := fun hf => (hflag _).mpr (.inl hf)
  have htaken : ∀ n, accepts n → t.lines.inputs.get n =
      ⟨(line n).pin, level n, level n, .stopped, (line n).edge || edgeMatches tables n (level n)⟩ := by
    intro n hn
    obtain ⟨hl, ha⟩ := (haccepts n).mp hn
    rw [hinputs, hwritten.taken n hl ha, ← hlevelAfter n hn]
    rfl
  have hcompared : ∀ n, ¬ accepts n → t.lines.inputs.get n = if inverted n then
      { line n with
        present := level n
        debounce := if level n = (line n).accepted then .stopped else .running 0 }
      else line n := by
    intro n hn
    rw [hinputs]
    by_cases hl : n ∈ writtenLines first.toNat count.toNat
    · rw [hwritten.compared n hl fun ha => hn ((haccepts n).mpr ⟨hl, ha⟩)]
      have hw' := (hmem n).mp hl
      rw [hlevel n hw']
      unfold lineCompared
      exact if_congr ((and_iff_right hw').symm.trans (hinverted n).symm) rfl rfl
    · rw [hwritten.other n hl, if_neg fun hi => hl ((hmem n).mpr hi.1)]
      rfl
  have hframe : derivedFrom { s with tables := tables } w = { s with
      tables := tables
      lines := { s.lines with inputs := t.lines.inputs }
      authority := t.authority
      brake := t.brake } := by
    rw [hinputs, hauthority, hbrake]
    unfold derivedFrom
    rw [hwritten.apart.nodes, hwritten.apart.slide, hwritten.apart.air]
    rfl
  rw [hframe] at hraised
  refine ⟨t, hexec, hraised, fun n => ⟨fun hn hi => ?_, fun hn hi => ?_, fun hn hm => ⟨?_, ?_⟩, fun hn hm => ?_⟩,
    fun hn => ?_, fun hn => ?_, fun hn hl => ?_, fun hn => ?_, fun hn => ?_, fun f => hraised.answered_flag, fun hnone => ?_⟩
  · exact (hcompared n hn).trans (if_neg hi)
  · exact (hcompared n hn).trans (if_pos hi)
  · rw [htaken n hn, (hmatches n).mp hm, Bool.or_true]
  · obtain ⟨hl, ha⟩ := (haccepts n).mp hn
    refine hstay (hwritten.edge n hl ha ?_)
    rw [hlevelAfter n hn]
    exact (hmatches n).mp hm
  · rw [htaken n hn, Bool.eq_false_iff.mpr (mt (hmatches n).mpr hm), Bool.or_false]
  · obtain ⟨hl, ha⟩ := (haccepts 0).mp hn
    obtain ⟨hlatch, hfollows, hemergency⟩ := hwritten.authority hl ha
    rw [hlevelAfter 0 hn] at hlatch hemergency
    refine ⟨?_, hfollows.congr hinputs (by rw [hauthority]) ?_, fun hl hclear => hstay (hemergency hl hclear)⟩
    · rw [hauthority]
      exact hlatch
    · exact htables.trans hwritten.derives.tables.symm
  · rw [hauthority]
    exact hwritten.stands fun hc => hn ((haccepts 0).mpr hc)
  · obtain ⟨hm, ha⟩ := (haccepts 1).mp hn
    exact hstay (hwritten.penalty hm ha ((hlevelAfter 1 hn).trans hl))
  · obtain ⟨hm, ha⟩ := (haccepts 2).mp hn
    rw [hbrake, hwritten.brake hm ha, hlevelAfter 2 hn]
    rfl
  · rw [hbrake]
    exact hwritten.keeps fun hc => hn ((haccepts 2).mpr hc)
  · have hquiet := hwritten.quiet fun n hn ha => hnone n ((haccepts n).mpr ⟨hn, ha⟩)
    obtain ⟨t', hexec', hraised', -⟩ := h.derives (tag := tag) nofun hw (Derives.quiet hquiet)
    obtain rfl := Host.Outcome.next.inj (hexec.symm.trans hexec')
    rw [hframe, hauthority, hbrake, hwritten.stands fun hc => hnone 0 ((haccepts 0).mpr hc),
      hwritten.keeps fun hc => hnone 2 ((haccepts 2).mpr hc)] at hraised'
    exact hraised'

end

end Sys2Proof.Machine
end

section
/-! PROOF. The write of NODES (O53): the rewritten entries, and a monitor silenced by it. -/

namespace Sys2Proof.Machine

/-! ## The entries (R144) -/

section
variable (old ts : Tables) (i : Nat) (r : NodeRuntime)

theorem sameNode_iff : sameNode old ts i = true ↔ nodeUsed old i = nodeUsed ts i
    ∧ nodeAddress old i = nodeAddress ts i ∧ nodePort old i = nodePort ts i ∧ nodeRole old i = nodeRole ts i := by
  unfold sameNode
  simp only [Bool.and_eq_true, decide_eq_true_eq, and_assoc]

theorem retime_live (limit : Nat) (h : r.liveness = .live) :
    retime limit r = { r with timer := if limit = 0 then .stopped else r.timer.startIfStopped } := if_pos h

theorem retime_other (limit : Nat) (h : r.liveness ≠ .live) : retime limit r = r := if_neg h

theorem startIfStopped_reached {limit : Nat} (h : limit ≠ 0) (x : Timer) :
    x.startIfStopped.reached limit = x.reached limit := by
  cases x with
  | running n => rfl
  | stopped => exact decide_eq_false (by omega)
  | expired => exact decide_eq_false (by omega)

theorem nodeExpires_iff : nodeExpires ts i r = true ↔ r.liveness = .live ∧ nodeUsed ts i = true ∧ nodeTimeout ts i ≠ 0
    ∧ r.timer.reached (nodeTimeout ts i) = true := by
  unfold nodeExpires
  by_cases hlive : r.liveness = .live
  · rw [retime_live r _ hlive]
    by_cases hlimit : nodeTimeout ts i = 0
    · simp [hlimit, Timer.reached]
    · rw [if_neg hlimit, startIfStopped_reached hlimit]
      simp [hlive, hlimit]
  · rw [retime_other r _ hlive]
    simp [hlive]

variable {old ts i r}

theorem nodeAfter_fresh (h : ¬ sameNode old ts i = true) : nodeAfter old ts i r = NodeRuntime.fresh := if_neg h

theorem nodeAfter_expired (h : NodeExpires old ts i r) :
    nodeAfter old ts i r = { r with liveness := .lost, timer := .stopped } := by
  obtain ⟨hsame, htimeout, hexpires⟩ := h
  unfold nodeAfter
  rw [if_pos hsame, if_neg htimeout, if_pos hexpires]

theorem nodeAfter_stands (hsame : sameNode old ts i = true)
    (h : ¬ (nodeTimeout old i ≠ nodeTimeout ts i ∧ r.liveness = .live)) : nodeAfter old ts i r = r := by
  unfold nodeAfter
  rw [if_pos hsame]
  by_cases htimeout : nodeTimeout old i = nodeTimeout ts i
  · exact if_pos htimeout
  · have hlive : r.liveness ≠ .live := fun hl => h ⟨htimeout, hl⟩
    rw [if_neg htimeout, if_neg (fun hx => hlive ((nodeExpires_iff ts i r).mp hx).1)]
    exact retime_other r _ hlive

theorem nodeAfter_retimed (hsame : sameNode old ts i = true) (htimeout : nodeTimeout old i ≠ nodeTimeout ts i)
    (hlive : r.liveness = .live) (hnot : ¬ NodeExpires old ts i r) : nodeAfter old ts i r =
      { r with timer := if nodeTimeout ts i = 0 then .stopped else r.timer.startIfStopped } := by
  unfold nodeAfter
  rw [if_pos hsame, if_neg htimeout, if_neg (fun hx => hnot ⟨hsame, htimeout, hx⟩)]
  exact retime_live r _ hlive

end

/-! ## A monitor silenced -/

/-- The two states hold the same records and tables. -/
structure SameRecords (x u : State) : Prop where
  authority : u.authority = x.authority
  slide : u.slide = x.slide
  brake : u.brake = x.brake
  air : u.air = x.air
  inputs : u.lines.inputs = x.lines.inputs
  tables : u.tables = x.tables

/-- A write that silences one monitor and nothing else is that source's loss (R3, R12). -/
theorem Silenced.answered {k : Source} {u v x t : State} {must may : List Flag} {f : OriginatedFrame}
    (h : Silenced k u v) (hsame : SameRecords x u) (hmode : x.control.mode ≠ .service)
    (hraised : RaisedFrom must may (Machine.answered (derivedFrom x v) f) t)
    (hstay : flagSet v .sourceLoss = true → flagSet t .sourceLoss = true)
    (htables : t.tables = x.tables) (hrecorder : t.recorder = x.recorder) : SourceSilenced k x t := by
  have hauthority : t.authority = v.authority := hraised.answered_authority
  have hslide : t.slide = v.slide := hraised.answered_slide
  have hbrake : t.brake = v.brake := hraised.answered_brake
  have hair : t.air = v.air := hraised.answered_air
  have hinputs : t.lines.inputs = v.lines.inputs := hraised.answered_inputs
  have hvtables : v.tables = x.tables := h.derives.tables.trans hsame.tables
  obtain ⟨-, -, -, hshape, hfollows, hstands, hsand, hvbrake, hvair, hflag⟩ := h
  have hevaluated : (evalSand { u with authority := v.authority }).slide = (evalSand { x with authority := v.authority }).slide :=
    evalSand_slide_congr hsame.slide hsame.tables rfl hsame.inputs
  rw [hevaluated] at hsand
  rw [hsame.authority] at hshape hfollows hstands hsand hflag
  rw [hsame.slide] at hsand
  have hcommon : (silencedAuthority k x.authority).good = x.authority.good
      ∧ (silencedAuthority k x.authority).lock = x.authority.lock
      ∧ (silencedAuthority k x.authority).autoMark = x.authority.autoMark
      ∧ (silencedAuthority k x.authority).latch = x.authority.latch := by
    unfold silencedAuthority
    split <;> exact ⟨rfl, rfl, rfl, rfl⟩
  obtain ⟨hgood, hlock, hmark, hlatch⟩ := hcommon
  have haxles : v.slide.axles = x.slide.axles ∧ v.slide.vRef = x.slide.vRef := by
    rw [hsand]
    split
    · obtain ⟨request, timer, hframe⟩ := evalSand_frame { x with authority := v.authority }
      rw [hframe]
      exact ⟨rfl, rfl⟩
    · exact ⟨rfl, rfl⟩
  unfold SourceSilenced
  rw [hauthority, hslide, hbrake, hair]
  refine ⟨?_, ?_, ?_, ?_, ?_, ?_, ?_, hsand, hvbrake.trans hsame.brake, hvair.trans hsame.air, haxles⟩
  · rw [hshape]
    exact silencedAuthority_monitors k x.authority
  · rw [hshape]
    exact hgood
  · rw [hshape]
    exact hlock
  · rw [hshape]
    exact hmark
  · rw [hshape]
    exact hlatch
  · split
    next hcommands =>
      have hlost : silencedAuthority k x.authority = lostAuthority k x.authority := if_pos hcommands
      rw [hlost] at hshape
      rw [deliverTrigger_off (.inl (by exact hmode))]
      refine ⟨?_, ?_, ?_, ?_, ?_, hstay (hflag hcommands.1 hcommands.2), hrecorder⟩ <;> rw [hshape] <;> rfl
    next hnot =>
      have hkept : silencedAuthority k x.authority =
          { x.authority with monitors := x.authority.monitors.set k ⟨.silent, 0⟩ } := if_neg hnot
      rw [hkept] at hshape
      refine ⟨hrecorder, ?_, ?_, ?_, ?_, ?_⟩ <;> rw [hshape]
  · split
    next hvalid => exact (hfollows hvalid).congr hinputs hauthority (htables.trans hvtables.symm)
    next hvalid => exact hstands hvalid

end Sys2Proof.Machine
end

section
/-! PROOF. The write of NODES (O53): what its obligation reads off. -/

namespace Sys2Proof.Machine

section
variable {src tag table count : Byte} {first : BitVec 16} {values : List Byte} {s : State}

theorem writing_nodesWritten (tag : Byte) (h : AcceptedWrite src table count first values .nodes s) :
    NodesWritten s.tables (List.range' first.toNat count.toNat) (writing src tag table count first values .nodes s)
      (afterNodesWrite s.tables first.toNat count.toNat (writing src tag table count first values .nodes s)) :=
  afterNodesWrite_written s.tables (u := writing src tag table count first values .nodes s) h.mode _ _

theorem AcceptedWrite.nodes (h : AcceptedWrite src table count first values .nodes s) :
    let tables := writtenTables s .nodes first.toNat (argEntries count first values .nodes)
    let done := responseFrame src tag .tableWrite .ok ([table] ++ be 2 first.toNat ++ [count])
    let written := fun i : Nat => first.toNat ≤ i ∧ i < first.toNat + count.toNat
    let reached := fun (x : Timer) (limit : Nat) => ∃ e, x = .running e ∧ limit ≤ e
    let same := fun i : Nat => nodeUsed s.tables i = nodeUsed tables i
      ∧ nodeAddress s.tables i = nodeAddress tables i ∧ nodePort s.tables i = nodePort tables i
      ∧ nodeRole s.tables i = nodeRole tables i
    let limit := nodeTimeout tables
    let node := getNode s
    let retimed := fun i : Nat =>
      written i ∧ same i ∧ nodeTimeout s.tables i ≠ limit i ∧ (node i).liveness = .live
    let expires := fun i : Nat =>
      retimed i ∧ nodeUsed tables i = true ∧ limit i ≠ 0 ∧ reached (node i).timer (limit i)
    let place := fun (ts : Tables) (k : Source) =>
      (binding ts (sourceRole k)).map (fun i => (i, nodeAddress ts i, nodePort ts i))
    let rebound := fun k : Source => place s.tables k ≠ place tables k
    let none_ := ∀ i : Fin 32, ¬ expires i.val
    ∃ t, exec (.tableWrite src tag table first count values) s = .next t
      ∧ RaisedFrom [.configChanged]
        [.nodeLost, .sourceLoss, .speedLost, .dbTrip, .valveLost] (answered
        { s with
          tables := tables
          link := { s.link with nodes := t.link.nodes }
          authority := t.authority
          slide := t.slide
          brake := t.brake
          air := t.air } done) t
      ∧ (∀ i : Fin 32,
        (written i.val → ¬ same i.val → getNode t i.val = NodeRuntime.fresh)
        ∧ (¬ written i.val ∨ same i.val → ¬ retimed i.val → getNode t i.val = node i.val)
        ∧ (retimed i.val → limit i.val = 0 → getNode t i.val = { node i.val with timer := .stopped })
        ∧ (retimed i.val → limit i.val ≠ 0 → ¬ expires i.val →
          getNode t i.val = { node i.val with timer := (node i.val).timer.startIfStopped })
        ∧ (expires i.val → getNode t i.val = { node i.val with liveness := .lost, timer := .stopped }
          ∧ flagSet t .nodeLost = true
          ∧ LossLeft tables i.val t))
      ∧ (∀ k, rebound k → t.authority.monitors.get k = ⟨.silent, 0⟩)
      ∧ (none_ → (∀ k, ¬ rebound k → t.authority.monitors.get k = s.authority.monitors.get k)
        ∧ (∀ k, rebound k → (∀ j, j ≠ k → ¬ rebound j) → SourceSilenced k { s with tables := tables } t)
        ∧ (∀ k, rebound k → (s.authority.monitors.get k).state = .valid → s.authority.active = .source k →
          FellBack k t)
        ∧ ((∀ k, ¬ rebound k) → RaisedFrom [.configChanged] [] (answered
          { s with tables := tables, link := { s.link with nodes := t.link.nodes } } done) t)) := by
  intro tables done written reached same limit node retimed expires place rebound none_
  have hwritten := writing_nodesWritten tag h
  have hw : afterWrite .nodes s.tables first.toNat count.toNat (writing src tag table count first values .nodes s) =
    afterNodesWrite s.tables first.toNat count.toNat (writing src tag table count first values .nodes s) := rfl
  generalize afterNodesWrite s.tables first.toNat count.toNat (writing src tag table count first values .nodes s) = w
    at hwritten hw
  obtain ⟨t, hexec, hraised, hflag⟩ := h.derives nofun hw hwritten.derives
  have hauthority : t.authority = w.authority := hraised.answered_authority
  have hslide : t.slide = w.slide := hraised.answered_slide
  have hbrake : t.brake = w.brake := hraised.answered_brake
  have hair : t.air = w.air := hraised.answered_air
  have hnodes : t.link.nodes = w.link.nodes := hraised.answered_nodes
  have hkeeps : WriteKeeps s t tables := hraised.keeps (List.mem_singleton.mpr rfl) rfl rfl rfl rfl rfl
  have hstay : ∀ {f}, flagSet w f = true → flagSet t f = true := fun hf => (hflag _).mpr (.inl hf)
  have hget : ∀ i, getNode t i = getNode w i := by
    intro i
    unfold getNode
    rw [hnodes]
  have hmem : ∀ i, i ∈ List.range' first.toNat count.toNat ↔ written i := fun i => List.mem_range'_1
  have hsame : ∀ i, same i ↔ sameNode s.tables tables i = true := fun i => (sameNode_iff s.tables tables i).symm
  have hexpires : ∀ i, expires i ↔ written i ∧ NodeExpires s.tables tables i (node i) := by
    intro i
    unfold NodeExpires
    rw [nodeExpires_iff, Timer.reached_iff, ← hsame]
    constructor
    · rintro ⟨⟨hi, hs, htimeout, hlive⟩, hused, hlimit, hdue⟩
      exact ⟨hi, hs, htimeout, hlive, hused, hlimit, hdue⟩
    · rintro ⟨hi, hs, htimeout, hlive, hused, hlimit, hdue⟩
      exact ⟨⟨hi, hs, htimeout, hlive⟩, hused, hlimit, hdue⟩
  have hnode : ∀ i, written i → getNode t i = nodeAfter s.tables tables i (node i) :=
    fun i hi => (hget i).trans (hwritten.same i ((hmem i).mpr hi))
  have hunexpired : none_ → ∀ i ∈ List.range' first.toNat count.toNat, ¬ NodeExpires s.tables tables i (node i) := by
    intro hnone i hi hx
    have hbound : i < 32 := by
      have hfits := h.fits.2
      have hupper := ((hmem i).mp hi).2
      have hsize : tableEntries .nodes = 32 := rfl
      omega
    exact hnone ⟨i, hbound⟩ ((hexpires i).mpr ⟨(hmem i).mp hi, hx⟩)
  have hframe : derivedFrom { s with tables := tables } w = { s with
      tables := tables
      link := { s.link with nodes := t.link.nodes }
      authority := t.authority
      slide := t.slide
      brake := t.brake
      air := t.air } := by
    rw [hauthority, hslide, hbrake, hair, hnodes]
    unfold derivedFrom
    rw [hwritten.inputs]
    rfl
  have hraised' := hraised
  rw [hframe] at hraised'
  refine ⟨t, hexec, hraised', fun i => ⟨fun hi hs => ?_, fun hi hr => ?_, fun hr hz => ?_, fun hr hz hx => ?_,
    fun hx => ⟨?_, ?_⟩⟩, fun k hk => ?_, fun hnone => ⟨fun k hk => ?_, fun k hk halone => ?_, fun k hk hv ha => ?_,
    fun hstands => ?_⟩⟩
  · exact (hnode i.val hi).trans (nodeAfter_fresh (mt (hsame _).mpr hs))
  · by_cases hwi : written i.val
    · have hs := hi.resolve_left (not_not.mpr hwi)
      exact (hnode i.val hwi).trans (nodeAfter_stands ((hsame _).mp hs) fun hc => hr ⟨hwi, hs, hc⟩)
    · exact (hget i.val).trans (hwritten.other i.val (mt (hmem _).mp hwi))
  · obtain ⟨hi, hs, htimeout, hlive⟩ := hr
    have hnot : ¬ NodeExpires s.tables tables i.val (node i.val) := fun hx =>
      ((nodeExpires_iff _ _ _).mp hx.2.2).2.2.1 hz
    rw [hnode i.val hi, nodeAfter_retimed ((hsame _).mp hs) htimeout hlive hnot]
    exact congrArg (fun x => { node i.val with timer := x }) (if_pos hz)
  · obtain ⟨hi, hs, htimeout, hlive⟩ := hr
    have hnot : ¬ NodeExpires s.tables tables i.val (node i.val) := fun hn => hx ((hexpires _).mpr ⟨hi, hn⟩)
    rw [hnode i.val hi, nodeAfter_retimed ((hsame _).mp hs) htimeout hlive hnot]
    exact congrArg (fun x => { node i.val with timer := x }) (if_neg hz)
  · obtain ⟨hi, hn⟩ := (hexpires _).mp hx
    exact (hnode i.val hi).trans (nodeAfter_expired hn)
  · obtain ⟨hi, hn⟩ := (hexpires _).mp hx
    obtain ⟨hlost, hleft⟩ := hwritten.lost i.val ((hmem _).mpr hi) hn
    refine ⟨hstay hlost, ?_⟩
    unfold LossLeft
    rw [hslide, hair, hauthority]
    exact hleft
  · rw [hauthority]
    exact hwritten.silent k hk
  · rw [hauthority]
    exact hwritten.kept (hunexpired hnone) k hk
  · refine (hwritten.alone (hunexpired hnone) k hk halone).answered ⟨rfl, rfl, rfl, rfl, rfl, rfl⟩ h.mode hraised hstay
      hkeeps.tables hkeeps.recorder
  · obtain ⟨hactive, hphase, hlost, hhold, hf⟩ := hwritten.commands (hunexpired hnone) k hk hv ha
    unfold FellBack
    rw [hauthority]
    exact ⟨hactive, hphase, hlost, hhold, hstay hf⟩
  · have hquiet := hwritten.quiet (hunexpired hnone) hstands
    have hderived : w = derivedFrom (writing src tag table count first values .nodes s) w := by
      rw [hquiet]
      rfl
    obtain ⟨t', hexec', hraised''⟩ := h.quiet (tag := tag) nofun hw hderived
    obtain rfl := Host.Outcome.next.inj (hexec.symm.trans hexec')
    have hstand : derivedFrom { s with tables := tables } w =
        { s with tables := tables, link := { s.link with nodes := t.link.nodes } } := by
      rw [hnodes, hquiet]
      rfl
    rw [hstand] at hraised''
    exact hraised''

end

end Sys2Proof.Machine
end

section
/-! PROOF. TABLE_WRITE (O53): the write ranges, field by field (R170). -/

namespace Sys2Proof.Machine

/-- A range per entry, as the tables of R170 list them. -/
def InListedRange (limits : List (Nat × Nat)) (n v : Nat) : Prop :=
  (limits.getD n (0, 0)).1 ≤ v ∧ v ≤ (limits.getD n (0, 0)).2

theorem blendRange_iff {n : Nat} (hn : n < 10) (v : Nat) : blendRange n v = true ↔
    InListedRange [(0, 720), (1, 120), (1, 120), (1, 120), (1, 1000), (0, 1000), (0, 1000), (1, 255), (1, 600),
      (0, 1000)] n v := by
  interval_cases n <;> exact within_iff _ _ _

theorem heatRange_iff {n : Nat} (hn : n < 4) (v : Nat) : heatRange n v = true ↔
    InListedRange [(0, 4294967294), (1, 4294967295), (0, 65535), (0, 65535)] n v := by
  interval_cases n <;> exact within_iff _ _ _

theorem dbRange_iff {n : Nat} (hn : n < 5) (v : Nat) : dbRange n v = true ↔
    InListedRange [(100, 10000), (100, 60000), (0, 1000), (0, 1000), (100, 10000)] n v := by
  interval_cases n <;> exact within_iff _ _ _

theorem slideRange_iff {n : Nat} (hn : n < 20) (v : Nat) : slideRange n v = true ↔
    InListedRange [(20, 500), (5, 1000), (5, 1000), (0, 1), (0, 2000), (0, 2000), (0, 500), (0, 500),
      (0, 10000), (2, 8), (1, 1000), (1, 1000), (500, 30000), (0, 1000), (0, 1000), (0, 5000), (100, 5000),
      (1000, 60000), (1, 6), (0, 30000)] n v := by
  interval_cases n <;> exact within_iff _ _ _

theorem sourceRange_iff {n : Nat} (hn : n < 4) (v : Nat) : sourceRange n v = true ↔
    InListedRange [(1, 3), (2, 16), (100, 60000), (10000, 120000)] n v := by
  interval_cases n <;> exact within_iff _ _ _

theorem patternRange_iff (fields : List Nat) : entryInRange .patterns 0 fields = true ↔
    fields.getD 0 0 ≤ 1 ∧ fields.getD 1 0 ≤ 2 ∧ fields.getD 2 0 ≤ 255 ∧ fields.getD 3 0 ≤ 4294967295
      ∧ fields.getD 4 0 ≤ 65535 := by
  have hword : fields.getD 3 0 < 2 ^ 32 ↔ fields.getD 3 0 ≤ 4294967295 := by omega
  simp only [entryInRange, Bool.and_eq_true, decide_eq_true_eq, within_iff, Nat.zero_le, true_and, and_assoc, hword]

theorem discreteRange_iff (fields : List Nat) : entryInRange .discrete 0 fields = true ↔
    fields.getD 0 0 ≤ 1 ∧ fields.getD 1 0 ≤ 100 ∧ fields.getD 2 0 ≤ 3 := by
  simp only [entryInRange, Bool.and_eq_true, within_iff, Nat.zero_le, true_and, and_assoc]

theorem diameterRange_iff (n v : Nat) : (if n < 6 then within 900 1270 v else within 500 1500 v) = true ↔
    if n < 6 then 900 ≤ v ∧ v ≤ 1270 else 500 ≤ v ∧ v ≤ 1500 := by
  split <;> exact within_iff _ _ _

end Sys2Proof.Machine
end

section
/-! PROOF. TABLE_WRITE (O53): the timers of SOURCE and the notice of REPORTING as the obligation reads them, and what
every accepted write leaves. -/

namespace Sys2Proof.Machine

/-- A command has one outcome. -/
theorem next_determined {c : Instr} {s t : State} {P : State → Prop} (ht : exec c s = .next t)
    (h : ∃ u, exec c s = .next u ∧ P u) : P t := by
  obtain ⟨u, hu, hP⟩ := h
  obtain rfl := Host.Outcome.next.inj (ht.symm.trans hu)
  exact hP

/-! ## SOURCE (R13, R20) -/

section
variable {src tag table count : Byte} {first : BitVec 16} {values : List Byte} {s : State}

theorem AcceptedWrite.source_timers (h : AcceptedWrite src table count first values .source s) :
    let tables := writtenTables s .source first.toNat (argEntries count first values .source)
    let reached := fun (x : Timer) (limit : Nat) => ∃ e, x = .running e ∧ limit ≤ e
    let ends := reached s.authority.holdTimer (tableField tables.source 2 0)
    ∃ t, exec (.tableWrite src tag table first count values) s = .next t
      ∧ RaisedFrom [.configChanged] [] (answered
        (withSand { s with
          tables := tables
          authority := { s.authority with
            phase := t.authority.phase
            holdTimer := t.authority.holdTimer
            resetTimer := t.authority.resetTimer } } t)
        (responseFrame src tag .tableWrite .ok ([table] ++ be 2 first.toNat ++ [count]))) t
      ∧ (ends → t.authority.phase = .penalty ∧ t.authority.holdTimer = .stopped
          ∧ t.slide = (evalSand { s with tables := tables, authority := t.authority }).slide)
      ∧ (¬ ends → t.authority.phase = s.authority.phase ∧ t.authority.holdTimer = s.authority.holdTimer
          ∧ t.slide = s.slide)
      ∧ ∀ before : Timer, ResetTimerFollows s.authority.resetTimer
          { t with authority := { t.authority with resetTimer := before } } →
        (reached before (tableField tables.source 3 0) → t.authority.resetTimer = .expired)
        ∧ (¬ reached before (tableField tables.source 3 0) → t.authority.resetTimer = before) := by
  intro tables reached ends
  obtain ⟨t, hexec, hraised, hends, hruns, timer, htimer, hfollows⟩ := h.source (tag := tag)
  have hreached : ∀ (x : Timer) (limit : Nat), reached x limit ↔ x.reached limit = true :=
    fun x limit => (Timer.reached_iff x limit).symm
  refine ⟨t, hexec, hraised, fun he => hends ((hreached _ _).mp he), fun he => hruns (mt (hreached _ _).mpr he),
    fun before hbefore => ?_⟩
  have hsame : before = timer := hfollows.unique hbefore .rfl rfl rfl
  rw [hsame, hreached]
  exact ⟨fun hdue => htimer.trans (if_pos hdue), fun hdue => htimer.trans (if_neg hdue)⟩

/-! ## REPORTING (R154) -/

/-- A notice does not look at what a response leaves. -/
theorem formNotice_answered (u : State) (f : OriginatedFrame) : formNotice (answered u f) = formNotice u := by
  unfold answered
  rw [enterResponse_eq]
  rfl

end

/-! ## Every accepted write (R171) -/

section
variable {src tag table count : Byte} {first : BitVec 16} {values : List Byte} {id : TableId} {s : State}

theorem noticedAnew_keeps {s u : State} {ts : Tables} (h : WriteKeeps s u ts) : WriteKeeps s (noticedAnew u) ts := by
  unfold noticedAnew
  dsimp only
  rw [handOver_c]
  exact ⟨h.tables, h.config, h.control, h.blend, h.ePort, h.own, h.recorder⟩

theorem reportingMarked_keeps (s : State) (ts : Tables) (f : OriginatedFrame) :
    WriteKeeps s (answered (reportingMarked { s with tables := ts }) f) ts := by
  have hflag : flagSet (reportingMarked { s with tables := ts }) .configChanged = true := by
    show (s.lines.flags ||| flagMask .configChanged).getLsbD (flagBit .configChanged) = true
    rw [BitVec.getLsbD_or, Bool.or_eq_true]
    exact .inr rfl
  have hset := (flagSet_congr (Machine.answered_flags (reportingMarked { s with tables := ts }) f) .configChanged).trans hflag
  refine ⟨?_, hset, ?_, ?_, ?_, ?_, ?_⟩ <;> unfold answered <;> rw [enterResponse_eq] <;> rfl

theorem AcceptedWrite.keeps (h : AcceptedWrite src table count first values id s) :
    ∃ t, exec (.tableWrite src tag table first count values) s = .next t
      ∧ WriteKeeps s t (writtenTables s id first.toNat (argEntries count first values id)) := by
  cases id
  case nodes =>
    obtain ⟨t, hexec, hraised, -⟩ := h.nodes (tag := tag)
    exact ⟨t, hexec, hraised.keeps (by simp) rfl rfl rfl rfl rfl⟩
  case axle =>
    obtain ⟨t, hexec, hraised⟩ := h.axle (tag := tag)
    exact ⟨t, hexec, hraised.keeps (by simp) rfl rfl rfl rfl rfl⟩
  case heat =>
    obtain ⟨t, hexec, hraised⟩ := h.heat (tag := tag)
    refine ⟨t, hexec, hraised.keeps ?_ rfl rfl rfl rfl rfl⟩
    split <;> simp
  case slide =>
    obtain ⟨t, hexec, hraised, -⟩ := h.slide (tag := tag)
    exact ⟨t, hexec, hraised.keeps (by simp) rfl rfl rfl rfl rfl⟩
  case source =>
    obtain ⟨t, hexec, hraised, -⟩ := h.source (tag := tag)
    exact ⟨t, hexec, hraised.keeps (by simp) rfl rfl rfl rfl rfl⟩
  case discrete =>
    obtain ⟨t, hexec, hraised, -⟩ := h.discrete (tag := tag)
    exact ⟨t, hexec, hraised.keeps (by simp) rfl rfl rfl rfl rfl⟩
  case reporting =>
    obtain ⟨t, hexec, hquiet, hnoticed⟩ := h.reporting (tag := tag)
    refine ⟨t, hexec, ?_⟩
    have hafter := reportingMarked_keeps s (writtenTables s .reporting first.toNat (argEntries count first values .reporting))
      (responseFrame src tag .tableWrite .ok ([table] ++ be 2 first.toNat ++ [count]))
    by_cases hasked : noticeAsked s (writtenTables s .reporting first.toNat (argEntries count first values .reporting)) = true
        ∧ noticeNode (writtenTables s .reporting first.toNat (argEntries count first values .reporting)) ≠ 0
    · rw [hnoticed hasked.1 hasked.2]
      exact noticedAnew_keeps hafter
    · rw [hquiet]
      · exact hafter
      · rw [not_and_or, Bool.not_eq_true, not_not] at hasked
        exact hasked
  all_goals
    obtain ⟨t, hexec, hraised⟩ := h.plain (tag := tag) (by simp)
    exact ⟨t, hexec, hraised.keeps (by simp) rfl rfl rfl rfl rfl⟩

end

end Sys2Proof.Machine
end

section
/-! PROOF. O53, TABLE_WRITE. -/

namespace Sys2Proof.Machine

/-! ## The entries as the obligation spells them (R171) -/

section
variable (count : Byte) (first : BitVec 16) (values : List Byte) (id : TableId)

/-- Entry `j` of a write, read from its bytes by offset and width. -/
def spelledEntry (j : Nat) : List Nat :=
  let raw := (values.drop (j * ((fieldLayout id).map Prod.snd).sum)).take ((fieldLayout id).map Prod.snd).sum
  let fields := (fieldLayout id).map
    (fun x => ((raw.drop x.1).take x.2).foldl (fun (n : Nat) (b : Byte) => 256 * n + b.toNat) 0)
  if (id = .auto ∨ id = .dbCurve ∨ id = .adhPlain ∨ id = .adhSanded) ∧ first.toNat + j = 0 then [fields.getD 0 0, 0]
  else fields

theorem argEntries_spelled : (List.range count.toNat).map (spelledEntry first values id) = argEntries count first values id := by
  unfold argEntries
  rw [readEntries_eq]
  refine List.map_congr_left fun j _ => ?_
  unfold spelledEntry
  rw [normalEntry_eq, readFields_layout, fieldLayout_size]

theorem argEntries_sound : (∀ j, j < count.toNat →
      entryInRange id (first.toNat + j) ((argEntries count first values id).getD j []) = true) ↔
    allInRange id first.toNat (argEntries count first values id) = true := by
  rw [allInRange_iff, argEntries_length]

theorem writtenTables_spelled (s : State) : setTable s.tables id
      ⟨(getTable s.tables id).entries.take first.toNat ++ argEntries count first values id
        ++ (getTable s.tables id).entries.drop (first.toNat + count.toNat), true⟩ =
    writtenTables s id first.toNat (argEntries count first values id) := by
  unfold writtenTables replaceEntries
  rw [argEntries_length]

end

/-- Settles O53: the write ranges by table; a write's refusals in order; and an accepted write by its table, each from
what its derived state follows. -/
theorem tableWritten : Obligations.TableWritten := by
  unfold Obligations.TableWritten
  refine ⟨fun id n fields hn => ?_, fun src tag table count first values id s hr hm hid hlen => ?_⟩
  · cases id
    case nodes => exact nodeRange_iff fields
    case classSets => exact within_from_zero _ _
    case handle => exact within_from_zero _ _
    case axle => exact diameterRange_iff n _
    case blend => exact blendRange_iff hn _
    case heat => exact heatRange_iff hn _
    case db => exact dbRange_iff hn _
    case slide => exact slideRange_iff hn _
    case source => exact sourceRange_iff hn _
    case recorder => exact recorderRange_iff hn _
    case patterns => exact patternRange_iff fields
    case discrete => exact discreteRange_iff fields
    case reporting => exact reportingRange_iff hn _
    all_goals exact curveRange_iff n fields
  intro respond write open_ fits number layout size curve entries sound old tables done written reached passed
  have hlayout : layout = fieldLayout id := by cases id <;> rfl
  have hentries : entries = argEntries count first values id := by
    rw [← argEntries_spelled]
    refine List.map_congr_left fun j _ => ?_
    unfold spelledEntry
    rw [← hlayout]
  have hsound : sound ↔ allInRange id first.toNat (argEntries count first values id) = true := by
    rw [← argEntries_sound, ← hentries]
  have htables : tables = writtenTables s id first.toNat (argEntries count first values id) := by
    rw [← writtenTables_spelled, ← hentries]
  refine ⟨fun hmode => tableWrite_inService table count first values hr hm hid hlen hmode,
    fun hmode hbusy => tableWrite_busy table count first values hr hm hid hlen hmode hbusy,
    fun hopen hbad => tableWrite_badArg table count first values hr hm hid hlen hopen.1 hopen.2
      (hbad.imp_right (mt hsound.mpr)), fun hopen hfits hs => ?_⟩
  have hwrite : AcceptedWrite src table count first values id s :=
    ⟨hr, hm, hid, hlen, hopen.1, hopen.2, hfits, hsound.mp hs⟩
  obtain ⟨t, hexec, hkeeps⟩ := hwrite.keeps (tag := tag)
  clear_value tables
  subst htables
  obtain ⟨htables, hconfig, hcontrol, hblend, hePort, hown, hrecorder⟩ := hkeeps
  refine ⟨t, hexec, htables, hconfig, hcontrol, congrArg Recorder.ring hrecorder, hblend, hePort, hown, hrecorder,
    fun hplain => next_determined hexec (hwrite.plain hplain), fun haxle => ?_, fun hheat => ?_, fun hnodes => ?_,
    fun hsource => ?_, fun hslide => ?_, fun hdiscrete => ?_, fun hreporting => ?_⟩
  · subst haxle
    exact next_determined hexec hwrite.axle
  · subst hheat
    exact next_determined hexec hwrite.heat
  · subst hnodes
    exact next_determined hexec hwrite.nodes
  · subst hsource
    exact next_determined hexec hwrite.source_timers
  · subst hslide
    exact next_determined hexec hwrite.slide
  · subst hdiscrete
    exact next_determined hexec hwrite.discrete
  · subst hreporting
    obtain ⟨hquiet, hnoticed⟩ := next_determined hexec (hwrite.reporting (tag := tag))
    refine ⟨hquiet, fun hasked hnode => ?_⟩
    rw [hnoticed hasked hnode]
    unfold noticedAnew
    rw [formNotice_answered]
    rfl

end Sys2Proof.Machine
end
